-- ==== Sys2Proof/Word.lean ====
section
/-! DEFINITION. The plainest value types of the SB-416 model: bytes, bay addresses and a table with one place
for each of twelve addresses or alarm kinds (spec/00_scope.md "Conventions"). -/

namespace Sys2Proof

/-- One byte of a frame payload, of a probe link exchange or of the configuration memory. -/
abbrev Byte := BitVec 8

/-- A bay station's address. The value `i` stands for address `i + 1`, so the twelve values are the
addresses 1 to 12 (spec/00_scope.md "Addresses"). -/
abbrev BayAddress := Fin 12

/-- The address as the house line and the rules number it, 1 to 12. -/
def BayAddress.number (a : BayAddress) : Nat := a.val + 1

/-- A table with one entry for each of twelve places: the peer table (R42), the claim and notice marks (R48) and
the alarm table (R154). -/
structure Twelve (α : Type) where
  e1 : α
  e2 : α
  e3 : α
  e4 : α
  e5 : α
  e6 : α
  e7 : α
  e8 : α
  e9 : α
  e10 : α
  e11 : α
  e12 : α
  deriving DecidableEq, Repr

namespace Twelve

variable {α β : Type}

/-- The same entry in every place. -/
def all (x : α) : Twelve α := ⟨x, x, x, x, x, x, x, x, x, x, x, x⟩

/-- The entry at a place. -/
def get (t : Twelve α) : Fin 12 → α
  | 0 => t.e1
  | 1 => t.e2
  | 2 => t.e3
  | 3 => t.e4
  | 4 => t.e5
  | 5 => t.e6
  | 6 => t.e7
  | 7 => t.e8
  | 8 => t.e9
  | 9 => t.e10
  | 10 => t.e11
  | 11 => t.e12

/-- The table with another entry at one place. -/
def set (t : Twelve α) (i : Fin 12) (x : α) : Twelve α :=
  match i with
  | 0 => { t with e1 := x }
  | 1 => { t with e2 := x }
  | 2 => { t with e3 := x }
  | 3 => { t with e4 := x }
  | 4 => { t with e5 := x }
  | 5 => { t with e6 := x }
  | 6 => { t with e7 := x }
  | 7 => { t with e8 := x }
  | 8 => { t with e9 := x }
  | 9 => { t with e10 := x }
  | 10 => { t with e11 := x }
  | 11 => { t with e12 := x }

/-- The table whose entry at each place is formed from the place. -/
def form (f : Fin 12 → α) : Twelve α :=
  ⟨f 0, f 1, f 2, f 3, f 4, f 5, f 6, f 7, f 8, f 9, f 10, f 11⟩

/-- The entries in order of their places. -/
def toList (t : Twelve α) : List α :=
  [t.e1, t.e2, t.e3, t.e4, t.e5, t.e6, t.e7, t.e8, t.e9, t.e10, t.e11, t.e12]

end Twelve

/-- The twelve places in order. -/
def twelvePlaces : List (Fin 12) := [0, 1, 2, 3, 4, 5, 6, 7, 8, 9, 10, 11]

end Sys2Proof
end

