-- ==== Sys2Proof/Syntax.lean ====
section
/-! DEFINITION. The commands of the SB-416: one constructor for each row of spec/opcode_table.json, in the table's
order, with the operand types they carry.

Every command but POWER_UP begins with `dt`, the milliseconds that have passed since the command before it (log
entry 1). A command that names the end of one of the part's own timers is taken when that timer ends: a `dt`
shorter than the time still to run is taken as that time. -/

namespace Sys2Proof

/-- A byte as it is received on the probe link: eight data bits, the parity bit and whether the stop bit was
found (R3). -/
structure LinkByte where
  data : Byte
  parity : Bool
  stop : Bool
  deriving DecidableEq, Repr

/-- The three float switches of the bay (1.7 Floats). -/
inductive FloatId
  | stop | start | high
  deriving DecidableEq, Repr

/-- The band a float's sense current falls in at one excitation, which is also a float's debounced state
(R15, R16). -/
inductive FloatReading
  | opened | closed | wireFault
  deriving DecidableEq, Repr

/-- The positions of the pump selector (R107). -/
inductive PumpPosition
  | off | hand | auto
  deriving DecidableEq, Repr

/-- The two inputs of the pump selector, `true` for active (R107). -/
structure SelectorInputs where
  hand : Bool
  auto : Bool
  deriving DecidableEq, Repr

/-- The positions of the screen selector (R117). -/
inductive ScreenPosition
  | off | auto
  deriving DecidableEq, Repr

/-- The three panel push-buttons (spec/00_scope.md, terminal table). -/
inductive Button
  | rakeNow | accept | reset
  deriving DecidableEq, Repr

/-- The twelve alarm kinds (R156). -/
inductive AlarmKind
  | a1 | a2 | a3 | a4 | a5 | a6 | a7 | a8 | a9 | a10 | a11 | a12
  deriving DecidableEq, Repr

/-- A kind's place in the alarm table, in kind order (R154). -/
def AlarmKind.index : AlarmKind → Fin 12
  | .a1 => 0
  | .a2 => 1
  | .a3 => 2
  | .a4 => 3
  | .a5 => 4
  | .a6 => 5
  | .a7 => 6
  | .a8 => 7
  | .a9 => 8
  | .a10 => 9
  | .a11 => 10
  | .a12 => 11

/-- A kind's number as a frame carries it, 1 to 12 (12.4, ALARM REPORT byte 0). -/
def AlarmKind.number (k : AlarmKind) : Nat := k.index.val + 1

/-- The kinds in kind order. -/
def AlarmKind.inOrder : List AlarmKind :=
  [.a1, .a2, .a3, .a4, .a5, .a6, .a7, .a8, .a9, .a10, .a11, .a12]

/-- The commands, one for each row of spec/opcode_table.json. -/
inductive Instr
  /-- POWER_UP (R190). -/
  | powerUp
  /-- RESET_PRESS (R189). -/
  | resetPress (dt : Nat)
  /-- LATCH_RESET (R189). -/
  | latchReset (dt : Nat)
  /-- RESTART (R190). -/
  | restart (dt : Nat)
  /-- STRAPS_DECIDED (R181): the number that 20 samples of the straps agree on. -/
  | strapsDecided (dt : Nat) (number : BitVec 4)
  /-- STRAPS_TIMEOUT (R181). -/
  | strapsTimeout (dt : Nat)
  /-- MEMORY_ATTEMPT_START (R182). -/
  | memoryAttemptStart (dt : Nat)
  /-- MEMORY_NOT_ACKNOWLEDGED (R182). -/
  | memoryNotAcknowledged (dt : Nat)
  /-- MEMORY_READ_COMPLETE (R182): the 256 bytes read, byte 0 first. -/
  | memoryReadComplete (dt : Nat) (image : List Byte)
  /-- END_OF_START_UP (R188). -/
  | endOfStartUp (dt : Nat)
  /-- PROBE_CYCLE_BEGIN (R5). -/
  | probeCycleBegin (dt : Nat)
  /-- READ (R6, R8): the attempt the exchange in progress is due to make. -/
  | read (dt : Nat)
  /-- IDENTIFY (R6, R14): the attempt the exchange in progress is due to make. -/
  | identify (dt : Nat)
  /-- NO_REPLY (R7). -/
  | noReply (dt : Nat)
  /-- PROBE_REPLY_END (R6): the bytes of the reply, first received first. -/
  | probeReplyEnd (dt : Nat) (reply : List LinkByte)
  /-- PROBE_BYTE_DISCARDED (R4). -/
  | probeByteDiscarded (dt : Nat) (byte : LinkByte)
  /-- FLOAT_EXCITATION (R16): the float excited and the band its current falls in. -/
  | floatExcitation (dt : Nat) (float : FloatId) (reading : FloatReading)
  /-- LINE_IDLE (R21). -/
  | lineIdle (dt : Nat)
  /-- ARBITRATION_LOST (R27). -/
  | arbitrationLost (dt : Nat)
  /-- FRAME_COMMITTED (R27). -/
  | frameCommitted (dt : Nat)
  /-- FRAME_COMPLETE (R23, R29). -/
  | frameComplete (dt : Nat)
  /-- NOT_FOLLOWING (R36). -/
  | notFollowing (dt : Nat)
  /-- ARBITRATION_READBACK_FAULT (R36). -/
  | arbitrationReadbackFault (dt : Nat)
  /-- READBACK_MISMATCH (R37). -/
  | readbackMismatch (dt : Nat)
  /-- TX_HELD (R35). -/
  | txHeld (dt : Nat)
  /-- LINE_HELD (R39). -/
  | lineHeld (dt : Nat)
  /-- FRAME_DISCARDED (R31): the bits read on the line from the start bit on, dominant as `false`. -/
  | frameDiscarded (dt : Nat) (bits : List Bool)
  /-- ADDRESS_CONFLICT (R38): class and payload of the frame heard with this station's own address. -/
  | addressConflict (dt : Nat) (cls : BitVec 3) (payload : List Byte)
  /-- STATUS (R44): sender field and payload of the frame received. -/
  | status (dt : Nat) (sender : BitVec 4) (payload : List Byte)
  /-- CLAIM (R59): sender field and payload of the frame received. -/
  | claim (dt : Nat) (sender : BitVec 4) (payload : List Byte)
  /-- SPILL_NOTICE (R56): sender field and payload of the frame received. -/
  | spillNotice (dt : Nat) (sender : BitVec 4) (payload : List Byte)
  /-- ALARM_REPORT (R33): sender field and payload of the frame received. -/
  | alarmReport (dt : Nat) (sender : BitVec 4) (payload : List Byte)
  /-- SPILL_RECORD (R33): sender field and payload of the frame received. -/
  | spillRecord (dt : Nat) (sender : BitVec 4) (payload : List Byte)
  /-- INTERVAL_REPORT (R33): sender field and payload of the frame received. -/
  | intervalReport (dt : Nat) (sender : BitVec 4) (payload : List Byte)
  /-- TIME (R167): the day and the 24-bit second of day the request carries. -/
  | time (dt : Nat) (day : BitVec 16) (second : BitVec 24)
  /-- CLOSE_INTERVAL (R173). -/
  | closeInterval (dt : Nat)
  /-- DRAWDOWN (R54): the offset in millimetres and the duration in minutes. -/
  | drawdown (dt : Nat) (offset : BitVec 16) (minutes : BitVec 16)
  /-- ACCEPT_ALARMS (R163). -/
  | acceptAlarms (dt : Nat)
  /-- UNKNOWN_TOWN_KIND (R32): the payload, its first byte the kind. -/
  | unknownTownKind (dt : Nat) (payload : List Byte)
  /-- PEER_STALE (R43). -/
  | peerStale (dt : Nat) (peer : BayAddress)
  /-- PEER_ABSENT (R43). -/
  | peerAbsent (dt : Nat) (peer : BayAddress)
  /-- ISOLATED_START_DELAY_END (R65). -/
  | isolatedStartDelayEnd (dt : Nat)
  /-- DRAWDOWN_EXPIRY (R55). -/
  | drawdownExpiry (dt : Nat)
  /-- RUN_CLOCK_SECOND (R166). -/
  | runClockSecond (dt : Nat)
  /-- CREDIT_HOUR (R68). -/
  | creditHour (dt : Nat)
  /-- GUARD_EXPIRY (R75). -/
  | guardExpiry (dt : Nat)
  /-- CLAIM_TIME_END (R80). -/
  | claimTimeEnd (dt : Nat)
  /-- FALLBACK_TIME_END (R80). -/
  | fallbackTimeEnd (dt : Nat)
  /-- RUN_FEEDBACK_CHANGE (R74): the new filtered value. -/
  | runFeedbackChange (dt : Nat) (present : Bool)
  /-- PROOF_TIME_END (R86). -/
  | proofTimeEnd (dt : Nat)
  /-- FEEDBACK_LOST (R87). -/
  | feedbackLost (dt : Nat)
  /-- PROVING_RUN_END (R88). -/
  | provingRunEnd (dt : Nat)
  /-- MIN_RUN_END (R89). -/
  | minRunEnd (dt : Nat)
  /-- STOP_DELAY_END (R89). -/
  | stopDelayEnd (dt : Nat)
  /-- RELEASE_TIME_END (R91). -/
  | releaseTimeEnd (dt : Nat)
  /-- FEEDBACK_WITHOUT_COMMAND (R92). -/
  | feedbackWithoutCommand (dt : Nat)
  /-- COOLING_TIME_END (R94). -/
  | coolingTimeEnd (dt : Nat)
  /-- MIN_OFF_END (R96). -/
  | minOffEnd (dt : Nat)
  /-- SUPPLY_STATE_CHANGE (R101): the new supply state, `true` for HEALTHY. -/
  | supplyStateChange (dt : Nat) (healthy : Bool)
  /-- PUMP_SELECTOR_MOVE (R107): the Hand and the Auto input, as 50 samples have read them. -/
  | pumpSelectorMove (dt : Nat) (inputs : SelectorInputs)
  /-- SCREEN_SELECTOR_MOVE (R129): the new position. -/
  | screenSelectorMove (dt : Nat) (position : ScreenPosition)
  /-- RAKE_NOW (R117). -/
  | rakeNow (dt : Nat)
  /-- DIFFERENTIAL_TRIGGER (R118). -/
  | differentialTrigger (dt : Nat)
  /-- INTERVAL_TRIGGER (R119). -/
  | intervalTrigger (dt : Nat)
  /-- CAM_CHANGE (R122): the new filtered value, `true` for closed. -/
  | camChange (dt : Nat) (closed : Bool)
  /-- FORWARD_TIME_LIMIT (R123). -/
  | forwardTimeLimit (dt : Nat)
  /-- RAKE_OVERCURRENT_INPUT (R124): the new value of the input. -/
  | rakeOvercurrentInput (dt : Nat) (active : Bool)
  /-- OVERCURRENT (R125). -/
  | overcurrent (dt : Nat)
  /-- REVERSE_ENERGISE (R116). -/
  | reverseEnergise (dt : Nat)
  /-- REVERSING_END (R125). -/
  | reversingEnd (dt : Nat)
  /-- PAUSE_END (R125). -/
  | pauseEnd (dt : Nat)
  /-- BLIND_SET (R130). -/
  | blindSet (dt : Nat)
  /-- BLIND_CLEAR (R130). -/
  | blindClear (dt : Nat)
  /-- REARM (R160): the kind whose normal time reaches 60 s. -/
  | rearm (dt : Nat) (kind : AlarmKind)
  /-- ACCEPT (R163). -/
  | accept (dt : Nat)
  /-- TOWN_ABSENT (R168). -/
  | townAbsent (dt : Nat)
  /-- INTERVAL_BOUNDARY (R172). -/
  | intervalBoundary (dt : Nat)
  /-- INTERVAL_LENGTH_LIMIT (R171). -/
  | intervalLengthLimit (dt : Nat)
  /-- START_BIT_READ (R21). -/
  | startBitRead (dt : Nat)
  /-- BUTTON_RELEASE (R189). -/
  | buttonRelease (dt : Nat) (button : Button)
  deriving DecidableEq, Repr

end Sys2Proof
end

