-- ==== Sys2Proof/Decode.lean ====
section
/-! DEFINITION. Reading a command from a word of the opcode table. The table of the SB-416 gives no row any bits: the part
has no register window and no processor port (spec/00_scope.md "The outside of the part"), and its commands are
events at its terminals. What its terminals do carry in bits, the frames of the house line, the bytes of the probe
link and the configuration memory, is read in Machine/Operands.lean. -/

namespace Sys2Proof

/-- The command that a word of the table spells: none, since no row of the table has bits. -/
def decodeTableWord (_nbits _w : Nat) : Option Instr := none

end Sys2Proof
end

