-- ==== Sys2Proof/Config.lean ====
section
/-! DEFINITION. The free values of the model: what the manual leaves open and does not state a value for. Each is
opaque, so no proof can rest on a particular value. A value that may differ each time it is drawn is a function
of the model's own counter `State.draws`. -/

namespace Sys2Proof

/-- Which of two things that fall in one step, whose order the manual leaves open, is taken first (R105, R140, R158,
R163). `true`: the first named. Log entry 9. -/
opaque Config.takenFirst : Nat → Bool

/-- What a request to place a frame does while the slot's frame is on the line and not yet committed, a case
between R25 and R27. `true`: it replaces the frame; `false`: it becomes the slot's next frame. Log entry 7. -/
opaque Config.replacesOnLine : Nat → Bool

/-- Whether an attempt that is withdrawn, or cut off by the transmitter being disabled, in the arbitration field had
already read its start bit back dominant, which sets the not-following count to 0 (R36). Log entry 8. -/
opaque Config.startBitWasRead : Nat → Bool

/-- Whether feedback without command locks a station with no pump fitted: R92 locks a pump in OUT, and R73 keeps such a
station in OUT for as long as the part runs. Log entry 14. -/
opaque Config.unfittedLocks : Bool

/-- Whether TX held is latched when the drive is stuck dominant while the transmitter is disabled: R35 names no such
condition, and R41 leaves its timing to begin when the transmitter is enabled. Log entry 43. -/
opaque Config.heldWhileDisabled : Bool

/-- The part of a second at which the flashing lamps and the beacon are at their first lit half (R98, R133, R165 give
the halves and not the phase). Log entry 23. -/
opaque Config.flashPhase : Nat

end Sys2Proof
end

