-- ==== Sys2Proof/Machine/State.lean ====
section
/-! DEFINITION. The state of one SB-416, block by block, as the rules give it, with its values at power-up
(State.reset), and the reasons a step can stop.

Levels are millimetres above the house datum; `none` is the manual's level "none" (spec/00_scope.md "Levels").
Moments are milliseconds on the part's own time base, which starts at 0 at power-up or restart. A timer that the
manual describes as running is held as the moment it ends, or the moment it started, and `none` when it is stopped,
elapsed or expired. -/

namespace Sys2Proof.Machine

/-! ### House time -/

/-- House time, and every stamp taken from it: day, second of day and the synchronised flag (R166). -/
structure HouseTime where
  day : Nat
  second : Nat
  sync : Bool
  deriving DecidableEq, Repr

/-! ### Settings (R184, R192) -/

/-- The general section. -/
structure GeneralSettings where
  pumpFitted : Bool
  startsPerHour : Nat
  stagger : Nat
  proofTime : Nat
  minRun : Nat
  minOff : Nat
  stopDelay : Nat
  heldRecovery : Bool
  deriving DecidableEq, Repr

/-- The levels section. -/
structure LevelSettings where
  bayFitted : Bool
  channelFitted : Bool
  weirFitted : Bool
  bayOffset : Int
  channelOffset : Int
  weirOffset : Int
  cutOut : Nat
  restartMargin : Nat
  highHigh : Nat
  deriving DecidableEq, Repr

/-- The stages section: a start level and a stop level for each configured stage, stage 1 first. -/
structure StageSettings where
  levels : List (Nat × Nat)
  maxDrawdown : Nat
  deriving DecidableEq, Repr

/-- The screen section; the interval is in minutes, 0 for off. -/
structure ScreenSettings where
  rakeOn : Nat
  blind : Nat
  interval : Nat
  rakeWithPump : Bool
  deriving DecidableEq, Repr

/-- The weir section (R135), its rating points as (head, flow), the first first. -/
structure WeirSettings where
  fitted : Bool
  crest : Nat
  onsetHead : Nat
  closeHead : Nat
  onsetPersistence : Nat
  closePersistence : Nat
  rating : List (Nat × Nat)
  deriving DecidableEq, Repr

/-- The three settings of one alarm kind (R155). -/
structure AlarmSetting where
  report : Bool
  raiseAndClear : Bool
  horn : Bool
  deriving DecidableEq, Repr

/-- The reporting section: the interval mode and the length in minutes. -/
structure ReportSettings where
  auto : Bool
  minutes : Nat
  deriving DecidableEq, Repr

/-- The settings in use (R180). A section that is invalid and has no values of its own to fall back to is `none`. -/
structure Settings where
  general : GeneralSettings
  levels : Option LevelSettings
  stages : Option StageSettings
  screen : Option ScreenSettings
  weir : Option WeirSettings
  alarms : Twelve AlarmSetting
  reporting : ReportSettings
  deriving DecidableEq, Repr

/-- One validity flag for each of the seven sections (R180). -/
structure SectionFlags where
  general : Bool
  levels : Bool
  stages : Bool
  screen : Bool
  weir : Bool
  alarms : Bool
  reporting : Bool
  deriving DecidableEq, Repr

/-! ### Configuration Loader (R180) -/

inductive StartUpStep
  | straps | memory | identify | listen | ended
  deriving DecidableEq, Repr

inductive MemoryResult
  | notRead | read | noMemory
  deriving DecidableEq, Repr

inductive Checksum
  | notChecked | passed | failed
  deriving DecidableEq, Repr

inductive ResetButton
  | released
  | pressed (since : Nat)
  deriving DecidableEq, Repr

/-- What the Configuration Loader holds, with the run clock that the end of start-up starts (R180, R187, R188). -/
structure StartUp where
  step : StartUpStep
  /-- The moment the step began. -/
  stepBegan : Nat
  address : Option BayAddress
  memory : MemoryResult
  checksum : Checksum
  valid : SectionFlags
  settings : Option Settings
  digest : Nat
  resetButton : ResetButton
  /-- Memory read attempts started in this start-up (R182). -/
  attempts : Nat
  /-- The moment the next memory read attempt is due, if one is. -/
  attemptDue : Option Nat
  /-- Whether a memory read attempt is in progress. -/
  attemptOpen : Bool
  /-- The moment start-up ended, from which the run clock counts. -/
  endedAt : Option Nat
  /-- The run clock, in seconds since the end of start-up. -/
  runClock : Nat
  deriving DecidableEq, Repr

/-! ### Probe Interface (R1 to R14) -/

/-- The three probes, in the order the records are taken. -/
inductive ProbeId
  | bay | channel | weir
  deriving DecidableEq, Repr

inductive Identity
  | notChecked | confirmed | failed
  deriving DecidableEq, Repr

inductive Quality
  | unset | good | held | fault
  deriving DecidableEq, Repr

inductive AtLimit
  | clear | over | under
  deriving DecidableEq, Repr

/-- One probe record (R1). -/
structure ProbeRecord where
  fitted : Bool
  offset : Int
  identity : Identity
  quality : Quality
  lastGood : Option Nat
  level : Option Nat
  misses : Nat
  atLimit : AtLimit
  deriving DecidableEq, Repr

/-- Where an exchange stands between its attempts (R6). -/
inductive ExchangeStage
  /-- The next attempt is due at this moment. -/
  | due (start : Nat)
  /-- A request has been sent; its reply window closes at this moment. -/
  | window (closes : Nat)
  deriving DecidableEq, Repr

/-- The exchange in progress on the probe link (1.3). -/
structure Exchange where
  probe : ProbeId
  /-- IDENTIFY, or READ when false. -/
  identify : Bool
  /-- Repeats made in this exchange. -/
  repeats : Nat
  stage : ExchangeStage
  deriving DecidableEq, Repr

/-- The outcome gathered for one polled probe in a cycle (1.4): the converted level and mark, or a miss. -/
inductive ProbeOutcome
  | sample (level : Nat) (mark : AtLimit)
  | miss
  deriving DecidableEq, Repr

structure ProbeUnit where
  bay : ProbeRecord
  channel : ProbeRecord
  weir : ProbeRecord
  /-- The screen differential (R13). -/
  deltaH : Option Nat
  exchange : Option Exchange
  /-- The probes whose exchange is still to come in this cycle or in the IDENTIFY step. -/
  queue : List ProbeId
  outcomes : List (ProbeId × ProbeOutcome)
  /-- The moment the next probe cycle begins, once the first has begun. -/
  nextCycle : Option Nat
  deriving DecidableEq, Repr

/-! ### Float Monitor (R15 to R18) -/

/-- What a float's users read (R18). -/
inductive Presented
  | opened | closed | ignored
  deriving DecidableEq, Repr

/-- One float record (R15). -/
structure FloatRecord where
  state : FloatReading
  lastReading : Option FloatReading
  presented : Presented
  deriving DecidableEq, Repr

structure FloatUnit where
  stop : FloatRecord
  start : FloatRecord
  high : FloatRecord
  contradiction : Bool
  /-- The float whose loop is excited next, or is excited now (R16). -/
  turn : FloatId
  /-- The moment that float's 20 ms pulse begins (R16). -/
  pulseAt : Nat
  deriving DecidableEq, Repr

/-! ### Peer Table (R42) -/

inductive Presence
  | fresh | stale | absent
  deriving DecidableEq, Repr

/-- The nine pump summaries a station publishes, in the order of their codes (R42, R191). -/
inductive PumpSummary
  | startup | out | hand | ready | starting | running | stopping | cooling | locked
  deriving DecidableEq, Repr

structure PeerEntry where
  presence : Presence
  /-- Milliseconds since the last valid frame, saturating at 65,535. -/
  age : Nat
  statusHeld : Bool
  level : Option Nat
  summary : PumpSummary
  auto : Bool
  available : Bool
  restricted : Bool
  startLimited : Bool
  isolated : Bool
  credit : Nat
  spillOpen : Bool
  digest : Nat
  deriving DecidableEq, Repr

/-! ### Staging Unit (R48) -/

inductive StartWish
  | notHeld | claimed | unclaimed
  deriving DecidableEq, Repr

/-- The isolated start delay (R65); running, with the moment it ends. -/
inductive StartDelay
  | idle
  | running (ends : Nat)
  | done
  deriving DecidableEq, Repr

structure Staging where
  houseLevel : Option Nat
  levelSource : Option Nat
  floatMode : Bool
  latches : List Bool
  drawdownOffset : Nat
  /-- A run-clock time in seconds. -/
  drawdownExpiry : Option Nat
  noticeMarks : Twelve Bool
  /-- A set mark carries the credit of the CLAIM. -/
  claimMarks : Twelve (Option Nat)
  d : Nat
  dAuto : Nat
  rank : Option Nat
  available : Bool
  startWish : StartWish
  stopWish : Bool
  limitHeld : Bool
  startDelay : StartDelay
  /-- The A1 condition, well high-high. -/
  a1 : Bool
  deriving DecidableEq, Repr

/-! ### Pump Sequencer (R71, R110) -/

inductive PumpState
  | startup | out | hand | ready | claiming | proving | running | stopping | cooling | locked
  deriving DecidableEq, Repr

inductive ClaimPhase
  | waiting | fallback | withdrawing
  deriving DecidableEq, Repr

inductive LockCause
  | earlyProof | notReleasing | withoutCommand | repeatedFailures
  deriving DecidableEq, Repr

inductive HandPhase
  | window | proved | halted
  deriving DecidableEq, Repr

inductive HandClaim
  | due | placed | noClaim
  deriving DecidableEq, Repr

/-- An open proving window: when the contactor closed and when the proof time ends (R86). -/
structure ProvingWindow where
  closedAt : Nat
  ends : Nat
  deriving DecidableEq, Repr

structure Pump where
  state : PumpState
  /-- Present in CLAIMING only. -/
  claimPhase : Option ClaimPhase
  /-- The filtered run feedback (R74). -/
  feedback : Bool
  guard : Option Nat
  /-- The start list: run-clock seconds, oldest first (R84). -/
  starts : List Nat
  failures : Nat
  minRun : Option Nat
  stopDelay : Option Nat
  minOff : Option Nat
  cooling : Option Nat
  lockCause : Option LockCause
  /-- The credit ring's buckets of run-minutes, oldest first (R68). -/
  buckets : List Nat
  /-- The credit ring's run-second count (R68). -/
  runSeconds : Nat
  /-- The moment the next bucket is due (R68). -/
  nextHour : Option Nat
  /-- The 2 s claim time of WAITING (R76). -/
  claimTime : Option Nat
  /-- The fallback time of FALLBACK (R80). -/
  fallbackTime : Option Nat
  /-- A lockout for feedback without command that waits for a refused withdrawal (R92). -/
  lockPending : Bool
  window : Option ProvingWindow
  /-- The 60 s proving-run time (R88). -/
  provingRun : Option Nat
  /-- The end of the 1 s that a drop of feedback is being timed for (R87). -/
  lossTimer : Option Nat
  /-- The 2 s release time of STOPPING (R91). -/
  releaseTime : Option Nat
  /-- The end of the 2 s of feedback without command (R92). -/
  strayTimer : Option Nat
  /-- The moment of the supply-loss opening (R104) or the move to Off (R108) since which no feedback has dropped. -/
  openedAt : Option Nat
  /-- Present in HAND only. -/
  handPhase : Option HandPhase
  /-- Present in HAND only. -/
  handClaim : Option HandClaim
  /-- The moment of the Hand start, for the hand claim's stagger (R110). -/
  handStart : Option Nat
  /-- The pump selector position (R107). -/
  selector : PumpPosition
  deriving DecidableEq, Repr

/-! ### Supply Monitor (R100) -/

structure Supply where
  healthy : Bool
  hold : Bool
  lossPending : Bool
  deriving DecidableEq, Repr

/-! ### Screen Controller (R115) -/

inductive ScreenState
  | idle | forward | reversing | pause | jammed | out
  deriving DecidableEq, Repr

inductive CamStage
  | waitOpen | waitClose
  deriving DecidableEq, Repr

inductive JamCause
  | noCycleProof | overcurrent | jammedInReverse
  deriving DecidableEq, Repr

structure Screen where
  state : ScreenState
  rakeAgain : Bool
  retries : Nat
  /-- The forward time in milliseconds. -/
  forwardMs : Nat
  camStage : Option CamStage
  /-- The end of REVERSING or of PAUSE. -/
  stateTimer : Option Nat
  /-- In REVERSING, the moment the reverse output is energised (R116). -/
  energiseAt : Option Nat
  /-- Whether the reverse output is energised. -/
  reverseOn : Bool
  /-- The start moment of the overcurrent timing. -/
  overcurrentSince : Option Nat
  jamCause : Option JamCause
  /-- The start moment of the differential timer. -/
  differentialSince : Option Nat
  /-- The expiry of the interval timer. -/
  intervalAt : Option Nat
  blinded : Bool
  blindSetSince : Option Nat
  blindClearSince : Option Nat
  selector : ScreenPosition
  /-- The filtered cam, true for closed (R122). -/
  camClosed : Bool
  /-- The rake overcurrent input as last sampled (R124). -/
  overcurrentInput : Bool
  deriving DecidableEq, Repr

/-! ### Weir Unit (R134, R141, R143, R148) -/

/-- The onset record (R134). -/
structure OnsetRecord where
  start : HouseTime
  litres : Nat
  count : Nat
  peak : Nat
  beyondRating : Bool
  probeGap : Bool
  timeSet : Bool
  deriving DecidableEq, Repr

/-- A spill record, open or closed (R143, R148). -/
structure SpillData where
  start : HouseTime
  endTime : Option HouseTime
  duration : Nat
  peak : Nat
  volume : Nat
  volumeSaturated : Bool
  beyondRating : Bool
  probeGap : Bool
  closedByFault : Bool
  timeSet : Bool
  lost : Nat
  deriving DecidableEq, Repr

/-- The spill state with the record it holds: an onset record in ONSET only, an open record in OPEN and CLOSING
only, a close count in CLOSING only (R134). -/
inductive Spill
  | dry
  | onset (r : OnsetRecord)
  | opened (r : SpillData)
  | closing (r : SpillData) (count : Nat)
  deriving DecidableEq, Repr

structure Weir where
  on : Bool
  head : Option Nat
  flow : Option Nat
  spill : Spill
  gapCount : Nat
  /-- Closed records, oldest first. -/
  log : List SpillData
  deriving DecidableEq, Repr

/-! ### Alarm Unit (R154, R158) -/

/-- The cause carried with a condition: the lock cause for A5, the jam cause for A8 (R156). -/
inductive Cause
  | noCause
  | lock (c : LockCause)
  | jam (c : JamCause)
  deriving DecidableEq, Repr

/-- The snapshot latched with a raise (R158). -/
structure Snapshot where
  house : HouseTime
  houseLevel : Option Nat
  bayLevel : Option Nat
  channelLevel : Option Nat
  weirHead : Option Nat
  d : Nat
  dAuto : Nat
  rank : Option Nat
  pump : PumpSummary
  screen : ScreenState
  freshPeers : Nat
  deriving DecidableEq, Repr

structure PendingRaise where
  snapshot : Snapshot
  cause : Cause
  deriving DecidableEq, Repr

/-- The record of one alarm kind (R154). -/
structure AlarmRecord where
  abnormal : Bool
  raise : Option PendingRaise
  clear : Option HouseTime
  outstanding : Bool
  armed : Bool
  /-- The moment the condition last turned normal. -/
  normalSince : Option Nat
  repeats : Nat
  chatter : Nat
  accepted : Bool
  deriving DecidableEq, Repr

/-! ### Report Unit (R166 to R176) -/

/-- One accumulator with its saturation mark (R169). -/
structure Counter where
  value : Nat
  saturated : Bool
  deriving DecidableEq, Repr

/-- The accumulators that are counted (R169); the peak house level is kept beside them. -/
inductive CountId
  | runSeconds | starts | failedStarts | rakeCycles | jamEvents | spillSeconds | spillLitres | supplyLosses
  | lineErrors
  deriving DecidableEq, Repr

structure Accumulators where
  runSeconds : Counter
  starts : Counter
  failedStarts : Counter
  rakeCycles : Counter
  jamEvents : Counter
  spillSeconds : Counter
  spillLitres : Counter
  supplyLosses : Counter
  lineErrors : Counter
  /-- The peak house level (R170). -/
  peak : Option Nat
  deriving DecidableEq, Repr

/-- The interval in progress, beside its accumulators (R171). -/
structure Interval where
  start : HouseTime
  length : Nat
  timeSet : Bool
  unsync : Bool
  /-- In auto mode the close-due time, as day and second of day (R172). -/
  closeDue : Option (Nat × Nat)
  deriving DecidableEq, Repr

/-- A closed-interval record (R174). -/
structure IntervalRecord where
  start : HouseTime
  length : Nat
  counts : Accumulators
  timeSet : Bool
  unsync : Bool
  lost : Nat
  deriving DecidableEq, Repr

structure ReportUnit where
  house : HouseTime
  /-- The moment the next run-clock second falls (R166). -/
  nextSecond : Option Nat
  /-- The moment of the last TIME request taken, from which the presence timer counts (R168). -/
  lastTime : Option Nat
  townPresent : Bool
  interval : Option Interval
  counts : Accumulators
  /-- The counts given at this very moment, held aside from a close at the same moment (R174). -/
  aside : List (CountId × Nat)
  /-- Closed-interval records, oldest first (R175). -/
  queue : List IntervalRecord
  /-- The frame in the REPORT slot carries an item that is no longer pending (R177). -/
  itemGone : Bool
  deriving DecidableEq, Repr

/-! ### Line Interface (R23, R25, R30, R41) -/

/-- The frames a station places in its slots, with the values they carry (R24, 12.4). -/
inductive Frame
  | claim (dAuto credit : Nat)
  | noticeOpen (start : HouseTime)
  | noticeClose (r : SpillData)
  | status (e : PeerEntry) (bay channel weir : AtLimit)
  | alarmRaise (kind : AlarmKind) (r : PendingRaise) (repeats chatter : Nat)
  | alarmClear (kind : AlarmKind) (time : HouseTime)
  | spillRecord (r : SpillData)
  | intervalReport (r : IntervalRecord)
  deriving DecidableEq, Repr

/-- The four transmit slots, in order of the class they carry (R25). -/
inductive SlotId
  | claim | notice | status | report
  deriving DecidableEq, Repr

/-- One transmit slot: its frame and the next frame behind it (R25, R27). -/
structure Slot where
  frame : Option Frame
  next : Option Frame
  deriving DecidableEq, Repr

/-- An attempt in progress: the slot whose frame is on the line, and whether it has won the line (R26, R27). -/
structure Attempt where
  slot : SlotId
  committed : Bool
  deriving DecidableEq, Repr

structure LineUnit where
  /-- The line is idle (R21). -/
  idle : Bool
  attempt : Option Attempt
  claim : Slot
  notice : Slot
  status : Slot
  report : Slot
  /-- A refused withdrawal of the CLAIM frame stands (R79). -/
  claimWithdrawal : Bool
  /-- A refused withdrawal of the REPORT frame stands (R178). -/
  reportWithdrawal : Bool
  txEnabled : Bool
  txHeld : Bool
  notFollowing : Bool
  addressConflict : Bool
  notFollowingCount : Nat
  conflictAborts : Nat
  lineHeld : Bool
  deriving DecidableEq, Repr

/-! ### Panel push-buttons (R117, R163, R189) -/

/-- The last taken value of each button, true for active. -/
structure Panel where
  rakeNow : Bool
  accept : Bool
  reset : Bool
  deriving DecidableEq, Repr

/-! ### The machine -/

/-- The state of the part. `draws` is the model's own: how many free values have been drawn. `pending` is the
queue of commands that are waiting, the first to be taken first. -/
@[ext]
structure State where
  /-- Milliseconds since power-up or restart: the part's own time base. -/
  now : Nat
  startUp : StartUp
  probes : ProbeUnit
  floats : FloatUnit
  line : LineUnit
  peers : Twelve PeerEntry
  staging : Staging
  pump : Pump
  supply : Supply
  screen : Screen
  weir : Weir
  alarms : Twelve AlarmRecord
  report : ReportUnit
  panel : Panel
  draws : Nat
  pending : List Instr
  deriving DecidableEq, Repr

/-- The reasons a step can stop with a fault. There is none: every command of the table has an effect in every
state, be it that nothing changes but the time (log entry 3). Safe. -/
inductive Fault
  deriving DecidableEq, Repr

/-- The reasons a step can refuse. -/
inductive Refusal
  /-- A command that has no meaning yet, by its mnemonic; raised by an arm of `exec` only, and by none now. Safe. -/
  | notModelled (mnemonic : String)
  deriving DecidableEq, Repr

/-! ### Values at power-up and restart -/

/-- House time at power-up (R166). -/
def HouseTime.initial : HouseTime := ⟨0, 0, false⟩

/-- The Configuration Loader at power-up (R180): no attempt at the memory has been made and the run clock stands. -/
def StartUp.initial : StartUp where
  step := .straps
  stepBegan := 0
  address := none
  memory := .notRead
  checksum := .notChecked
  valid := ⟨false, false, false, false, false, false, false⟩
  settings := none
  digest := 0
  resetButton := .released
  attempts := 0
  attemptDue := none
  attemptOpen := false
  endedAt := none
  runClock := 0

/-- A probe record at power-up (R1). -/
def ProbeRecord.initial : ProbeRecord := ⟨false, 0, .notChecked, .unset, none, none, 0, .clear⟩

/-- The Probe Interface at power-up (R1): no exchange in progress and no cycle begun. -/
def ProbeUnit.initial : ProbeUnit where
  bay := .initial
  channel := .initial
  weir := .initial
  deltaH := none
  exchange := none
  queue := []
  outcomes := []
  nextCycle := none

/-- A float record at power-up (R15). -/
def FloatRecord.initial : FloatRecord := ⟨.opened, none, .opened⟩

/-- The Float Monitor at power-up (R15): the first pulse, STOP's, begins when start-up begins (R16). -/
def FloatUnit.initial : FloatUnit := ⟨.initial, .initial, .initial, false, .stop, 0⟩

/-- An empty slot (R25). -/
def Slot.empty : Slot := ⟨none, none⟩

/-- The Line Interface at power-up (R25, R41). -/
def LineUnit.initial : LineUnit where
  idle := false
  attempt := none
  claim := .empty
  notice := .empty
  status := .empty
  report := .empty
  claimWithdrawal := false
  reportWithdrawal := false
  txEnabled := false
  txHeld := false
  notFollowing := false
  addressConflict := false
  notFollowingCount := 0
  conflictAborts := 0
  lineHeld := false

/-- A peer table entry with its initial values (R42). -/
def PeerEntry.initial : PeerEntry where
  presence := .absent
  age := 65535
  statusHeld := false
  level := none
  summary := .startup
  auto := false
  available := false
  restricted := false
  startLimited := false
  isolated := false
  credit := 0
  spillOpen := false
  digest := 0

/-- The Staging Unit at power-up (R48). -/
def Staging.initial : Staging where
  houseLevel := none
  levelSource := none
  floatMode := true
  latches := []
  drawdownOffset := 0
  drawdownExpiry := none
  noticeMarks := .all false
  claimMarks := .all none
  d := 0
  dAuto := 0
  rank := none
  available := false
  startWish := .notHeld
  stopWish := false
  limitHeld := false
  startDelay := .idle
  a1 := false

/-- The Pump Sequencer at power-up (R71, R68, R107). -/
def Pump.initial : Pump where
  state := .startup
  claimPhase := none
  feedback := false
  guard := none
  starts := []
  failures := 0
  minRun := none
  stopDelay := none
  minOff := none
  cooling := none
  lockCause := none
  buckets := [0, 0, 0, 0, 0, 0, 0, 0, 0, 0, 0, 0, 0, 0, 0, 0, 0, 0, 0, 0, 0, 0, 0, 0]
  runSeconds := 0
  nextHour := none
  claimTime := none
  fallbackTime := none
  lockPending := false
  window := none
  provingRun := none
  lossTimer := none
  releaseTime := none
  strayTimer := none
  openedAt := none
  handPhase := none
  handClaim := none
  handStart := none
  selector := .off

/-- The Supply Monitor at power-up (R100). -/
def Supply.initial : Supply := ⟨false, false, false⟩

/-- The Screen Controller at power-up (R115, R117, R122); the overcurrent input is taken as inactive (log entry 17). -/
def Screen.initial : Screen where
  state := .idle
  rakeAgain := false
  retries := 0
  forwardMs := 0
  camStage := none
  stateTimer := none
  energiseAt := none
  reverseOn := false
  overcurrentSince := none
  jamCause := none
  differentialSince := none
  intervalAt := none
  blinded := false
  blindSetSince := none
  blindClearSince := none
  selector := .off
  camClosed := true
  overcurrentInput := false

/-- The Weir Unit at power-up (R134). -/
def Weir.initial : Weir := ⟨false, none, none, .dry, 0, []⟩

/-- An alarm record at power-up (R154). -/
def AlarmRecord.initial : AlarmRecord := ⟨false, none, none, false, true, none, 0, 0, true⟩

/-- An accumulator with nothing counted (R174). -/
def Counter.zero : Counter := ⟨0, false⟩

/-- The accumulators of an interval that has just begun (R174). -/
def Accumulators.zero : Accumulators :=
  ⟨.zero, .zero, .zero, .zero, .zero, .zero, .zero, .zero, .zero, none⟩

/-- The Report Unit at power-up (R166, R168, R169, R175). -/
def ReportUnit.initial : ReportUnit where
  house := .initial
  nextSecond := none
  lastTime := none
  townPresent := false
  interval := none
  counts := .zero
  aside := []
  queue := []
  itemGone := false

/-- The last taken values of the buttons at power-up (R117, R163); the reset button's is log entry 16. -/
def Panel.initial : Panel := ⟨false, false, false⟩

/-- The machine right after power-up (R190): every block at the values its chapter gives, in the STRAPS step. -/
def State.reset : State where
  now := 0
  startUp := .initial
  probes := .initial
  floats := .initial
  line := .initial
  peers := .all .initial
  staging := .initial
  pump := .initial
  supply := .initial
  screen := .initial
  weir := .initial
  alarms := .all .initial
  report := .initial
  panel := .initial
  draws := 0
  pending := []

end Sys2Proof.Machine
end

