-- ==== Sys2Proof/Machine/Ops.lean ====
section
/-! DEFINITION. The named operations over the state that every block shares: one updater for each block, the
settings in use, the passing of time, the ends of timers, the tables keyed by probe, float, slot and alarm kind,
and counting for the interval in progress. -/

namespace Sys2Proof.Machine

/-! ### One updater for each block -/

namespace State

/-- Change the Configuration Loader's state alone. -/
def onStartUp (f : StartUp → StartUp) (s : State) : State := { s with startUp := f s.startUp }

/-- Change the Probe Interface's state alone. -/
def onProbes (f : ProbeUnit → ProbeUnit) (s : State) : State := { s with probes := f s.probes }

/-- Change the Float Monitor's state alone. -/
def onFloats (f : FloatUnit → FloatUnit) (s : State) : State := { s with floats := f s.floats }

/-- Change the Line Interface's state alone. -/
def onLine (f : LineUnit → LineUnit) (s : State) : State := { s with line := f s.line }

/-- Change the Peer Table's state alone. -/
def onPeers (f : Twelve PeerEntry → Twelve PeerEntry) (s : State) : State := { s with peers := f s.peers }

/-- Change the Staging Unit's state alone. -/
def onStaging (f : Staging → Staging) (s : State) : State := { s with staging := f s.staging }

/-- Change the Pump Sequencer's state alone. -/
def onPump (f : Pump → Pump) (s : State) : State := { s with pump := f s.pump }

/-- Change the Supply Monitor's state alone. -/
def onSupply (f : Supply → Supply) (s : State) : State := { s with supply := f s.supply }

/-- Change the Screen Controller's state alone. -/
def onScreen (f : Screen → Screen) (s : State) : State := { s with screen := f s.screen }

/-- Change the Weir Unit's state alone. -/
def onWeir (f : Weir → Weir) (s : State) : State := { s with weir := f s.weir }

/-- Change the Alarm Unit's state alone. -/
def onAlarms (f : Twelve AlarmRecord → Twelve AlarmRecord) (s : State) : State := { s with alarms := f s.alarms }

/-- Change the Report Unit's state alone. -/
def onReport (f : ReportUnit → ReportUnit) (s : State) : State := { s with report := f s.report }

/-- Change the panel push-buttons's state alone. -/
def onPanel (f : Panel → Panel) (s : State) : State := { s with panel := f s.panel }

/-- A free value has been drawn; the next one is another. -/
def drawn (s : State) : State := { s with draws := s.draws + 1 }

end State

/-! ### Settings in use (R180, R184) -/

/-- The built-in values of the general section (R184). -/
def GeneralSettings.builtIn : GeneralSettings := ⟨true, 6, 12, 3, 120, 60, 10, false⟩

/-- The settings of a kind when the alarms section is invalid (R155). -/
def AlarmSetting.builtIn : AlarmSetting := ⟨true, true, true⟩

/-- The reporting settings when their section is invalid (R184). -/
def ReportSettings.builtIn : ReportSettings := ⟨true, 60⟩

/-- Every section at its fallback, as with a failed checksum (R184). -/
def Settings.fallback : Settings :=
  ⟨.builtIn, none, none, none, none, .all .builtIn, .builtIn⟩

/-- The settings every chapter reads; before the MEMORY step has formed them, the fallbacks. -/
def State.settings (s : State) : Settings := s.startUp.settings.getD .fallback

/-- The general section in use. -/
def State.general (s : State) : GeneralSettings := s.settings.general

/-- Start-up has ended (R188). -/
abbrev State.ended (s : State) : Prop := s.startUp.step = .ended

/-- The Line Interface reads the line: from the beginning of LISTEN on (R187). -/
abbrev State.reading (s : State) : Prop := s.startUp.step = .listen ∨ s.startUp.step = .ended

/-- The cut-out level, taken as 0 with the levels section invalid (R184). -/
def State.cutOut (s : State) : Nat := (s.settings.levels.map (·.cutOut)).getD 0

/-! ### Tables -/

/-- The record of a probe (R1). -/
def ProbeUnit.record (u : ProbeUnit) : ProbeId → ProbeRecord
  | .bay => u.bay
  | .channel => u.channel
  | .weir => u.weir

/-- Change the record of a probe. -/
def ProbeUnit.onRecord (u : ProbeUnit) (p : ProbeId) (f : ProbeRecord → ProbeRecord) : ProbeUnit :=
  match p with
  | .bay => { u with bay := f u.bay }
  | .channel => { u with channel := f u.channel }
  | .weir => { u with weir := f u.weir }

/-- The record of a float (R15). -/
def FloatUnit.record (u : FloatUnit) : FloatId → FloatRecord
  | .stop => u.stop
  | .start => u.start
  | .high => u.high

/-- Change the record of a float. -/
def FloatUnit.onRecord (u : FloatUnit) (i : FloatId) (f : FloatRecord → FloatRecord) : FloatUnit :=
  match i with
  | .stop => { u with stop := f u.stop }
  | .start => { u with start := f u.start }
  | .high => { u with high := f u.high }

/-- A transmit slot (R25). -/
def LineUnit.slot (u : LineUnit) : SlotId → Slot
  | .claim => u.claim
  | .notice => u.notice
  | .status => u.status
  | .report => u.report

/-- Put a slot in its place. -/
def LineUnit.setSlot (u : LineUnit) (i : SlotId) (x : Slot) : LineUnit :=
  match i with
  | .claim => { u with claim := x }
  | .notice => { u with notice := x }
  | .status => { u with status := x }
  | .report => { u with report := x }

/-- The record of an alarm kind (R154). -/
def State.alarm (s : State) (k : AlarmKind) : AlarmRecord := s.alarms.get k.index

/-- Put an alarm record in its place. -/
def State.setAlarm (k : AlarmKind) (r : AlarmRecord) (s : State) : State :=
  s.onAlarms fun t => t.set k.index r

/-- The settings of an alarm kind (R155). -/
def State.alarmSetting (s : State) (k : AlarmKind) : AlarmSetting := s.settings.alarms.get k.index

/-- Change one entry of the peer table. -/
def State.onEntry (a : BayAddress) (f : PeerEntry → PeerEntry) (s : State) : State :=
  s.onPeers fun t => t.set a (f (t.get a))

/-! ### Counting for the interval in progress (R169, R174) -/

/-- The accumulator of a count. -/
def Accumulators.get (a : Accumulators) : CountId → Counter
  | .runSeconds => a.runSeconds
  | .starts => a.starts
  | .failedStarts => a.failedStarts
  | .rakeCycles => a.rakeCycles
  | .jamEvents => a.jamEvents
  | .spillSeconds => a.spillSeconds
  | .spillLitres => a.spillLitres
  | .supplyLosses => a.supplyLosses
  | .lineErrors => a.lineErrors

/-- Put an accumulator in its place. -/
def Accumulators.set (a : Accumulators) (i : CountId) (c : Counter) : Accumulators :=
  match i with
  | .runSeconds => { a with runSeconds := c }
  | .starts => { a with starts := c }
  | .failedStarts => { a with failedStarts := c }
  | .rakeCycles => { a with rakeCycles := c }
  | .jamEvents => { a with jamEvents := c }
  | .spillSeconds => { a with spillSeconds := c }
  | .spillLitres => { a with spillLitres := c }
  | .supplyLosses => { a with supplyLosses := c }
  | .lineErrors => { a with lineErrors := c }

/-- The maximum of each accumulator (R169). -/
def CountId.limit : CountId → Nat
  | .runSeconds => 65535
  | .starts => 255
  | .failedStarts => 255
  | .rakeCycles => 255
  | .jamEvents => 255
  | .spillSeconds => 65535
  | .spillLitres => 4294967295
  | .supplyLosses => 255
  | .lineErrors => 65535

/-- An addition that would pass the maximum leaves the count at it and sets the mark (R169). -/
def Counter.add (limit amount : Nat) (c : Counter) : Counter :=
  if limit < c.value + amount then ⟨limit, true⟩ else ⟨c.value + amount, c.saturated⟩

/-- Add one given amount to its accumulator. -/
def Accumulators.add (a : Accumulators) (g : CountId × Nat) : Accumulators :=
  a.set g.1 ((a.get g.1).add g.1.limit g.2)

/-- Add the counts held aside to the accumulators. -/
def Accumulators.addAll (a : Accumulators) (gs : List (CountId × Nat)) : Accumulators :=
  gs.foldl Accumulators.add a

/-- The accumulators as a reader at this moment finds them, the counts given at this moment included. -/
def ReportUnit.accumulated (r : ReportUnit) : Accumulators := r.counts.addAll r.aside

/-- A block hands a count to the Report Unit; with no interval in progress none is taken (R169). The counts of one
moment are held aside until time has passed, so that a close at that moment leaves them to the new interval
(R174). -/
def State.count (i : CountId) (amount : Nat) (s : State) : State :=
  s.onReport fun r => if r.interval.isSome then { r with aside := r.aside ++ [(i, amount)] } else r

/-! ### Time -/

/-- The run clock `ms` milliseconds after the end of start-up: a 32-bit count of seconds that stops at its maximum
(spec/00_scope.md "Time", "Counters"). -/
def runClockAfter (ms : Nat) : Nat := min 4294967295 (ms / 1000)

/-- A peer entry `dt` milliseconds later (R43). -/
def PeerEntry.older (dt : Nat) (e : PeerEntry) : PeerEntry := { e with age := min 65535 (e.age + dt) }

/-- `dt` milliseconds pass: the time base and the run clock advance, every entry but the own one ages (R43), the
forward time counts in FORWARD (R123), and the counts held aside join their accumulators (R174). -/
def State.elapse (dt : Nat) (s : State) : State :=
  { s with
    now := s.now + dt
    startUp := { s.startUp with
      runClock := match s.startUp.endedAt with
        | none => s.startUp.runClock
        | some t => runClockAfter (s.now + dt - t) }
    peers := Twelve.form fun a =>
      if s.startUp.address = some a then s.peers.get a else (s.peers.get a).older dt
    screen := { s.screen with
      forwardMs := if s.screen.state = .forward then min 120000 (s.screen.forwardMs + dt) else s.screen.forwardMs }
    report := if dt = 0 then s.report else { s.report with counts := s.report.accumulated, aside := [] } }

/-- `dt` milliseconds pass, or as many more as it takes to reach a moment. -/
def State.reach (dt moment : Nat) (s : State) : State := s.elapse (max dt (moment - s.now))

/-- Time passes to the end of a timer that runs; with the timer stopped `dt` milliseconds pass (log entry 1). -/
def State.toEnd (dt : Nat) (timer : Option Nat) (s : State) : State :=
  match timer with
  | none => s.elapse dt
  | some moment => s.reach dt moment

/-- The end of a timer started now for a whole number of seconds; a setting of 0 s gives a timer that has
elapsed. -/
def State.after (s : State) (seconds : Nat) : Option Nat :=
  if seconds = 0 then none else some (s.now + seconds * 1000)

/-! ### Free values -/

/-- Of two things whose order is open, `f` or `g` is taken first (log entry 9). Where both orders end alike no free
value is drawn. -/
def eitherOrder (f g : State → State) (s : State) : State :=
  if g (f s) = f (g s) then g (f s)
  else if Config.takenFirst s.draws then g (f s.drawn)
  else f (g s.drawn)

/-- The states within what `eitherOrder` takes, in an order it may have taken: those that the first passes through, the one
between the two, and those that the second passes through. -/
def eitherPasses (f g : State → State) (within_f within_g : State → List State) (s : State) : List State :=
  let fg := fun t => within_f t ++ f t :: within_g (f t)
  let gf := fun t => within_g t ++ g t :: within_f (g t)
  if g (f s) = f (g s) then fg s ++ gf s
  else if Config.takenFirst s.draws then fg s.drawn
  else gf s.drawn

end Sys2Proof.Machine
end

