-- ==== Sys2Proof/Machine/Operands.lean ====
section
/-! DEFINITION. How the operands of the commands and the content of frames are read and formed: probe link bytes
(R3, R8, R14), house line frames (R22 to R24, R31, R191) and the configuration memory (R183, R184, R186, R192). -/

namespace Sys2Proof.Machine

/-! ### Numbers in bytes -/

/-- A number in so many bytes, most significant first (R191). -/
def bigEndian : Nat → Nat → List Byte
  | 0, _ => []
  | w + 1, n => BitVec.ofNat 8 (n / 256 ^ w) :: bigEndian w n

/-- The number that bytes hold, most significant first (R191, R192). -/
def readBig (bs : List Byte) : Nat := bs.foldl (fun n b => n * 256 + b.toNat) 0

/-- Bytes `i` to `i + w - 1` of a list as a number; a byte past the end reads as 0. -/
def field (bs : List Byte) (i w : Nat) : Nat := readBig ((List.range w).map fun j => bs.getD (i + j) 0)

/-- Flags as a number, bit 0 first. -/
def flagBits (fs : List Bool) : Nat := fs.foldr (fun b n => 2 * n + b.toNat) 0

/-! ### Probe link (R3, R6, R8, R14, 12.6) -/

/-- The parity of eight data bits: true when they hold an odd number of ones. -/
def oddOnes (b : Byte) : Bool :=
  (List.range 8).foldl (fun odd i => odd != b.toNat.testBit i) false

/-- The byte's parity bit breaks odd parity, or its stop bit was not found (R3). -/
def parityError (b : LinkByte) : Bool := !b.stop || (oddOnes b.data == b.parity)

/-- The byte as a station with correct odd parity sends it (R3). -/
def sentByte (b : Byte) : LinkByte := ⟨b, !oddOnes b, true⟩

/-- The byte as it is sent: one start bit, the eight data bits with the least significant first, the parity bit and the
stop bit (R3). A start bit is 0 and a stop bit that is found is 1 (log entry 37). -/
def serialBits (b : LinkByte) : List Bool :=
  false :: (List.range 8).map b.data.toNat.testBit ++ [b.parity, b.stop]

/-- The byte that eleven bits on the link hold, from the start bit on (R3). -/
def ofSerialBits (bits : List Bool) : Option LinkByte :=
  match bits with
  | false :: rest =>
    if rest.length = 10 then some ⟨BitVec.ofNat 8 (flagBits (rest.take 8)), rest.getD 8 false, rest.getD 9 false⟩
    else none
  | _ => none

/-- The address of a probe on the probe link (1.1). -/
def ProbeId.linkAddress : ProbeId → Nat
  | .bay => 1
  | .channel => 2
  | .weir => 3

/-- The kind code expected of a probe (R14). -/
def ProbeId.kindCode : ProbeId → Nat
  | .bay => 0x51
  | .channel => 0x52
  | .weir => 0x53

/-- The two bytes of a request: the probe address, then the command code (R6, 12.6). -/
def request (p : ProbeId) (identify : Bool) : List LinkByte :=
  [sentByte (BitVec.ofNat 8 p.linkAddress), sentByte (if identify then 0x49 else 0x21)]

/-- The result of an attempt whose reply has ended (R7), with what a good reply holds. -/
inductive ReplyResult (α : Type)
  | good (content : α)
  | parityError
  | malformed
  deriving DecidableEq, Repr

/-- Judge the bytes of a reply by R7: parity first, then their number, then their content. -/
def judgeBytes {α : Type} (length : Nat) (content : List Byte → Option α) (reply : List LinkByte) :
    ReplyResult α :=
  if reply.any parityError then .parityError
  else if reply.length ≠ length then .malformed
  else match content (reply.map (·.data)) with
    | some x => .good x
    | none => .malformed

/-- Judge a reply of a full length: a byte that begins after the reply holds its full length ends it and is no part of it
(R6, R7). -/
def judgeReply {α : Type} (length : Nat) (content : List Byte → Option α) (reply : List LinkByte) :
    ReplyResult α := judgeBytes length content (reply.take length)

/-- The content checks of a READ reply, and the probe reading and at-limit value of the sample it yields (R8). -/
def readSample (bs : List Byte) : Option (Nat × AtLimit) :=
  let isOver := (field bs 2 1).testBit 0
  let isUnder := (field bs 2 1).testBit 1
  let reading := field bs 0 2
  if field bs 3 1 ≠ 255 - (field bs 0 1 + field bs 1 1 + field bs 2 1) % 256 then none
  else if isOver && isUnder then none
  else if isOver then some (9999, .over)
  else if isUnder then some (0, .under)
  else if reading ≤ 9999 then some (reading, .clear)
  else none

/-- The content check of an IDENTIFY reply, and the kind code it carries (R14). -/
def readKind (bs : List Byte) : Option Nat :=
  if field bs 1 1 = 255 - field bs 0 1 then some (field bs 0 1) else none

/-- A probe reading converted to the house datum and clamped to 0 to 9,999 (R9). -/
def toDatum (offset : Int) (reading : Nat) : Nat := min 9999 ((reading : Int) + offset).toNat

/-! ### Codes in frames (R191, 12.4) -/

/-- The address a frame's sender field holds, if it is a bay station's. -/
def bayOfSender (sender : Nat) : Option BayAddress :=
  if h : 1 ≤ sender ∧ sender ≤ 12 then some ⟨sender - 1, by omega⟩ else none

def PumpSummary.code : PumpSummary → Nat
  | .startup => 0
  | .out => 1
  | .hand => 2
  | .ready => 3
  | .starting => 4
  | .running => 5
  | .stopping => 6
  | .cooling => 7
  | .locked => 8

def PumpSummary.ofCode : Nat → PumpSummary
  | 0 => .startup
  | 1 => .out
  | 2 => .hand
  | 3 => .ready
  | 4 => .starting
  | 5 => .running
  | 6 => .stopping
  | 7 => .cooling
  | _ => .locked

def ScreenState.code : ScreenState → Nat
  | .idle => 0
  | .forward => 1
  | .reversing => 2
  | .pause => 3
  | .jammed => 4
  | .out => 5

def AtLimit.code : AtLimit → Nat
  | .clear => 0
  | .over => 1
  | .under => 2

def Cause.code : Cause → Nat
  | .noCause => 0
  | .lock .earlyProof => 1
  | .lock .notReleasing => 2
  | .lock .withoutCommand => 3
  | .lock .repeatedFailures => 4
  | .jam .noCycleProof => 1
  | .jam .overcurrent => 2
  | .jam .jammedInReverse => 3

/-- A level, a head or a peak head, 0xFFFF for none. -/
def levelBytes (l : Option Nat) : List Byte := bigEndian 2 (l.getD 0xFFFF)

/-- A rank, 0xFF for none. -/
def rankCode (r : Option Nat) : Nat := r.getD 0xFF

/-- House time in five bytes: the day, then the flag as the top bit over the second of day. -/
def HouseTime.bytes (t : HouseTime) : List Byte :=
  bigEndian 2 t.day ++ bigEndian 3 ((if t.sync then 2 ^ 23 else 0) + t.second)

/-- Litres as the whole cubic metres a frame gives (R150, R176). -/
def cubicMetres (litres : Nat) : Nat := min 16777215 ((litres + 500) / 1000)

/-- The four marks that a SPILL NOTICE and a SPILL RECORD carry, in bit order. -/
def SpillData.marks (r : SpillData) : List Bool := [r.beyondRating, r.probeGap, r.closedByFault, r.timeSet]

/-- The end time of a record; an open record has none, and sends 0. -/
def SpillData.endBytes (r : SpillData) : List Byte := (r.endTime.map HouseTime.bytes).getD (bigEndian 5 0)

/-- The class of a frame (R24, R25). -/
def Frame.cls : Frame → Nat
  | .claim .. => 0
  | .noticeOpen .. => 1
  | .noticeClose .. => 1
  | .status .. => 3
  | .alarmRaise .. => 4
  | .alarmClear .. => 4
  | .spillRecord .. => 5
  | .intervalReport .. => 6

/-- The payload of a SPILL RECORD frame (12.4). -/
def SpillData.recordBytes (r : SpillData) : List Byte :=
  r.start.bytes ++ r.endBytes ++ bigEndian 4 r.duration ++ bigEndian 2 r.peak ++ bigEndian 3 (cubicMetres r.volume)
    ++ bigEndian 1 (flagBits (r.marks ++ [r.volumeSaturated])) ++ bigEndian 1 r.lost

/-- The payload of an INTERVAL REPORT frame (12.4). -/
def IntervalRecord.bytes (r : IntervalRecord) : List Byte :=
  let c := r.counts
  let marks := [c.supplyLosses.saturated, c.spillSeconds.saturated, c.jamEvents.saturated, c.rakeCycles.saturated,
    c.failedStarts.saturated, c.starts.saturated, c.runSeconds.saturated]
  bigEndian 2 r.start.day
    ++ bigEndian 3 (2 ^ 17 * flagBits marks + r.start.second)
    ++ bigEndian 4 ((if r.unsync then 2 ^ 31 else 0) + (if r.timeSet then 2 ^ 30 else 0)
        + (c.peak.getD 10000 * 86401 + r.length))
    ++ bigEndian 2 c.runSeconds.value ++ bigEndian 1 c.starts.value ++ bigEndian 1 c.failedStarts.value
    ++ bigEndian 1 c.rakeCycles.value ++ bigEndian 1 c.jamEvents.value ++ bigEndian 2 c.spillSeconds.value
    ++ bigEndian 3 ((if c.lineErrors.saturated then 2 ^ 23 else 0)
        + (if c.spillLitres.saturated then 8388607 else min 8388607 ((c.spillLitres.value + 500) / 1000)))
    ++ bigEndian 1 c.supplyLosses.value ++ bigEndian 2 c.lineErrors.value ++ bigEndian 1 r.lost

/-- The flag byte of a STATUS (12.4). -/
def PeerEntry.flagByte (e : PeerEntry) : Nat :=
  flagBits [e.auto, e.available, e.restricted, e.startLimited, e.isolated, e.spillOpen]

/-- The payload of a frame (12.4). -/
def Frame.payload : Frame → List Byte
  | .claim dAuto credit => bigEndian 1 dAuto ++ bigEndian 2 credit
  | .noticeOpen start => bigEndian 1 0 ++ start.bytes ++ bigEndian 13 0
  | .noticeClose r =>
    bigEndian 1 1 ++ r.start.bytes ++ r.endBytes ++ bigEndian 4 r.duration ++ bigEndian 3 (cubicMetres r.volume)
      ++ bigEndian 1 (flagBits r.marks)
  | .status e bay channel weir =>
    levelBytes e.level ++ bigEndian 1 e.summary.code ++ bigEndian 1 e.flagByte ++ bigEndian 2 e.credit
      ++ bigEndian 2 e.digest ++ bigEndian 1 (bay.code + 4 * channel.code + 16 * weir.code)
  | .alarmRaise kind r repeats chatter =>
    let n := r.snapshot
    bigEndian 1 kind.number ++ n.house.bytes ++ levelBytes n.houseLevel ++ levelBytes n.bayLevel
      ++ levelBytes n.channelLevel ++ levelBytes n.weirHead ++ bigEndian 1 n.d ++ bigEndian 1 n.dAuto
      ++ bigEndian 1 (rankCode n.rank) ++ bigEndian 1 (16 * n.pump.code + n.screen.code) ++ bigEndian 1 n.freshPeers
      ++ bigEndian 1 r.cause.code ++ bigEndian 1 repeats ++ bigEndian 1 chatter
  | .alarmClear kind time => bigEndian 1 (128 + kind.number) ++ time.bytes ++ bigEndian 16 0
  | .spillRecord r => r.recordBytes
  | .intervalReport r => r.bytes

/-! ### Bits on the line (R20 to R23)

A bit of value 1 is recessive and is `true`; a bit of value 0 is dominant and is `false` (2.1). -/

/-- A number in so many bits, most significant first (R20). -/
def bitsOf : Nat → Nat → List Bool
  | 0, _ => []
  | w + 1, n => n.testBit w :: bitsOf w n

/-- The number that bits hold, most significant first. -/
def ofBits (bs : List Bool) : Nat := bs.foldl (fun n b => 2 * n + b.toNat) 0

/-- The bits of payload bytes. -/
def byteBits (bs : List Byte) : List Bool := bs.flatMap fun b => bitsOf 8 b.toNat

/-- The bytes that so many bits hold. -/
def bytesOfBits : Nat → List Bool → List Byte
  | 0, _ => []
  | n + 1, bs => BitVec.ofNat 8 (ofBits (bs.take 8)) :: bytesOfBits n (bs.drop 8)

/-- One bit into the check: the generator polynomial 0x1021 (R23). -/
def crcStep (c : BitVec 16) (b : Bool) : BitVec 16 :=
  if c.msb != b then (c <<< 1) ^^^ 0x1021#16 else c <<< 1

/-- The check over bits, from a starting value of 0xFFFF, with no final inversion (R23). -/
def crc (bs : List Bool) : Nat := (bs.foldl crcStep 0xFFFF#16).toNat

/-- Insert a stuff bit after each run of six, the last bit sent and the length of its run being known (R22). -/
def stuffAfter : Bool → Nat → List Bool → List Bool
  | _, _, [] => []
  | last, run, b :: bs =>
    let run' := if b = last then run + 1 else 1
    if run' = 6 then b :: (!b) :: stuffAfter (!b) 1 bs else b :: stuffAfter b run' bs

/-- The fields that the check covers: class, sender, length and payload (R23). -/
def frameFields (cls sender : Nat) (payload : List Byte) : List Bool :=
  bitsOf 3 cls ++ bitsOf 4 sender ++ bitsOf 5 payload.length ++ byteBits payload

/-- The bits a sender drives for a frame: the dominant start bit, the fields and the check with their stuff bits,
then three recessive end bits (R22, R23). -/
def lineBits (cls sender : Nat) (payload : List Byte) : List Bool :=
  let fields := frameFields cls sender payload
  false :: stuffAfter false 1 (fields ++ bitsOf 16 (crc fields)) ++ [true, true, true]

/-- Why a receiver discards a frame (R31). -/
inductive DiscardReason
  | coding | crc | length | badClass | badSender | townSender | permittedLength | content
  deriving DecidableEq, Repr

/-- Read so many bits, removing the stuff bit after each run of six: the bits, then the last bit read, its run and
what is left to read; nothing when a seventh equal bit stands where a stuff bit belongs, or the line falls short
(R22). -/
def takeBits : Nat → Bool → Nat → List Bool → Option (List Bool × Bool × Nat × List Bool)
  | 0, last, run, bs => some ([], last, run, bs)
  | _ + 1, _, _, [] => none
  | n + 1, last, run, b :: bs =>
    let run' := if b = last then run + 1 else 1
    if run' = 6 then
      match bs with
      | [] => none
      | c :: cs => if c = b then none else (takeBits n c 1 cs).map fun r => (b :: r.1, r.2)
    else (takeBits n b run' bs).map fun r => (b :: r.1, r.2)

/-- The kinds of TOWN frame that are known, with the length each permits (12.3, 12.5). -/
def townLength : Nat → Option Nat
  | 1 => some 6
  | 2 => some 1
  | 3 => some 5
  | 4 => some 1
  | _ => none

/-- The payload has the length its class permits or, in a TOWN frame of a known kind, that kind; a TOWN frame needs
at least its kind byte (R24, R31, R32). -/
def lengthPermitted (cls : Nat) (payload : List Byte) : Bool :=
  match cls with
  | 0 => payload.length == 3
  | 1 => payload.length == 19
  | 2 => match payload with
    | [] => false
    | kind :: _ => match townLength kind.toNat with
      | some n => payload.length == n
      | none => true
  | 3 => payload.length == 9
  | 4 => payload.length == 22
  | 5 => payload.length == 21
  | 6 => payload.length == 24
  | _ => false

/-- The content checks of R191. -/
def contentPasses (cls : Nat) (payload : List Byte) : Bool :=
  match cls with
  | 0 => decide (field payload 0 1 ≤ 12) && decide (field payload 1 2 ≤ 1440)
  | 1 => decide (field payload 0 1 ≤ 1)
  | 3 => (decide (field payload 0 2 ≤ 9999) || decide (field payload 0 2 = 0xFFFF))
      && decide (field payload 2 1 ≤ 8) && decide (field payload 4 2 ≤ 1440)
  | _ => true

/-- The checks of R31 that a frame with no coding error and a matching check must still pass; `none` when it passes
them all. -/
def frameFault (cls sender : Nat) (payload : List Byte) : Option DiscardReason :=
  if 24 < payload.length then some .length
  else if cls = 7 then some .badClass
  else if sender = 0 ∨ sender = 13 ∨ sender = 15 then some .badSender
  else if ¬(cls = 2 ↔ sender = 14) then some .townSender
  else if ¬ lengthPermitted cls payload then some .permittedLength
  else if ¬ contentPasses cls payload then some .content
  else none

/-- What a receiver makes of the bits of a frame. -/
inductive Heard
  | frame (cls sender : Nat) (payload : List Byte)
  | discard (reason : DiscardReason)
  deriving DecidableEq, Repr

/-- Receive a frame from the bits read on the line, the start bit first (R22, R23, R31). -/
def hear : List Bool → Heard
  | [] => .discard .coding
  | b :: bs =>
    if b then .discard .coding
    else match takeBits 12 false 1 bs with
      | none => .discard .coding
      | some (header, last, run, rest) =>
        let cls := ofBits (header.take 3)
        let sender := ofBits ((header.drop 3).take 4)
        let length := ofBits (header.drop 7)
        if 24 < length then .discard .length
        else match takeBits (8 * length + 16) last run rest with
          | none => .discard .coding
          | some (body, _, _, ends) =>
            let payload := bytesOfBits length body
            if ends.take 3 ≠ [true, true, true] then .discard .coding
            else if ofBits (body.drop (8 * length)) ≠ crc (header ++ body.take (8 * length)) then .discard .crc
            else match frameFault cls sender payload with
              | some reason => .discard reason
              | none => .frame cls sender payload

/-! ### Payloads received (R44, R56, R59) -/

/-- What a receiver takes from a STATUS (R44). -/
structure StatusContent where
  level : Option Nat
  summary : PumpSummary
  auto : Bool
  available : Bool
  restricted : Bool
  spillOpen : Bool
  credit : Nat
  digest : Nat
  deriving DecidableEq, Repr

/-- The content of a STATUS payload; the start-limited and isolated flags and the at-limit byte are not read
(R44, R191). -/
def readStatus (payload : List Byte) : StatusContent where
  level := if field payload 0 2 = 0xFFFF then none else some (field payload 0 2)
  summary := .ofCode (field payload 2 1)
  auto := (field payload 3 1).testBit 0
  available := (field payload 3 1).testBit 1
  restricted := (field payload 3 1).testBit 2
  spillOpen := (field payload 3 1).testBit 5
  credit := field payload 4 2
  digest := field payload 6 2

/-- The credit of a CLAIM payload (12.4). -/
def claimCredit (payload : List Byte) : Nat := field payload 1 2

/-- A SPILL NOTICE payload is an open notice (12.4). -/
def noticeIsOpen (payload : List Byte) : Bool := field payload 0 1 == 0

/-! ### Configuration memory (R183, R184, R192) -/

/-- A yes/no setting; none when the byte is neither 0 nor 1. -/
def readFlag (n : Nat) : Option Bool :=
  match n with
  | 0 => some false
  | 1 => some true
  | _ => none

/-- A probe offset, 16-bit two's complement. -/
def readOffset (n : Nat) : Int := if n < 32768 then (n : Int) else (n : Int) - 65536

/-- A number in its range. -/
def inRange (lo hi n : Nat) : Bool := decide (lo ≤ n) && decide (n ≤ hi)

/-- The sum of bytes 0 to 253, modulo 65,536 (R183). -/
def imageSum (image : List Byte) : Nat := ((image.take 254).foldl (fun n b => n + b.toNat) 0) % 65536

/-- The sum agrees with the number stored in bytes 254 and 255 (R183). -/
def checksumPasses (image : List Byte) : Bool := imageSum image == field image 0xFE 2

def readGeneral (m : List Byte) : Option GeneralSettings :=
  match readFlag (field m 0x00 1), readFlag (field m 0x09 1) with
  | some fitted, some held =>
    if inRange 1 12 (field m 0x01 1) && inRange 5 60 (field m 0x02 1) && inRange 1 10 (field m 0x03 1)
        && inRange 0 600 (field m 0x04 2) && inRange 0 600 (field m 0x06 2) && inRange 0 120 (field m 0x08 1) then
      some ⟨fitted, field m 0x01 1, field m 0x02 1, field m 0x03 1, field m 0x04 2, field m 0x06 2, field m 0x08 1,
        held⟩
    else none
  | _, _ => none

/-- A probe offset lies from -2,000 to +2,000. -/
def offsetInRange (o : Int) : Bool := decide (-2000 ≤ o) && decide (o ≤ 2000)

def readLevels (m : List Byte) : Option LevelSettings :=
  let fitted := field m 0x10 1
  let bay := readOffset (field m 0x11 2)
  let channel := readOffset (field m 0x13 2)
  let weir := readOffset (field m 0x15 2)
  let cutOut := field m 0x17 2
  let margin := field m 0x19 2
  let highHigh := field m 0x1B 2
  if inRange 0 7 fitted && offsetInRange bay && offsetInRange channel && offsetInRange weir
      && inRange 0 9000 cutOut && inRange 50 500 margin && inRange 0 9999 highHigh
      && fitted.testBit 0 && decide (cutOut + margin < highHigh) then
    some ⟨fitted.testBit 0, fitted.testBit 1, fitted.testBit 2, bay, channel, weir, cutOut, margin, highHigh⟩
  else none

/-- The first numbers of a list never fall. -/
def nonDecreasing : List Nat → Bool
  | a :: b :: rest => decide (a ≤ b) && nonDecreasing (b :: rest)
  | _ => true

/-- The heads of rating points rise strictly. -/
def strictlyRising : List Nat → Bool
  | a :: b :: rest => decide (a < b) && strictlyRising (b :: rest)
  | _ => true

/-- Pairs of two-byte numbers, the first at a byte. -/
def readPairs (m : List Byte) (first count : Nat) : List (Nat × Nat) :=
  (List.range count).map fun i => (field m (first + 4 * i) 2, field m (first + 4 * i + 2) 2)

def readStages (m : List Byte) : Option StageSettings :=
  let count := field m 0x20 1
  let levels := readPairs m 0x23 count
  if inRange 1 8 count && inRange 0 1000 (field m 0x21 2)
      && levels.all (fun l => inRange 0 9999 l.1 && inRange 0 9999 l.2 && decide (l.2 < l.1))
      && nonDecreasing (levels.map Prod.fst) && nonDecreasing (levels.map Prod.snd) then
    some ⟨levels, field m 0x21 2⟩
  else none

def readScreen (m : List Byte) : Option ScreenSettings :=
  match readFlag (field m 0x48 1) with
  | some withPump =>
    if inRange 20 2000 (field m 0x43 2) && inRange 100 3000 (field m 0x45 2)
        && (field m 0x47 1 == 0 || inRange 5 240 (field m 0x47 1))
        && decide (field m 0x43 2 < field m 0x45 2) then
      some ⟨field m 0x43 2, field m 0x45 2, field m 0x47 1, withPump⟩
    else none
  | none => none

/-- The rating table passes R136. -/
def ratingAccepted (points : List (Nat × Nat)) : Bool :=
  inRange 2 16 points.length && points.head? == some (0, 0)
    && strictlyRising (points.map Prod.fst) && nonDecreasing (points.map Prod.snd)
    && ((points.getLast?.map fun p => decide (p.1 ≤ 2000) && decide (p.2 ≤ 60000)).getD false)

/-- The weir settings as they are loaded; there is room for 16 rating points (12.7). -/
def weirLoaded (m : List Byte) (fitted : Bool) : WeirSettings :=
  ⟨fitted, field m 0x51 2, field m 0x53 1, field m 0x54 1, field m 0x55 2, field m 0x57 2,
    readPairs m 0x5A (min 16 (field m 0x59 1))⟩

/-- The weir section: with fitted no it is valid and its other settings are not checked (R135, R184). -/
def readWeir (m : List Byte) : Option WeirSettings :=
  match readFlag (field m 0x50 1) with
  | some false => some (weirLoaded m false)
  | some true =>
    if inRange 0 9999 (field m 0x51 2) && inRange 1 200 (field m 0x53 1) && inRange 1 200 (field m 0x54 1)
        && decide (field m 0x54 1 ≤ field m 0x53 1) && inRange 10 600 (field m 0x55 2)
        && inRange 30 3600 (field m 0x57 2) && inRange 2 16 (field m 0x59 1)
        && ratingAccepted (weirLoaded m true).rating then
      some (weirLoaded m true)
    else none
  | none => none

/-- The settings an alarm byte holds: bit 0 report enable, bit 1 raise-and-clear, bit 2 horn enable (R192). -/
def readAlarmSetting (n : Nat) : AlarmSetting := ⟨n.testBit 0, n.testBit 1, n.testBit 2⟩

def readAlarms (m : List Byte) : Option (Twelve AlarmSetting) :=
  if (List.range 12).all fun i => inRange 0 7 (field m (0xA0 + i) 1) then
    some (.form fun i => readAlarmSetting (field m (0xA0 + i.val) 1))
  else none

def readReporting (m : List Byte) : Option ReportSettings :=
  let minutes := field m 0xB1 1
  match readFlag (field m 0xB0 1) with
  | some true => some ⟨false, minutes⟩
  | some false => if minutes = 15 ∨ minutes = 30 ∨ minutes = 60 then some ⟨true, minutes⟩ else none
  | none => none

/-- The validity of each section of a memory whose checksum passed (R184). -/
def sectionFlags (m : List Byte) : SectionFlags where
  general := (readGeneral m).isSome
  levels := (readLevels m).isSome
  stages := (readStages m).isSome
  screen := (readScreen m).isSome
  weir := (readWeir m).isSome
  alarms := (readAlarms m).isSome
  reporting := (readReporting m).isSome

/-- The settings in use that such a memory gives, each invalid section at its fallback (R184). -/
def readSettings (m : List Byte) : Settings where
  general := (readGeneral m).getD .builtIn
  levels := readLevels m
  stages := readStages m
  screen := readScreen m
  weir := readWeir m
  alarms := (readAlarms m).getD (.all .builtIn)
  reporting := (readReporting m).getD .builtIn

/-- The settings digest (R186). -/
def Settings.digest (c : Settings) : Nat :=
  let stages := match c.stages with
    | none => 0
    | some g => g.levels.length + (g.levels.map fun l => l.1 + l.2).sum + g.maxDrawdown
  (stages + c.general.stagger + c.general.startsPerHour) % 65536

end Sys2Proof.Machine
end

