-- ==== Sys2Proof/Machine/Flags.lean ====
section
/-! DEFINITION. What is formed from the state and held nowhere else: the contactor and the other outputs (R72, R98,
R99, R116, R133, R164, R165), the start conditions (R61), the alarm conditions as their owners form them (R156) and
the alarm snapshot (R158). -/

namespace Sys2Proof.Machine

/-! ### Pump -/

/-- The pump state as it is published to peers (R72). -/
def PumpState.summary : PumpState → PumpSummary
  | .startup => .startup
  | .out => .out
  | .hand => .hand
  | .ready => .ready
  | .claiming => .starting
  | .proving => .starting
  | .running => .running
  | .stopping => .stopping
  | .cooling => .cooling
  | .locked => .locked

/-- The contactor output is closed: in PROVING and RUNNING, and in HAND while the hand phase is WINDOW or PROVED
(R72, R110). -/
def Pump.closed (p : Pump) : Bool :=
  match p.state with
  | .proving => true
  | .running => true
  | .hand => decide (p.handPhase = some .window) || decide (p.handPhase = some .proved)
  | _ => false

/-- The pump's contactor output. -/
def State.contactor (s : State) : Bool := s.pump.closed

/-- The auto flag: a pump is fitted and the selector is in Auto (R72). -/
def State.autoFlag (s : State) : Bool := s.general.pumpFitted && decide (s.pump.selector = .auto)

/-- The start list holds K entries (R84). -/
def State.startLimited (s : State) : Bool := decide (s.general.startsPerHour ≤ s.pump.starts.length)

/-- The station's credit: the sum of the buckets (R68). -/
def Pump.credit (p : Pump) : Nat := p.buckets.sum

/-- The motor runs for the credit ring and the run seconds: RUNNING, or HAND with the contactor closed and feedback
present (R68, R88). DEDUCED: so a second of PROVED within the 1 s of a feedback drop is not counted, though R169 and R113
speak of PROVED alone (log entry 47). -/
def Pump.counting (p : Pump) : Bool :=
  match p.state with
  | .running => true
  | .hand => p.closed && p.feedback
  | _ => false

/-! ### Levels -/

/-- The bay level (R11). -/
def State.bayLevel (s : State) : Option Nat := s.probes.bay.level

/-- The channel level (R11). -/
def State.channelLevel (s : State) : Option Nat := s.probes.channel.level

/-- A level stands at or above the cut-out level plus the restart margin (R61). -/
def State.restartLevel (s : State) (l : Option Nat) : Bool :=
  match l, s.settings.levels with
  | some x, some c => decide (c.cutOut + c.restartMargin ≤ x)
  | _, _ => false

/-- A level stands at or below the cut-out level, with the levels section valid (R90). -/
def State.atCutOut (s : State) (l : Option Nat) : Bool :=
  match l, s.settings.levels with
  | some x, some c => decide (x ≤ c.cutOut)
  | _, _ => false

/-! ### Staging -/

/-- The station is isolated: its transmitter is disabled or line held is set (R40). -/
def State.isolated (s : State) : Bool := !s.line.txEnabled || s.line.lineHeld

/-- Every start condition of R61 but the one on the start list (R61, R64). -/
def State.otherStartConditions (s : State) : Bool :=
  s.autoFlag && s.pump.minOff.isNone && !s.screen.blinded
    && (if s.staging.floatMode then decide (s.floats.stop.presented = .closed) else s.restartLevel s.bayLevel)
    && !s.supply.hold && s.supply.healthy

/-- Every start condition holds (R61). -/
def State.startConditions (s : State) : Bool := s.otherStartConditions && !s.startLimited

/-- The pump state is READY or CLAIMING, as a start wish needs (R62, R66, R67). -/
def Pump.mayWish (p : Pump) : Bool := decide (p.state = .ready) || decide (p.state = .claiming)

/-- The weir holds an open spill record, in OPEN or CLOSING (R45, R150). -/
def Spill.isOpen : Spill → Bool
  | .dry => false
  | .onset _ => false
  | .opened _ => true
  | .closing _ _ => true

/-- A peer's entry counts for A12: FRESH, with a STATUS held and another digest (R47). -/
def State.differs (s : State) (a : BayAddress) : Bool :=
  decide (s.startUp.address ≠ some a) && decide ((s.peers.get a).presence = .fresh)
    && (s.peers.get a).statusHeld && decide ((s.peers.get a).digest ≠ s.startUp.digest)

/-- A probe record makes A9 abnormal (R19). -/
def ProbeRecord.faulty (r : ProbeRecord) : Bool := r.fitted && decide (r.quality = .fault)

/-- Every section of the configuration is valid (R185). -/
def SectionFlags.allValid (v : SectionFlags) : Bool :=
  v.general && v.levels && v.stages && v.screen && v.weir && v.alarms && v.reporting

/-- The A1 condition as the house level and the HIGH float stand (R69). -/
def State.wellHigh (s : State) : Bool :=
  decide (s.floats.high.presented = .closed)
    || match s.staging.houseLevel, s.settings.levels with
      | some l, some c => decide (c.highHigh ≤ l)
      | _, _ => false

/-- The condition of a kind as its owner forms it, true for abnormal (R156). An event kind is normal but at its
event. -/
def State.condition (s : State) : AlarmKind → Bool
  | .a1 => s.staging.a1
  | .a2 => decide s.ended && (!s.supply.healthy || s.supply.hold)
  | .a3 => false
  | .a4 => false
  | .a5 => decide (s.pump.state = .locked)
  | .a6 => s.staging.limitHeld
  | .a7 => s.screen.blinded
  | .a8 => decide (s.screen.state = .jammed)
  | .a9 => s.probes.bay.faulty || s.probes.channel.faulty || s.probes.weir.faulty
      || decide (s.floats.stop.state = .wireFault) || decide (s.floats.start.state = .wireFault)
      || decide (s.floats.high.state = .wireFault) || s.floats.contradiction
  | .a10 => decide s.ended && s.isolated
  | .a11 => decide (s.startUp.memory = .noMemory) || decide (s.startUp.checksum = .failed) || !s.startUp.valid.allValid
  | .a12 => twelvePlaces.any s.differs

/-- The cause handed with a condition (R156). -/
def State.cause (s : State) : AlarmKind → Cause
  | .a5 => (s.pump.lockCause.map Cause.lock).getD .noCause
  | .a8 => (s.screen.jamCause.map Cause.jam).getD .noCause
  | _ => .noCause

/-- The number of FRESH peer entries, the own entry not counted (R158). -/
def State.freshPeers (s : State) : Nat :=
  (twelvePlaces.filter fun a => decide (s.startUp.address ≠ some a) && decide ((s.peers.get a).presence = .fresh)).length

/-- The snapshot as its owners hold the values (R158). -/
def State.snapshot (s : State) : Snapshot where
  house := s.report.house
  houseLevel := s.staging.houseLevel
  bayLevel := s.bayLevel
  channelLevel := s.channelLevel
  weirHead := s.weir.head
  d := s.staging.d
  dAuto := s.staging.dAuto
  rank := s.staging.rank
  pump := s.pump.state.summary
  screen := s.screen.state
  freshPeers := s.freshPeers

/-! ### Outputs -/

/-- A panel lamp or the beacon: dark, lit, or lit and dark for 0.5 s each. -/
inductive Lamp
  | dark | steady | flashing
  deriving DecidableEq, Repr

/-- The RUN lamp (R98, R113). -/
def State.runLamp (s : State) : Lamp :=
  match s.pump.state with
  | .running => .steady
  | .proving => .flashing
  | .hand => match s.pump.handPhase with
    | some .proved => .steady
    | some .window => .flashing
    | _ => .dark
  | _ => .dark

/-- The FAULT lamp (R99). -/
def State.faultLamp (s : State) : Lamp :=
  match s.pump.state with
  | .locked => .steady
  | .cooling => .flashing
  | _ => .dark

/-- The SCREEN lamp (R133). -/
def State.screenLamp (s : State) : Lamp :=
  if s.screen.state = .jammed then .steady else if s.screen.blinded then .flashing else .dark

/-- The horn output (R164). -/
def State.horn (s : State) : Bool :=
  AlarmKind.inOrder.any fun k => (s.alarmSetting k).horn && !(s.alarm k).accepted

/-- The beacon output (R165). -/
def State.beacon (s : State) : Lamp :=
  if AlarmKind.inOrder.any fun k => !(s.alarm k).accepted then .flashing
  else if AlarmKind.inOrder.any fun k => (s.alarm k).abnormal then .steady
  else .dark

/-- Whether a lamp is lit at this moment; a flashing lamp is lit for 0.5 s and dark for 0.5 s (R98, R133, R165). -/
def State.lit (s : State) : Lamp → Bool
  | .dark => false
  | .steady => true
  | .flashing => decide (((s.now + Config.flashPhase) / 500) % 2 = 0)

/-- The rake forward output (R116). -/
def State.rakeForward (s : State) : Bool := decide (s.screen.state = .forward)

/-- The rake reverse output (R116). -/
def State.rakeReverse (s : State) : Bool := decide (s.screen.state = .reversing) && s.screen.reverseOn

/-- A rake output is energised (R124). -/
def Screen.energised (c : Screen) : Bool :=
  decide (c.state = .forward) || (decide (c.state = .reversing) && c.reverseOn)

/-- The bits that the attempt in progress drives on the house line (R22, R23, R26). -/
def State.driven (s : State) : Option (List Bool) :=
  match s.line.attempt, s.startUp.address with
  | some a, some own => (s.line.slot a.slot).frame.map fun f => lineBits f.cls own.number f.payload
  | _, _ => none

/-- The float loop that is excited at this moment (R16). -/
def State.excited (s : State) : Option FloatId :=
  if s.floats.pulseAt ≤ s.now ∧ s.now < s.floats.pulseAt + 20 then some s.floats.turn else none

/-- The request bytes on the probe link while a reply is awaited (R6). -/
def State.probeRequest (s : State) : Option (List LinkByte) :=
  match s.probes.exchange with
  | some ⟨p, identify, _, .window _⟩ => some (request p identify)
  | _ => none

/-- The bits that the request puts on the probe link, in the order they are sent (R3, R6). -/
def State.probeDriven (s : State) : Option (List Bool) := s.probeRequest.map fun bytes => bytes.flatMap serialBits

end Sys2Proof.Machine
end

