-- ==== Sys2Proof/Machine/Slots.lean ====
section
/-! DEFINITION. The transmit slots of the Line Interface and what happens to them: placing, offering, withdrawing and
the ends of an attempt (R25 to R30). -/

namespace Sys2Proof.Machine

/-- The slots in order of the class they carry (R25). -/
def SlotId.inOrder : List SlotId := [.claim, .notice, .status, .report]

/-- The slot's frame is on the line (R26). -/
def LineUnit.onLine (u : LineUnit) (i : SlotId) : Bool :=
  match u.attempt with
  | some a => decide (a.slot = i)
  | none => false

/-- The slot's frame is committed (R27). -/
def LineUnit.committed (u : LineUnit) (i : SlotId) : Bool :=
  match u.attempt with
  | some a => decide (a.slot = i) && a.committed
  | none => false

/-- Place a frame in a slot: it replaces a frame not yet on the line (R25) and becomes the next frame behind a
committed one (R27). Between the two the manual is silent (log entry 7). -/
def State.place (i : SlotId) (f : Frame) (s : State) : State :=
  let x := s.line.slot i
  let queued := s.onLine fun u => u.setSlot i ⟨x.frame, some f⟩
  let replaced := s.onLine fun u => u.setSlot i ⟨some f, none⟩
  if s.line.committed i then queued
  else if s.line.onLine i then
    if Config.replacesOnLine s.draws then replaced.drawn else queued.drawn
  else replaced

/-- An attempt ends in the arbitration field by no fault of the line: whether its start bit had been read back
dominant, which sets the not-following count to 0 (R36), is open (log entry 8). -/
def State.leaveField (s : State) : State :=
  if s.line.notFollowingCount = 0 then s
  else if Config.startBitWasRead s.draws then (s.onLine fun u => { u with notFollowingCount := 0 }).drawn
  else s.drawn

/-- The owner's answer to a withdrawal (R28). -/
inductive Answer
  | withdrawn | tooLate
  deriving DecidableEq, Repr

/-- How a withdrawal taken now is answered (R28). -/
def State.withdrawalAnswer (i : SlotId) (s : State) : Answer :=
  if s.line.committed i then .tooLate else .withdrawn

/-- A withdrawal (R28): a frame waiting, or on the line in the arbitration field, leaves its slot; a committed one
goes on. In either case a next frame is cleared. -/
def State.withdraw (i : SlotId) (s : State) : State :=
  if s.line.committed i then s.onLine fun u => u.setSlot i ⟨(u.slot i).frame, none⟩
  else if s.line.onLine i then
    (s.onLine fun u => { u.setSlot i .empty with attempt := none }).leaveField
  else s.onLine fun u => u.setSlot i .empty

/-- Withdraw the claim; a refused withdrawal stands (R79, R110). -/
def State.withdrawClaim (s : State) : State :=
  match s.withdrawalAnswer .claim with
  | .withdrawn => s.withdraw .claim
  | .tooLate => (s.withdraw .claim).onLine fun u => { u with claimWithdrawal := true }

/-- The lowest-class filled slot (R26). -/
def LineUnit.lowestFilled (u : LineUnit) : Option SlotId :=
  SlotId.inOrder.find? fun i => (u.slot i).frame.isSome

/-- Offer the lowest-class filled slot on an idle line, with the transmitter enabled and start-up ended; the start
bit makes the line not idle (R26). -/
def State.offer (s : State) : State :=
  if s.line.idle ∧ s.line.txEnabled ∧ s.ended ∧ s.line.attempt = none then
    match s.line.lowestFilled with
    | none => s
    | some i => s.onLine fun u => { u with attempt := some ⟨i, false⟩, idle := false }
  else s

/-- The attempt in progress ends without completion: the next frame, if there is one, replaces the slot's frame
(R27, R29). -/
def State.dropAttempt (s : State) : State :=
  match s.line.attempt with
  | none => s
  | some a =>
    s.onLine fun u =>
      let x := u.slot a.slot
      { u.setSlot a.slot (match x.next with
          | none => x
          | some f => ⟨some f, none⟩) with
        attempt := none }

/-- The attempt in progress completes: the slot empties and takes its next frame (R27, R29), and the conflict-abort
count returns to 0 (R37). -/
def State.completeAttempt (i : SlotId) (s : State) : State :=
  s.onLine fun u =>
    { u.setSlot i ⟨(u.slot i).next, none⟩ with attempt := none, conflictAborts := 0 }

end Sys2Proof.Machine
end

