-- ==== Sys2Proof/Machine/AlarmTable.lean ====
section
/-! DEFINITION. The alarm table: turns to abnormal and to normal, with what they latch (R157 to R162), and acceptance
(R163). -/

namespace Sys2Proof.Machine

/-- The REPORT slot holds the frame of this kind's clear, and the clear is still pending (R162). -/
def State.carriesClear (s : State) (k : AlarmKind) : Bool :=
  match s.line.report.frame with
  | some (.alarmClear k' _) => decide (k' = k) && !s.report.itemGone
  | _ => false

/-- What a turn to abnormal does to a record before anything is latched (R157). -/
def AlarmRecord.turned (r : AlarmRecord) : AlarmRecord :=
  { r with abnormal := true, normalSince := none, accepted := false }

/-- A pending clear is dropped and outstanding becomes yes again (R157). -/
def AlarmRecord.dropClear (r : AlarmRecord) : AlarmRecord :=
  if r.clear.isSome then { r with clear := none, outstanding := true } else r

/-- A saturating 8-bit count goes up by one (R154). -/
def countUp (n : Nat) : Nat := min 255 (n + 1)

/-- What a turn to abnormal latches or counts on a record with report enable yes (R157). -/
def AlarmRecord.latch (r : AlarmRecord) (raise : PendingRaise) : AlarmRecord :=
  if r.raise.isSome then { r with repeats := countUp r.repeats }
  else if r.armed then { r with raise := some raise, outstanding := true }
  else { r with chatter := countUp r.chatter }

/-- A turn to abnormal latches a new raise (R157). -/
def State.willRaise (s : State) (k : AlarmKind) : Bool :=
  (s.alarmSetting k).report && (s.alarm k).raise.isNone && (s.alarm k).armed

/-- A turn to abnormal of a kind, taken with a snapshot (R157). The Alarm Unit takes none before the end of start-up,
nor one of a condition that is abnormal already (R156). -/
def State.turnAbnormal (k : AlarmKind) (snapshot : Snapshot) (s : State) : State :=
  let r := s.alarm k
  if ¬ s.ended ∨ r.abnormal then s
  else if (s.alarmSetting k).report then
    let t := if r.clear.isSome && s.carriesClear k then s.onReport fun u => { u with itemGone := true } else s
    t.setAlarm k (r.turned.dropClear.latch ⟨snapshot, s.cause k⟩)
  else s.setAlarm k r.turned

/-- A turn to normal of a kind (R159). -/
def State.turnNormal (k : AlarmKind) (s : State) : State :=
  let r := s.alarm k
  if ¬ s.ended ∨ ¬ r.abnormal then s
  else
    let n := { r with abnormal := false, normalSince := some s.now }
    if (s.alarmSetting k).report && (s.alarmSetting k).raiseAndClear && r.outstanding then
      s.setAlarm k { n with clear := some s.report.house, outstanding := false }
    else s.setAlarm k n

/-- The snapshot a raise takes at a moment at which other events fall: the values before one of those events, which
`earlier` lists in order, or after them all, according to which is taken first (R158; log entry 28). Snapshots
that are alike draw no free value. -/
def State.chooseSnapshot : List Snapshot → State → Snapshot × State
  | [], s => (s.snapshot, s)
  | b :: bs, s =>
    if b = s.snapshot then s.chooseSnapshot bs
    else if Config.takenFirst s.draws then (b, s.drawn)
    else s.drawn.chooseSnapshot bs

/-- A turn to abnormal at the same moment as events before which the snapshots stood as `earlier` lists them. -/
def State.turnAbnormalSince (earlier : List Snapshot) (k : AlarmKind) (s : State) : State :=
  if ¬ s.ended ∨ (s.alarm k).abnormal ∨ ¬ s.willRaise k then s.turnAbnormal k s.snapshot
  else
    let c := s.chooseSnapshot earlier
    c.2.turnAbnormal k c.1

/-- A raise latched at this moment, since `was`, takes the snapshot it has or the one of now, by whether it or what has
followed it is taken first (R158; log entry 28). -/
def State.retaken (s was : State) (k : AlarmKind) : State :=
  match (was.alarm k).raise, (s.alarm k).raise with
  | none, some r =>
    let c := s.chooseSnapshot [r.snapshot]
    c.2.setAlarm k { c.2.alarm k with raise := some { r with snapshot := c.1 } }
  | _, _ => s

/-- The owner hands over its condition as it now stands (R156). -/
def State.handOver (earlier : List Snapshot) (k : AlarmKind) (s : State) : State :=
  if s.condition k then s.turnAbnormalSince earlier k else s.turnNormal k

/-- An event kind: a turn to abnormal and, immediately after it, a turn to normal (R156). -/
def State.alarmEvent (earlier : List Snapshot) (k : AlarmKind) (s : State) : State :=
  (s.turnAbnormalSince earlier k).turnNormal k

/-- Acceptance sets accepted to yes on every kind (R163). -/
def State.acceptAll (s : State) : State :=
  s.onAlarms fun t => .form fun i => { t.get i with accepted := true }

/-- Every kind is accepted. -/
def State.allAccepted (s : State) : Bool := AlarmKind.inOrder.all fun k => (s.alarm k).accepted

/-- The Alarm Unit reads every owner's condition once, in kind order (R156). -/
def State.readConditions (s : State) : State :=
  AlarmKind.inOrder.foldl (fun t k => if t.condition k then t.turnAbnormal k t.snapshot else t) s

/-- A kind's condition has been normal without a break for 60 s (R160). -/
def State.normalForAMinute (s : State) (r : AlarmRecord) : Bool :=
  match r.normalSince with
  | some t => decide (t + 60000 ≤ s.now)
  | none => false

/-- The frame carrying a raise completes: the raise leaves, its counts are taken off, and the kind is disarmed and
rearms at once if its condition has been normal for 60 s (R160, R161). -/
def State.raiseSent (k : AlarmKind) (repeats chatter : Nat) (s : State) : State :=
  let r := s.alarm k
  s.setAlarm k { r with
    raise := none
    repeats := r.repeats - repeats
    chatter := r.chatter - chatter
    armed := s.normalForAMinute r }

/-- The frame carrying a clear that is still pending completes (R162). -/
def State.clearSent (k : AlarmKind) (s : State) : State :=
  s.setAlarm k { s.alarm k with clear := none }

end Sys2Proof.Machine
end

