-- ==== Sys2Proof/Machine/Reporting.lean ====
section
/-! DEFINITION. The Report Unit: house time (R166), the interval in progress and its close (R171 to R175), and the
selection of report items (R176 to R179). -/

namespace Sys2Proof.Machine

/-! ### House time -/

/-- House time one second on (R166). -/
def HouseTime.next (t : HouseTime) : HouseTime :=
  if t.second + 1 < 86400 then { t with second := t.second + 1 }
  else { t with second := 0, day := (t.day + 1) % 65536 }

/-- The seconds of the cycle of 65,536 days (R167). -/
def houseCycle : Nat := 65536 * 86400

/-- The forward distance in seconds from one day and second to another, round the cycle (R167). -/
def forwardDistance (a b : Nat × Nat) : Nat :=
  (b.1 * 86400 + b.2 + houseCycle - (a.1 * 86400 + a.2)) % houseCycle

/-- The distance counted the shorter way round (R167). -/
def shorterDistance (a b : Nat × Nat) : Nat := min (forwardDistance a b) (forwardDistance b a)

/-- The first boundary strictly after a house time (R172). -/
def nextBoundary (minutes : Nat) (t : HouseTime) : Nat × Nat :=
  let second := (t.second / (minutes * 60) + 1) * (minutes * 60)
  if second < 86400 then (t.day, second) else ((t.day + 1) % 65536, 0)

/-- The close-due time an interval takes at this house time: in auto mode only (R172). -/
def ReportSettings.closeDue (c : ReportSettings) (t : HouseTime) : Option (Nat × Nat) :=
  if c.auto then some (nextBoundary c.minutes t) else none

/-! ### Intervals -/

/-- An interval that begins now (R171, R172). -/
def State.newInterval (s : State) : Interval where
  start := s.report.house
  length := 0
  timeSet := false
  unsync := !s.report.house.sync
  closeDue := s.settings.reporting.closeDue s.report.house

/-- A new interval begins: the accumulators at 0, the peak at none, the marks clear; counts held aside are the new
interval's (R171, R174). -/
def State.beginInterval (s : State) : State :=
  s.onReport fun r => { r with interval := some s.newInterval, counts := .zero }

/-- The closed-interval record of an interval with its accumulators (R174). -/
def Interval.record (i : Interval) (counts : Accumulators) : IntervalRecord :=
  ⟨i.start, i.length, counts, i.timeSet, i.unsync, 0⟩

/-- The REPORT slot holds a frame that carries the oldest closed interval (R175). -/
def State.carriesInterval (s : State) : Bool :=
  match s.line.report.frame with
  | some (.intervalReport _) => !s.report.itemGone
  | _ => false

/-- The REPORT slot empties, and no item is carried (R177, R178). -/
def State.emptyReport (s : State) : State :=
  (s.withdraw .report).onReport fun r => { r with itemGone := false }

/-- The intervals-lost count a record takes from the record dropped for it (R175). -/
def IntervalRecord.losing (r dropped : IntervalRecord) : IntervalRecord :=
  { r with lost := min 255 (1 + dropped.lost) }

/-- A record joins the closed-interval queue as the newest; a full queue drops its oldest, or the next oldest when
the oldest is carried by a committed frame (R175). -/
def State.joinQueue (record : IntervalRecord) (s : State) : State :=
  match s.report.queue with
  | a :: b :: c :: d :: _ =>
    if s.carriesInterval ∧ s.line.committed .report then
      s.onReport fun r => { r with queue := [a, c, d, record.losing b] }
    else
      let t := if s.carriesInterval then s.emptyReport else s
      t.onReport fun r => { r with queue := [b, c, d, record.losing a] }
  | q => s.onReport fun r => { r with queue := q ++ [record] }

/-- The interval in progress closes, and a new one begins at the same moment (R174, R175). -/
def State.closeInProgress (s : State) : State :=
  match s.report.interval with
  | none => s
  | some i => (s.joinQueue (i.record s.report.counts)).beginInterval

/-! ### Report items (R176) -/

/-- An item of one of the three collections. -/
inductive ReportItem
  | raise (kind : AlarmKind)
  | clear (kind : AlarmKind)
  | spill
  | interval
  deriving DecidableEq, Repr

/-- The item that a kind offers: its raise, or its clear while it holds no pending raise (R161, R176). -/
def State.alarmItem (s : State) (k : AlarmKind) : Option ReportItem :=
  if (s.alarm k).raise.isSome then some (.raise k)
  else if (s.alarm k).clear.isSome then some (.clear k)
  else none

/-- The selected item: the first in selection order (R176). -/
def State.selected (s : State) : Option ReportItem :=
  match AlarmKind.inOrder.findSome? s.alarmItem with
  | some item => some item
  | none =>
    if s.weir.log ≠ [] then some .spill
    else if s.report.queue ≠ [] then some .interval
    else none

/-- The frame formed for an item as the item stands (R161, R176). -/
def State.itemFrame (s : State) : ReportItem → Option Frame
  | .raise k => (s.alarm k).raise.map fun r => .alarmRaise k r (s.alarm k).repeats (s.alarm k).chatter
  | .clear k => (s.alarm k).clear.map fun t => .alarmClear k t
  | .spill => s.weir.log.head?.map .spillRecord
  | .interval => s.report.queue.head?.map .intervalReport

/-- The item a REPORT frame was formed from. -/
def Frame.item : Frame → Option ReportItem
  | .alarmRaise k _ _ _ => some (.raise k)
  | .alarmClear k _ => some (.clear k)
  | .spillRecord _ => some .spill
  | .intervalReport _ => some .interval
  | _ => none

/-- The item that the REPORT slot's frame carries, if it is still pending (R177). -/
def State.carried (s : State) : Option ReportItem :=
  if s.report.itemGone then none else s.line.report.frame.bind Frame.item

/-! ### Selection (R177, R178) -/

/-- An empty REPORT slot takes the selected item while the town is present (R177). -/
def State.fillReport (s : State) : State :=
  if s.report.townPresent then
    match s.selected.bind s.itemFrame with
    | none => s
    | some f => (s.place .report f).onReport fun r => { r with itemGone := false }
  else s

/-- The REPORT frame is withdrawn: answered withdrawn, the slot empties and a selection follows; answered too late,
the withdrawal stands (R178). -/
def State.withdrawReport (s : State) : State :=
  match s.withdrawalAnswer .report with
  | .withdrawn => s.emptyReport.fillReport
  | .tooLate => (s.withdraw .report).onLine fun u => { u with reportWithdrawal := true }

/-- A selection (R177). While a withdrawal stands, nothing is placed or withdrawn (R178). -/
def State.select (s : State) : State :=
  if s.line.reportWithdrawal then s
  else if s.line.report.frame = none then s.fillReport
  else if s.carried.isSome ∧ s.carried = s.selected then s
  else if s.report.itemGone ∨ s.report.townPresent then s.withdrawReport
  else s

/-- A REPORT frame has completed: the owner removes the item carried, unless it was dropped meanwhile (R161, R162,
R152, R179). -/
def State.reportSent (f : Frame) (s : State) : State :=
  let t := (s.onReport fun r => { r with itemGone := false }).onLine fun u => { u with reportWithdrawal := false }
  if s.report.itemGone then t
  else match f with
    | .alarmRaise k _ repeats chatter => t.raiseSent k repeats chatter
    | .alarmClear k _ => t.clearSent k
    | .spillRecord _ => t.onWeir fun w => { w with log := w.log.tail }
    | .intervalReport _ => t.onReport fun r => { r with queue := r.queue.tail }
    | _ => t

/-- An attempt on the REPORT frame has ended without completion: a standing withdrawal empties the slot (R178). -/
def State.reportBack (s : State) : State :=
  if s.line.reportWithdrawal then
    (s.onLine fun u => { u with report := .empty, reportWithdrawal := false }).onReport
      fun r => { r with itemGone := false }
  else s

/-- What closes every step that can fill a slot or free the line: the selection, then the offer of the lowest-class
filled slot on an idle line (R26, R177; log entry 6). -/
def State.finish (s : State) : State := s.select.offer

end Sys2Proof.Machine
end

