-- ==== Sys2Proof/Machine/PeerTable.lean ====
section
/-! DEFINITION. The Peer Table: the own entry and the STATUS frames that publish it (R45, R46), and the peer entries
(R43, R44, R47). -/

namespace Sys2Proof.Machine

/-! ### The own entry (R45, R46) -/

/-- A STATUS carrying the own entry is placed in the STATUS slot; none before the end of start-up, and none by a
station with no address (R46). -/
def State.placeStatus (s : State) : State :=
  match s.startUp.address with
  | none => s
  | some own =>
    if s.ended then
      s.place .status
        (.status (s.peers.get own) s.probes.bay.atLimit s.probes.channel.atLimit s.probes.weir.atLimit)
    else s

/-- An entry with the fields that are rewritten at each change, as the station now stands (R45). -/
def State.withPublished (s : State) (e : PeerEntry) : PeerEntry :=
  { e with
    summary := s.pump.state.summary
    auto := s.autoFlag
    available := s.staging.available
    restricted := s.screen.blinded
    startLimited := s.startLimited
    spillOpen := s.weir.spill.isOpen }

/-- The own entry follows a change of its pump summary, its flags or its spill-open field, and a STATUS is placed
(R45, R46). DEDUCED: a change of the pump state that keeps the summary, from CLAIMING to PROVING with both STARTING,
places none, though R72 speaks of each change of state (log entry 38). -/
def State.publish (s : State) : State :=
  match s.startUp.address with
  | none => s
  | some own =>
    if s.withPublished (s.peers.get own) = s.peers.get own then s
    else (s.onEntry own s.withPublished).placeStatus

/-- The own entry is rewritten at a probe-cycle completion (R45). -/
def State.rewriteOwn (s : State) : State :=
  match s.startUp.address with
  | none => s
  | some own =>
    s.onEntry own fun e => { s.withPublished e with level := s.bayLevel, credit := s.pump.credit }

/-- The own entry's isolated flag changes, and a STATUS is placed (R45, R46). -/
def State.setIsolatedFlag (v : Bool) (s : State) : State :=
  match s.startUp.address with
  | none => s
  | some own =>
    if (s.peers.get own).isolated = v then s
    else (s.onEntry own fun e => { e with isolated := v }).placeStatus

/-! ### Peer entries (R43, R44, R47, R59) -/

/-- A valid frame from a peer sets its entry's age to 0, so the entry is FRESH (R33, R43). -/
def PeerEntry.refreshed (e : PeerEntry) : PeerEntry := { e with age := 0, presence := .fresh }

/-- The entry with what a STATUS carries (R44). -/
def PeerEntry.taking (c : StatusContent) (e : PeerEntry) : PeerEntry :=
  { e with
    statusHeld := true
    level := c.level
    summary := c.summary
    auto := c.auto
    available := c.available
    restricted := c.restricted
    spillOpen := c.spillOpen
    credit := c.credit
    digest := c.digest }

/-- The entry of a peer that has become STALE keeps every other field (R43). -/
def PeerEntry.gone (e : PeerEntry) : PeerEntry := { e with presence := .stale }

/-- The entry of a peer that has become ABSENT takes the initial values, its age going on (R43). -/
def PeerEntry.forgotten (e : PeerEntry) : PeerEntry := { PeerEntry.initial with age := e.age }

/-- The claim mark of an address clears (R59). -/
def State.clearClaimMark (a : BayAddress) (s : State) : State :=
  s.onStaging fun g => { g with claimMarks := g.claimMarks.set a none }

/-- The A12 condition is formed again (R47). -/
def State.formA12 (s : State) : State := s.handOver [] .a12

/-- A peer's entry is refreshed; the A12 condition is formed again if that changes its presence (R33, R43, R47). -/
def State.refreshPeer (a : BayAddress) (s : State) : State :=
  let t := s.onEntry a PeerEntry.refreshed
  if (s.peers.get a).presence = .fresh then t else t.formA12

end Sys2Proof.Machine
end

