-- ==== Sys2Proof/Machine/ScreenController.lean ====
section
/-! DEFINITION. The Screen Controller's shared operations: triggers, the rake cycle and its ends, the interval timer,
and the timers formed at a probe-cycle completion (R118 to R131). -/

namespace Sys2Proof.Machine

/-- The cam stage at an entry into FORWARD, from the cam as it reads (R121, R122). -/
def Screen.freshStage (c : Screen) : CamStage := if c.camClosed then .waitOpen else .waitClose

/-- The overcurrent timing started afresh: it starts only when the input is active (R124). -/
def Screen.freshOvercurrent (now : Nat) (c : Screen) : Option Nat := if c.overcurrentInput then some now else none

/-- A rake cycle starts (R121). -/
def Screen.startCycle (now : Nat) (c : Screen) : Screen :=
  { c with
    state := .forward
    retries := 0
    forwardMs := 0
    overcurrentSince := c.freshOvercurrent now
    camStage := some c.freshStage }

/-- A trigger of a cycle; lost before the end of start-up (R118, R120). DEDUCED: the forward output is energised at the
moment FORWARD is entered, also within 200 ms of a reverse run that ended by OUT or JAMMED and not by PAUSE (R116; log
entry 40). -/
def State.trigger (s : State) : State :=
  if ¬ s.ended then s
  else match s.screen.state with
    | .idle => if s.supply.healthy then s.onScreen (Screen.startCycle s.now) else s
    | .forward => s.onScreen fun c => { c with rakeAgain := true }
    | .reversing => s.onScreen fun c => { c with rakeAgain := true }
    | .pause => s.onScreen fun c => { c with rakeAgain := true }
    | .jammed => s
    | .out => s

/-- What a cycle leaves when it is in progress no longer: outputs off, no cam stage, no state timer and no
overcurrent timing (R115, R116, R124). -/
def Screen.atRest (c : Screen) : Screen :=
  { c with camStage := none, stateTimer := none, energiseAt := none, reverseOn := false, overcurrentSince := none }

/-- A cycle is abandoned with nothing counted (R128, R129). -/
def Screen.abandon (c : Screen) : Screen :=
  { c.atRest with state := .idle, rakeAgain := false, retries := 0, forwardMs := 0 }

/-- A rake cycle is in progress. -/
def ScreenState.inCycle : ScreenState → Bool
  | .forward => true
  | .reversing => true
  | .pause => true
  | _ => false

/-- The rake is jammed (R126). -/
def State.jam (cause : JamCause) (s : State) : State :=
  ((s.onScreen fun c => { c.atRest with state := .jammed, jamCause := some cause, rakeAgain := false }).count
    .jamEvents 1).handOver [] .a8

/-- The supply is lost: a cycle in progress is abandoned (R128). -/
def State.rakeSupplyLost (s : State) : State :=
  if s.screen.state.inCycle then s.onScreen Screen.abandon else s

/-- The interval timer's length in force, in minutes (R119). -/
def State.rakeInterval (s : State) : Option Nat :=
  match s.settings.screen with
  | none => some 60
  | some c => if c.interval ≠ 0 then some c.interval else if s.probes.deltaH = none then some 30 else none

/-- The interval timer restarts for the length in force (R119). -/
def State.restartInterval (s : State) : State :=
  s.onScreen fun c => { c with intervalAt := s.rakeInterval.map fun m => s.now + m * 60000 }

/-- A rake cycle completes (R122). -/
def State.completeCycle (s : State) : State :=
  (((s.count .rakeCycles 1).restartInterval).onScreen fun c =>
    if c.rakeAgain then { c.startCycle s.now with rakeAgain := false }
    else { c.atRest with state := .idle })

/-- A timer that a completion starts when it is stopped, lets run on, or stops. -/
def keepTiming (now : Nat) (holds : Bool) (since : Option Nat) : Option Nat :=
  if holds then some (since.getD now) else none

/-- ΔH at or above the rake-on threshold (R118). -/
def State.rakeOnReached (s : State) : Bool :=
  match s.settings.screen, s.probes.deltaH with
  | some c, some d => decide (c.rakeOn ≤ d)
  | _, _ => false

/-- ΔH in the set band (R130). -/
def State.inSetBand (s : State) : Bool :=
  match s.settings.screen, s.probes.deltaH with
  | some c, some d => decide (c.blind ≤ d)
  | _, _ => false

/-- ΔH in the clear band (R130). -/
def State.inClearBand (s : State) : Bool :=
  match s.settings.screen, s.probes.deltaH with
  | some c, some d => decide (d + 50 < c.blind)
  | _, _ => false

/-- The interval timer at a completion: with the interval off it starts when ΔH turns none and stops when ΔH is none
no longer (R119). -/
def State.intervalAtCompletion (s : State) : Option Nat :=
  if ¬ s.ended then s.screen.intervalAt
  else match s.rakeInterval with
    | none => none
    | some m => some (s.screen.intervalAt.getD (s.now + m * 60000))

/-- The screen's timers at a probe-cycle completion (R118, R119, R130, R131). -/
def State.screenCompletion (s : State) : State :=
  s.onScreen fun c => { c with
    differentialSince := keepTiming s.now s.rakeOnReached c.differentialSince
    blindSetSince := keepTiming s.now s.inSetBand c.blindSetSince
    blindClearSince := keepTiming s.now s.inClearBand c.blindClearSince
    intervalAt := s.intervalAtCompletion }

end Sys2Proof.Machine
end

