-- ==== Sys2Proof/Machine/WeirUnit.lean ====
section
/-! DEFINITION. The Weir Unit: head and flow (R137, R138), the spill states (R140 to R147), the close of a record and
the spill log (R148, R152, R153), notices (R150) and counts (R151). -/

namespace Sys2Proof.Machine

/-- The flow that the rating points give for a head (R138). -/
def ratedFlow : List (Nat × Nat) → Nat → Nat
  | [], _ => 0
  | [p], _ => p.2
  | p :: q :: rest, h =>
    if h < q.1 then p.2 + ((q.2 - p.2) * (h - p.1)) / (q.1 - p.1) else ratedFlow (q :: rest) h

/-- The head lies above the last point of the rating table (R139). -/
def beyondRating (points : List (Nat × Nat)) (h : Nat) : Bool :=
  match points.getLast? with
  | none => false
  | some p => decide (p.1 < h)

/-- The head of a weir level over the crest (R137); a level at or below the crest gives 0. -/
def headOver (crest : Nat) (level : Option Nat) : Option Nat := level.map fun w => w - crest

/-- A fresh onset record (R141). -/
def OnsetRecord.fresh (house : HouseTime) (head flow : Nat) (beyond : Bool) : OnsetRecord :=
  ⟨house, flow, 1, head, beyond, false, false⟩

/-- A completion at or above the onset head in ONSET (R142). -/
def OnsetRecord.gather (r : OnsetRecord) (head flow : Nat) (beyond : Bool) : OnsetRecord :=
  { r with
    litres := r.litres + flow
    count := r.count + 1
    peak := max r.peak head
    beyondRating := r.beyondRating || beyond }

/-- The open record made from an onset record (R143). -/
def OnsetRecord.opened (r : OnsetRecord) (persistence : Nat) : SpillData where
  start := r.start
  endTime := none
  duration := persistence
  peak := r.peak
  volume := r.litres
  volumeSaturated := false
  beyondRating := r.beyondRating
  probeGap := r.probeGap
  closedByFault := false
  timeSet := r.timeSet
  lost := 0

/-- One second more of a spill, the duration saturating (R144, R146). -/
def SpillData.second (r : SpillData) : SpillData := { r with duration := min 4294967295 (r.duration + 1) }

/-- A completion with a head in OPEN or CLOSING (R144, R145). -/
def SpillData.gather (r : SpillData) (head flow : Nat) (beyond : Bool) : SpillData :=
  { r.second with
    volume := min 4294967295 (r.volume + flow)
    volumeSaturated := r.volumeSaturated || decide (4294967295 < r.volume + flow)
    peak := max r.peak head
    beyondRating := r.beyondRating || beyond }

/-- The REPORT slot holds a frame that carries the oldest spill record (R153). -/
def State.carriesSpill (s : State) : Bool :=
  match s.line.report.frame with
  | some (.spillRecord _) => !s.report.itemGone
  | _ => false

/-- The records-lost count a record takes from the record dropped for it (R153). -/
def SpillData.losing (r dropped : SpillData) : SpillData := { r with lost := min 255 (1 + dropped.lost) }

/-- A closed record joins the spill log as the newest; a full log drops its oldest, or the next oldest when the
oldest is carried by a committed frame (R148, R153). -/
def State.joinLog (record : SpillData) (s : State) : State :=
  match s.weir.log with
  | a :: b :: rest =>
    if rest.length < 6 then s.onWeir fun w => { w with log := w.log ++ [record] }
    else if s.carriesSpill ∧ s.line.committed .report then
      s.onWeir fun w => { w with log := a :: rest ++ [record.losing b] }
    else
      let t := if s.carriesSpill then s.emptyReport else s
      t.onWeir fun w => { w with log := b :: rest ++ [record.losing a] }
  | log => s.onWeir fun w => { w with log := log ++ [record] }

/-- The spill state changes, and the own entry's spill-open field with it (R45, R140). -/
def State.setSpill (x : Spill) (s : State) : State := (s.onWeir fun w => { w with spill := x }).publish

/-- The gap count takes a value (R141 to R147). -/
def State.setGap (n : Nat) (s : State) : State := s.onWeir fun w => { w with gapCount := n }

/-- The litres and seconds of one completion in OPEN or CLOSING (R151). -/
def State.countSpill (seconds litres : Nat) (s : State) : State :=
  (s.count .spillSeconds seconds).count .spillLitres litres

/-- A spill opens (R143, R150, R151). -/
def State.openSpill (r : OnsetRecord) (persistence : Nat) (s : State) : State :=
  ((s.setSpill (.opened (r.opened persistence))).countSpill persistence r.litres).place .notice
    (.noticeOpen r.start)

/-- A record closes (R148, R150). -/
def State.closeSpill (r : SpillData) (s : State) : State :=
  let closed := { r with endTime := some s.report.house }
  ((s.joinLog closed).place .notice (.noticeClose closed)).setSpill .dry

/-- One step on a completion with a head (R141, R142, R144, R145). -/
def State.weirHead (c : WeirSettings) (head flow : Nat) (s : State) : State :=
  let beyond := beyondRating c.rating head
  match s.weir.spill with
  | .dry =>
    if c.onsetHead ≤ head then
      (s.setGap 0).setSpill (.onset (.fresh s.report.house head flow beyond))
    else s.setGap 0
  | .onset r =>
    if head < c.onsetHead then (s.setGap 0).setSpill .dry
    else
      let r' := r.gather head flow beyond
      if r'.count < c.onsetPersistence then (s.setGap 0).setSpill (.onset r')
      else (s.setGap 0).openSpill r' c.onsetPersistence
  | .opened r =>
    let r' := r.gather head flow beyond
    ((s.setGap 0).setSpill (if head < c.closeHead then .closing r' 1 else .opened r')).countSpill 1 flow
  | .closing r n =>
    let r' := r.gather head flow beyond
    let t := (s.setGap 0).countSpill 1 flow
    if c.closeHead ≤ head then t.setSpill (.opened r')
    else if n + 1 < c.closePersistence then t.setSpill (.closing r' (n + 1))
    else t.closeSpill r'

/-- The gap count after one more completion with no head reaches 30 min (R146, R147). -/
def Weir.gapReached (w : Weir) : Bool := decide (1800 ≤ w.gapCount + 1)

/-- One step on a completion with no head (R146, R147). -/
def State.weirGap (s : State) : State :=
  match s.weir.spill with
  | .dry => s
  | .onset r =>
    if s.weir.gapReached then (s.setGap 0).setSpill .dry
    else (s.setGap (s.weir.gapCount + 1)).setSpill (.onset { r with probeGap := true })
  | .opened r =>
    let r' := { r.second with probeGap := true }
    let t := s.countSpill 1 0
    if s.weir.gapReached then (t.setGap 0).closeSpill { r' with closedByFault := true }
    else (t.setGap (s.weir.gapCount + 1)).setSpill (.opened r')
  | .closing r n =>
    let r' := { r.second with probeGap := true }
    let t := s.countSpill 1 0
    if s.weir.gapReached then (t.setGap 0).closeSpill { r' with closedByFault := true }
    else (t.setGap (s.weir.gapCount + 1)).setSpill (.closing r' n)

/-- The Weir Unit's step at a probe-cycle completion after start-up, with the weir function on (R140). -/
def State.weirStep (s : State) : State :=
  if s.ended ∧ s.weir.on then
    match s.settings.weir with
    | none => s
    | some c =>
      match headOver c.crest s.probes.weir.level with
      | none => (s.onWeir fun w => { w with head := none, flow := none }).weirGap
      | some h =>
        let q := ratedFlow c.rating h
        (s.onWeir fun w => { w with head := some h, flow := some q }).weirHead c h q
  else s

/-- A TIME request that moves house time by more than 2 s marks the record in progress (R149). -/
def Spill.markTimeSet : Spill → Spill
  | .dry => .dry
  | .onset r => .onset { r with timeSet := true }
  | .opened r => .opened { r with timeSet := true }
  | .closing r n => .closing { r with timeSet := true } n

end Sys2Proof.Machine
end

