-- ==== Sys2Proof/Machine/PumpSequencer.lean ====
section
/-! DEFINITION. The Pump Sequencer's shared operations: what goes with every change of the pump state (R71, R72), the
start wish and the claim behind it (R61, R76 to R82), starts (R83 to R86), running and stopping (R87 to R92),
failures (R93) and the hand phase (R110, R112). -/

namespace Sys2Proof.Machine

/-! ### Times that go with the pump state -/

/-- Feedback without command is timed in these states (R92), and in HAND while halted (R112). -/
inductive Watch
  | off | auto | halted
  deriving DecidableEq, Repr

/-- How the pump watches for feedback without command (R92, R112). -/
def Pump.watch (p : Pump) : Watch :=
  match p.state with
  | .ready => .auto
  | .out => .auto
  | .claiming => .auto
  | .cooling => .auto
  | .hand => if p.handPhase = some .halted then .halted else .off
  | _ => .off

/-- The motor is being driven and has proved: RUNNING, or HAND in PROVED (R87, R88, R112). -/
def Pump.proved (p : Pump) : Bool :=
  decide (p.state = .running) || (decide (p.state = .hand) && decide (p.handPhase = some .proved))

/-- A proving window is open: PROVING, or HAND in WINDOW (R86, R112). -/
def Pump.proving (p : Pump) : Bool :=
  decide (p.state = .proving) || (decide (p.state = .hand) && decide (p.handPhase = some .window))

/-- Keep a value only where it belongs. -/
def keepIf {α : Type} (b : Bool) (x : Option α) : Option α := if b then x else none

/-- What a pump state holds that the state before it leaves behind: each time and item only in the states it belongs
to, the min-off time restarted when the contactor opens (R96), and the timing of feedback without command begun
afresh when the watch begins (R92), and otherwise left to the change, a move to Off among them (log entry 42). -/
def Pump.tidied (now : Nat) (minOff : Option Nat) (old new : Pump) : Pump :=
  let hand := decide (new.state = .hand)
  let running := decide (new.state = .running)
  let phase := keepIf (decide (new.state = .claiming)) new.claimPhase
  { new with
    minOff := if old.closed && !new.closed then minOff else new.minOff
    claimPhase := phase
    claimTime := keepIf (decide (phase = some .waiting)) new.claimTime
    fallbackTime := keepIf (decide (phase = some .fallback)) new.fallbackTime
    window := keepIf new.proving new.window
    releaseTime := keepIf (decide (new.state = .stopping)) new.releaseTime
    lockCause := keepIf (decide (new.state = .locked)) new.lockCause
    lockPending := new.lockPending && !decide (new.state = .locked)
    handPhase := keepIf hand new.handPhase
    handClaim := keepIf hand new.handClaim
    handStart := keepIf hand new.handStart
    minRun := keepIf running new.minRun
    stopDelay := keepIf running new.stopDelay
    provingRun := keepIf new.proved new.provingRun
    lossTimer := keepIf new.proved new.lossTimer
    strayTimer :=
      if new.watch = .off then none
      else if new.watch = old.watch then new.strayTimer
      else if new.feedback then some (now + 2000) else none
    openedAt := keepIf (decide (new.watch = .auto)) new.openedAt }

/-! ### Availability (R61) -/

/-- The station is available (R61). -/
def State.isAvailable (s : State) : Bool := decide (s.pump.state = .ready) && s.startConditions

/-- The available flag takes its value and the own entry follows (R45, R61). -/
def State.formAvailable (s : State) : State :=
  (s.onStaging fun g => { g with available := s.isAvailable }).publish

/-! ### Changing the pump state -/

/-- Whether a hand claim is placed. -/
def Pump.claimPlaced (p : Pump) : Bool := decide (p.handClaim = some .placed)

/-- HAND with the contactor closed or about to be: a hand claim may stand (R110). -/
def Pump.mayClaim (p : Pump) : Bool := decide (p.state = .hand) && !decide (p.handPhase = some .halted)

/-- The hand claim when the hand phase becomes HALTED or the state leaves HAND: a placed claim is withdrawn, a due
one becomes none (R110). -/
def State.endHandClaim (s : State) : State :=
  if s.pump.mayClaim then s
  else
    let t := if s.pump.claimPlaced then s.withdrawClaim else s
    t.onPump fun p => { p with
      handClaim := match p.handClaim with
        | some .placed => if t.line.claimWithdrawal then some .placed else some .noClaim
        | some .due => some .noClaim
        | c => c }

/-- The Pump Sequencer's own part of a change: the change itself, the hand claim (R110) and the times and items of R71
kept or stopped. -/
def State.changePump (f : Pump → Pump) (s : State) : State :=
  (s.onPump f).endHandClaim.onPump (Pump.tidied s.now (s.after s.general.minOff) s.pump)

/-- The start wish is held in READY and CLAIMING only (R62). -/
def State.limitWish (s : State) : State :=
  s.onStaging fun g => if s.pump.mayWish then g else { g with startWish := .notHeld }

/-- An entry into RUNNING is a rake trigger when the rake-with-pump setting is yes (R118). -/
def State.pumpSource (old : PumpState) (s : State) : State :=
  if s.pump.state = .running ∧ old ≠ .running ∧ (s.settings.screen.map (·.rakeWithPump)) = some true then s.trigger
  else s

/-- The pump changes, with what goes with the change: the times of R71, the contactor with the state (R72), the hand
claim (R110), the start wish (R62), availability (R61), the own entry and its STATUS (R45, R46), the A5 condition (R95)
and the pump source of rake triggers (R118). -/
def State.movePump (f : Pump → Pump) (s : State) : State :=
  ((s.changePump f).limitWish.formAvailable.handOver [] .a5).pumpSource s.pump.state

/-- The pump becomes LOCKED with a cause; a cause found while LOCKED does not replace the first (R95). -/
def State.lock (cause : LockCause) (s : State) : State :=
  if s.pump.state = .locked then s
  else s.movePump fun p => { p with state := .locked, lockCause := some cause }

/-! ### Claims (R75 to R81) -/

/-- The guard timer is set to run for the start stagger (R75). -/
def State.setGuard (s : State) : State :=
  s.onPump fun p => { p with guard := s.after s.general.stagger }

/-- The claim phase is WAITING or FALLBACK (R76). -/
def Pump.mayLoseClaim (p : Pump) : Bool :=
  decide (p.claimPhase = some .waiting) || decide (p.claimPhase = some .fallback)

/-- The claim is resolved without a start: a lockout that waited for it is taken (R92), and CLAIMING returns to READY
(R77, R79). -/
def State.claimResolved (s : State) : State :=
  if s.pump.lockPending then s.lock .withoutCommand
  else if s.pump.state = .claiming then s.movePump fun p => { p with state := .ready }
  else s

/-- The claim is withdrawn in WAITING or FALLBACK: answered withdrawn, the slot empties and the claim is resolved;
answered too late, the claim phase becomes WITHDRAWING (R79). -/
def State.loseClaim (s : State) : State :=
  match s.withdrawalAnswer .claim with
  | .withdrawn => s.withdrawClaim.claimResolved
  | .tooLate => s.withdrawClaim.movePump fun p => { p with claimPhase := some .withdrawing }

/-- The start wish is cleared, and with it a claim in WAITING or FALLBACK (R62, R79, R81). -/
def State.dropWish (s : State) : State :=
  let t := s.onStaging fun g => { g with startWish := .notHeld }
  if t.pump.mayLoseClaim then t.loseClaim else t

/-- Availability is formed again, and a start wish that is held is cleared at once when a start condition fails
(R61, R62). -/
def State.reformAvailability (s : State) : State :=
  let t := s.formAvailable
  if t.staging.startWish ≠ .notHeld ∧ ¬ t.startConditions then t.dropWish else t

/-- A CLAIM with the station's D_auto and credit as they stand (R76, R110). -/
def State.placeClaim (s : State) : State := s.place .claim (.claim s.staging.dAuto s.pump.credit)

/-- A READY station claims its start (R76). -/
def State.beginClaim (s : State) : State :=
  s.placeClaim.movePump fun p => { p with
    state := .claiming, claimPhase := some .waiting, claimTime := some (s.now + 2000) }

/-! ### The start list (R84, R85) -/

/-- The entries of the start list less than 3,600 s old (R84). -/
def Pump.aged (runClock : Nat) (p : Pump) : Pump :=
  { p with starts := p.starts.filter fun t => decide (runClock - t < 3600) }

/-- The start list is aged; losing an entry clears the limit-held indication at once (R64, R84). -/
def State.ageStarts (s : State) : State :=
  let t := s.onPump (Pump.aged s.startUp.runClock)
  if t.pump.starts = s.pump.starts then s
  else ((t.onStaging fun g => { g with limitHeld := false }).formAvailable).handOver [] .a6

/-- The start time is added as the newest entry, the oldest leaving a full list (R83, R84). -/
def State.addStart (s : State) : State :=
  s.onPump fun p => { p with
    starts := (if s.startLimited then p.starts.tail else p.starts) ++ [s.startUp.runClock] }

/-! ### Starts (R83, R86, R110) -/

/-- The proving window that opens now (R86). -/
def State.newWindow (s : State) : ProvingWindow := ⟨s.now, s.now + s.general.proofTime * 1000⟩

/-- Early proof: LOCKED, and a failed start counted (R86, R112). -/
def State.earlyProof (s : State) : State := (s.count .failedStarts 1).lock .earlyProof

/-- Feedback already present when the contactor closes is early proof (R86). -/
def State.checkEarlyProof (s : State) : State :=
  if s.pump.proving && s.pump.feedback then s.earlyProof else s

/-- A start in Auto, claimed or unclaimed (R83). -/
def State.makeStart (s : State) : State :=
  ((s.ageStarts.addStart.count .starts 1).movePump fun p => { p with
    state := .proving, window := some s.newWindow, minRun := none, stopDelay := none }).checkEarlyProof

/-- The A6 event of a Hand start on a full start list; none is handed while the indication makes A6 abnormal
(R85, R156). -/
def State.fullListEvent (full : Bool) (earlier : List Snapshot) (s : State) : State :=
  if full && !s.staging.limitHeld then s.alarmEvent earlier .a6 else s

/-- A move into Hand that makes a Hand start, or halts with the supply lost (R110, R111). -/
def State.handStart (s : State) : State :=
  if s.supply.healthy then
    let t := s.ageStarts
    (((t.addStart.count .starts 1).movePump fun p => { p with
      state := .hand, handPhase := some .window, handClaim := some .due, handStart := some s.now,
      window := some s.newWindow }).fullListEvent t.startLimited [t.snapshot]).checkEarlyProof
  else s.movePump fun p => { p with state := .hand, handPhase := some .halted, handClaim := some .noClaim }

/-- A start wish is acted on from READY with the guard expired: a claimed wish claims unless the station is isolated
(R76), an unclaimed one starts an isolated pump (R82). -/
def State.actOnStart (s : State) : State :=
  if s.pump.state = .ready ∧ s.pump.guard = none then
    match s.staging.startWish with
    | .notHeld => s
    | .claimed => if s.isolated then s else s.beginClaim
    | .unclaimed => if s.isolated then s.makeStart else s
  else s

/-! ### Stopping (R89 to R91) -/

/-- A stop ends in READY, and the min-off time starts (R91). -/
def State.released (s : State) : State :=
  s.movePump fun p => { p with state := .ready, minOff := s.after s.general.minOff }

/-- The pump goes to STOPPING; with the feedback absent it is READY at once (R91). -/
def State.goStopping (s : State) : State :=
  let t := s.movePump fun p => { p with state := .stopping, releaseTime := some (s.now + 2000) }
  if t.pump.feedback then t else t.released

/-- The stop wish is acted on through the stop delay (R89). -/
def State.actOnStop (s : State) : State :=
  if s.pump.state ≠ .running then s
  else if ¬ s.staging.stopWish then s.onPump fun p => { p with stopDelay := none }
  else if s.pump.minRun.isSome ∨ s.pump.stopDelay.isSome then s
  else match s.after s.general.stopDelay with
    | none => s.goStopping
    | some t => s.onPump fun p => { p with stopDelay := some t }

/-- The cut-outs act in RUNNING and PROVING (R90). -/
def Pump.cutOutActs (p : Pump) : Bool := decide (p.state = .running) || decide (p.state = .proving)

/-- The STOP float's cut-out, at a change of what it presents or an entry into RUNNING (R90). -/
def State.stopFloatCutOut (s : State) : State :=
  if s.pump.cutOutActs ∧ s.floats.stop.presented = .opened then s.goStopping else s

/-- The bay cut-out applies (R90). -/
def State.bayCutOutDue (s : State) : Bool := s.pump.cutOutActs && s.atCutOut s.bayLevel

/-- The bay cut-out, at a probe-cycle completion (R90). -/
def State.bayCutOut (s : State) : State := if s.bayCutOutDue then s.goStopping else s

/-- An entry into RUNNING (R88, R89, R90). -/
def State.enterRunning (s : State) : State :=
  ((s.movePump fun p => { p with
    state := .running
    minRun := s.after s.general.minRun
    stopDelay := none
    provingRun := some (s.now + 60000) }).stopFloatCutOut).actOnStop

/-! ### Failures (R93, R112) -/

/-- A failure: the consecutive-failure count goes up, the contactor opens, and the state follows the count; in HAND
the pump stays there halted unless it is locked (R93, R112). -/
def State.failedTo (s : State) : State :=
  let t := s.onPump fun p => { p with failures := min 6 (p.failures + 1) }
  if t.pump.failures = 6 then t.lock .repeatedFailures
  else t.movePump fun p => { p with
    state := if p.state = .hand then .hand else if p.failures = 3 then .cooling else .ready
    handPhase := some .halted
    cooling := if p.failures = 3 then some (s.now + 1800000) else p.cooling }

/-- A failure with the event of its alarm kind (R86, R87, R112). The event's snapshot may be taken before or after
the pump state changes (log entry 28). -/
def State.failure (k : AlarmKind) (s : State) : State := s.failedTo.alarmEvent [s.snapshot] k

/-- Not proved: the proof time has ended with feedback absent (R86, R112). -/
def State.notProved (s : State) : State := (s.count .failedStarts 1).failure .a3

/-- Proved: feedback has arrived within the window (R86, R112). -/
def State.proven (s : State) : State :=
  if s.pump.state = .hand then
    s.movePump fun p => { p with
      handPhase := some .proved, provingRun := some (s.now + 60000), cooling := none }
  else s.enterRunning

/-- Feedback becomes present in an open window: early proof up to 40 ms after the closing, proved up to the proof
time (R86). -/
def State.feedbackInWindow (w : ProvingWindow) (s : State) : State :=
  if s.now ≤ w.closedAt + 40 then s.earlyProof else s.proven

end Sys2Proof.Machine
end

