-- ==== Sys2Proof/Machine/StagingUnit.lean ====
section
/-! DEFINITION. The Staging Unit: the evaluation in its order (R49 to R69), the wishes between evaluations (R66, R67),
the isolated start delay (R65), and a change of isolation (R40, R66, R81). -/

namespace Sys2Proof.Machine

/-! ### House level and level source (R50, R51) -/

/-- A list in ascending order. -/
def ascending (l : List Nat) : List Nat := l.insertionSort (· ≤ ·)

/-- The median, the higher of the two middle values for an even count (R50). -/
def median (l : List Nat) : Option Nat := (ascending l)[l.length / 2]?

/-- The addresses whose entries are FRESH, the own entry included. -/
def State.freshAddresses (s : State) : List BayAddress :=
  twelvePlaces.filter fun a => decide ((s.peers.get a).presence = .fresh)

/-- The house level (R50). -/
def State.houseLevelNow (s : State) : Option Nat :=
  median (s.freshAddresses.filterMap fun a => (s.peers.get a).level)

/-- The level source (R51). -/
def State.levelSourceNow (s : State) : Option Nat :=
  if s.startUp.address = none then none
  else if s.isolated then s.bayLevel
  else s.staging.houseLevel

/-- Float mode is in force (R51). -/
def State.floatModeNow (s : State) : Bool :=
  s.startUp.address.isNone || s.settings.stages.isNone || s.settings.levels.isNone || s.staging.levelSource.isNone

/-! ### Stages (R52, R53) -/

/-- A configured level less the drawdown offset, held at the floor (R52). -/
def applied (floor offset level : Nat) : Nat := max floor (level - offset)

/-- The floor of the applied levels: the cut-out level plus 300 mm (R52). -/
def State.floor (s : State) : Nat := s.cutOut + 300

/-- A latch formed from the level source and the applied start and stop levels (R53). -/
def latchAfter (level start stop : Nat) (before : Bool) : Bool :=
  if before then decide (stop < level) || decide (start ≤ level) else decide (start ≤ level)

/-- The configured stages (R48). -/
def State.stageLevels (s : State) : List (Nat × Nat) := (s.settings.stages.map (·.levels)).getD []

/-- The stage latches of an evaluation (R53). -/
def State.latchesNow (s : State) : List Bool :=
  match s.staging.levelSource with
  | none => s.staging.latches
  | some l =>
    s.stageLevels.mapIdx fun i g =>
      latchAfter l (applied s.floor s.staging.drawdownOffset g.1) (applied s.floor s.staging.drawdownOffset g.2)
        (s.staging.latches.getD i false)

/-! ### Demand (R57, R58) -/

/-- All-out holds (R57). -/
def State.allOut (s : State) : Bool :=
  s.freshAddresses.any (fun a => (s.peers.get a).spillOpen)
    || s.staging.noticeMarks.toList.any id
    || (s.startUp.address.isNone && s.weir.spill.isOpen)
    || decide (s.floats.high.presented = .closed)

/-- D (R57). -/
def State.dNow (s : State) : Nat := if s.allOut then 12 else s.staging.latches.count true

/-- The FRESH entries whose pump summary is HAND (R58). -/
def State.handCount (s : State) : Nat :=
  (s.freshAddresses.filter fun a => decide ((s.peers.get a).summary = .hand)).length

/-- D_auto (R58). -/
def State.dAutoNow (s : State) : Nat := s.staging.d - s.handCount

/-! ### Rank (R59, R60) -/

/-- The claim mark of a FRESH entry that acts: its entry does not show HAND (R59). -/
def State.marked (s : State) (a : BayAddress) : Bool :=
  (s.staging.claimMarks.get a).isSome && decide ((s.peers.get a).summary ≠ .hand)

/-- An entry is running, by its pump summary or its claim mark (R59, R60). -/
def State.runs (s : State) (a : BayAddress) : Bool :=
  decide ((s.peers.get a).summary = .starting) || decide ((s.peers.get a).summary = .running) || s.marked a

/-- An entry belongs to the eligible set (R59, R60). -/
def State.eligible (s : State) (a : BayAddress) : Bool :=
  decide ((s.peers.get a).presence = .fresh) && ((s.peers.get a).auto || s.marked a)
    && (s.runs a || (s.peers.get a).available)

/-- The credit an entry is ordered by (R59). -/
def State.rankCredit (s : State) (a : BayAddress) : Nat := (s.staging.claimMarks.get a).getD (s.peers.get a).credit

/-- The group an eligible entry stands in (R60). -/
def State.group (s : State) (a : BayAddress) : Nat :=
  if s.runs a then (if (s.peers.get a).restricted then 2 else 1) else 3

/-- The order of the eligible set: group, then credit, then address (R60). -/
def before (x y : Nat × Nat × Nat) : Bool :=
  decide (x.1 < y.1) || (decide (x.1 = y.1) &&
    (decide (x.2.1 < y.2.1) || (decide (x.2.1 = y.2.1) && decide (x.2.2 < y.2.2))))

/-- An entry's place in the order (R60). -/
def State.rankKey (s : State) (a : BayAddress) : Nat × Nat × Nat := (s.group a, s.rankCredit a, a.val)

/-- The eligible entries of other addresses that stand before a place in the order. -/
def State.countBefore (s : State) (own : BayAddress) (key : Nat × Nat × Nat) : Nat :=
  (twelvePlaces.filter fun a => decide (a ≠ own) && s.eligible a && before (s.rankKey a) key).length

/-- The rank (R60). -/
def State.rankNow (s : State) : Option Nat :=
  match s.startUp.address with
  | none => none
  | some own => if s.eligible own then some (s.countBefore own (s.rankKey own)) else none

/-- The rank the station would take if it were available (R64). -/
def State.rankIfAvailable (s : State) : Option Nat :=
  s.startUp.address.map fun own => s.countBefore own (3, (s.peers.get own).credit, own.val)

/-! ### The isolated start delay (R65) -/

/-- A D that an isolated station starts for: at or above its address (R65). -/
def State.demandReaches (s : State) : Bool :=
  match s.startUp.address with
  | none => true
  | some own => decide (own.number ≤ s.staging.d)

/-- The start condition of the delay (R65). -/
def State.delayCondition (s : State) : Bool :=
  if s.staging.floatMode then decide (s.floats.start.presented = .closed) else s.demandReaches

/-- The length of the delay in milliseconds: the address × 2 s, 0 without an address (R65, R70). -/
def State.delayLength (s : State) : Nat := ((s.startUp.address.map BayAddress.number).getD 0) * 2000

/-- The delay after an event that looks at its start condition (R65). -/
def State.delayNow (s : State) : StartDelay :=
  if ¬ s.isolated then .idle
  else if ¬ s.delayCondition then .idle
  else match s.staging.startDelay with
    | .idle => if s.delayLength = 0 then .done else .running (s.now + s.delayLength)
    | d => d

/-! ### Wishes (R62 to R67) -/

/-- A rank within a demand count. -/
def within (rank : Option Nat) (d : Nat) : Bool :=
  match rank with
  | none => false
  | some r => decide (r < d)

/-- The demand that the limit-held indication and the start wish ask for, as the rule in force has it: the rank within
D_auto (R62), the isolated start delay DONE (R66), or the START float closed (R67). -/
def State.wanted (s : State) (rank : Option Nat) : Bool :=
  if s.isolated then decide (s.staging.startDelay = .done)
  else if s.staging.floatMode then decide (s.floats.start.presented = .closed)
  else within rank s.staging.dAuto

/-- The start wish that the rule in force gives (R62, R66, R67). -/
def State.startWishNow (s : State) : StartWish :=
  if s.pump.mayWish && s.startConditions && s.wanted s.staging.rank then
    (if s.isolated then .unclaimed else .claimed)
  else .notHeld

/-- The stop wish that the rule in force gives (R63, R66, R67). -/
def State.stopWishNow (s : State) : Bool :=
  decide (s.pump.state = .running) &&
    (if s.staging.floatMode then decide (s.floats.stop.presented ≠ .closed)
     else if s.isolated then !s.demandReaches
     else match s.staging.rank with
       | none => false
       | some r => decide (s.staging.dAuto ≤ r))

/-- The limit-held indication (R64). -/
def State.limitHeldNow (s : State) : Bool :=
  decide (s.pump.state = .ready) && s.startLimited && s.otherStartConditions && s.wanted s.rankIfAvailable

/-- The start wish takes a value; a claim whose wish is lost is withdrawn (R62, R79). -/
def State.setStartWish (w : StartWish) (s : State) : State :=
  if w = .notHeld then s.dropWish else s.onStaging fun g => { g with startWish := w }

/-! ### The evaluation (R49) -/

/-- The A1 condition is formed (R69). -/
def State.formA1 (s : State) : State := (s.onStaging fun g => { g with a1 := s.wellHigh }).handOver [] .a1

/-- The peak house level of the interval in progress follows an evaluation (R170). -/
def State.peakLevel (s : State) : State :=
  match s.staging.houseLevel with
  | none => s
  | some l =>
    s.onReport fun r =>
      if r.interval.isSome then { r with counts := { r.counts with peak := some (max l (r.counts.peak.getD 0)) } } else r

/-- The house level takes its value (R50). -/
def State.formHouseLevel (s : State) : State := s.onStaging fun g => { g with houseLevel := s.houseLevelNow }

/-- The level source takes its value (R51). -/
def State.formLevelSource (s : State) : State := s.onStaging fun g => { g with levelSource := s.levelSourceNow }

/-- Float mode takes its value (R51). -/
def State.formFloatMode (s : State) : State := s.onStaging fun g => { g with floatMode := s.floatModeNow }

/-- The stage latches take their values (R53). -/
def State.formLatches (s : State) : State := s.onStaging fun g => { g with latches := s.latchesNow }

/-- D takes its value (R57). -/
def State.formD (s : State) : State := s.onStaging fun g => { g with d := s.dNow }

/-- D_auto takes its value (R58). -/
def State.formDAuto (s : State) : State := s.onStaging fun g => { g with dAuto := s.dAutoNow }

/-- The rank takes its value (R60). -/
def State.formRank (s : State) : State := s.onStaging fun g => { g with rank := s.rankNow }

/-- The start delay takes its value (R65). -/
def State.formDelay (s : State) : State := s.onStaging fun g => { g with startDelay := s.delayNow }

/-- The limit-held indication takes its value (R64). -/
def State.formLimitHeld (s : State) : State := s.onStaging fun g => { g with limitHeld := s.limitHeldNow }

/-- The stop wish takes its value (R63, R66, R67). -/
def State.formStopWish (s : State) : State := s.onStaging fun g => { g with stopWish := s.stopWishNow }

/-- The picture an evaluation forms, from the house level to the rank (R50 to R60). -/
def State.formPicture (s : State) : State :=
  s.formHouseLevel.formLevelSource.formFloatMode.formAvailable.formLatches.formD.formDAuto.formRank

/-- What an evaluation hands on at its end: the start delay, the limit-held indication, the stop wish, A1, the peak
level and A6, with the start wish that it has formed (R62 to R69, R85, R170). -/
def State.formWishes (s : State) : State × StartWish :=
  (s.formDelay.formLimitHeld.formStopWish.formA1.peakLevel.handOver [] .a6, s.formDelay.startWishNow)

/-- The Pump Sequencer is told of the wishes and does what it owes to them: the start wish takes its value, then a stop,
then a start (R62, R76, R79, R82, R89). -/
def State.act (w : State × StartWish) : State := ((w.1.setStartWish w.2).actOnStop).actOnStart

/-- An evaluation, with what the Pump Sequencer does when it is told of the wishes (R49). None is made before the end
of start-up. -/
def State.evaluate (s : State) : State :=
  if s.ended then State.act s.ageStarts.formPicture.formWishes else s

/-! ### Floats between evaluations (R61, R65 to R67) -/

/-- The delay looks at the START float when that has changed on an isolated station (R65). -/
def State.floatDelay (startChanged : Bool) (s : State) : State :=
  if s.isolated && startChanged then s.formDelay else s

/-- The stop wish between evaluations (R66, R67). -/
def State.floatStopWish (stopChanged : Bool) (s : State) : State :=
  if stopChanged ∨ ¬ s.isolated then s.formStopWish else s

/-- The start wish between evaluations: on an isolated station only a change of the START float raises one
(R66, R67). -/
def State.floatStartWish (startChanged : Bool) (s : State) : StartWish :=
  if s.staging.startWish ≠ .notHeld ∨ ¬ s.isolated ∨ startChanged then s.startWishNow else .notHeld

/-- The START or STOP float's presented value has changed while float mode is in force: the delay, then the wishes,
then what the Pump Sequencer does with them (R65, R66, R67). A delay that reaches DONE makes an evaluation. -/
def State.floatWishes (startChanged stopChanged : Bool) (s : State) : State :=
  if (s.floatDelay startChanged).staging.startDelay = .done ∧ s.staging.startDelay ≠ .done then
    (s.floatDelay startChanged).evaluate
  else
    State.act ((s.floatDelay startChanged).floatStopWish stopChanged,
      (s.floatDelay startChanged).floatStartWish startChanged)

/-! ### Isolation (R40, R66, R81) -/

/-- What a change of isolation does before the evaluation that it makes: the own entry's flag is set, or the delay
returns to idle, and the start wish ends (R40, R65, R66, R81). -/
def State.isolationTaken (s : State) : State :=
  (if s.isolated then s.setIsolatedFlag true else s.onStaging fun g => { g with startDelay := .idle }).dropWish

/-- The station has become isolated, or has ceased to be, since it was `was`: the own entry's flag, the wishes, an
evaluation and the A10 condition (R40, R45, R65, R66, R81). The isolation before the end of start-up is not told. A10's
snapshot may be taken before the claim is lost, before the evaluation or after it, or at a moment that `earlier` lists
(R158; log entry 28). -/
def State.isolationChange (earlier : List Snapshot) (was : Bool) (s : State) : State :=
  if ¬ s.ended ∨ s.isolated = was then s
  else s.isolationTaken.evaluate.handOver (earlier ++ [s.snapshot, s.isolationTaken.snapshot]) .a10

end Sys2Proof.Machine
end

