-- ==== Sys2Proof/Machine/Probes.lean ====
section
/-! DEFINITION. The Probe Interface: exchanges, cycles and their completion (R5 to R14), the beginning of the LISTEN
step that the last IDENTIFY exchange brings (R187), and the probe link's commands. -/

namespace Sys2Proof.Machine

/-- The result of a command that has an effect in every state. -/
abbrev Result := Host.Outcome State Fault Refusal

/-! ### Grading (R10 to R13) -/

/-- A probe is polled: fitted, and its identity not FAILED (R2). -/
def ProbeRecord.polled (r : ProbeRecord) : Bool := r.fitted && decide (r.identity ≠ .failed)

/-- The quality after a miss that brings the count to `misses` (R10). -/
def Quality.afterMiss (misses : Nat) : Quality → Quality
  | .unset => if misses < 4 then .unset else .fault
  | .good => if misses < 4 then .held else .fault
  | .held => if misses < 4 then .held else .fault
  | .fault => .fault

/-- A record's level from its quality (R11). -/
def ProbeRecord.withLevel (r : ProbeRecord) : ProbeRecord :=
  { r with level := match r.quality with
      | .good => r.lastGood
      | .held => r.lastGood
      | .unset => none
      | .fault => none }

/-- A record graded from its outcome in a cycle (R10, R12). -/
def ProbeRecord.graded (r : ProbeRecord) : ProbeOutcome → ProbeRecord
  | .sample level mark => { r with quality := .good, misses := 0, lastGood := some level, atLimit := mark }
  | .miss => { r with quality := r.quality.afterMiss (min 4 (r.misses + 1)), misses := min 4 (r.misses + 1) }

/-- The outcome gathered for a probe. -/
def ProbeUnit.outcome (u : ProbeUnit) (p : ProbeId) : ProbeOutcome :=
  ((u.outcomes.find? fun o => decide (o.1 = p)).map Prod.snd).getD .miss

/-- A record at a completion: graded when the probe is polled, and its level set (R10, R11). -/
def ProbeUnit.gradedRecord (u : ProbeUnit) (p : ProbeId) : ProbeRecord :=
  let r := u.record p
  (if r.polled then r.graded (u.outcome p) else r).withLevel

/-- The screen differential of a channel level and a bay level (R13). -/
def differential (channel bay : Option Nat) : Option Nat :=
  match channel, bay with
  | some c, some b => some (c - b)
  | _, _ => none

/-- The records at a completion, with ΔH formed afresh (R10 to R13). -/
def ProbeUnit.complete (u : ProbeUnit) : ProbeUnit :=
  let bay := u.gradedRecord .bay
  let channel := u.gradedRecord .channel
  { u with
    bay := bay
    channel := channel
    weir := u.gradedRecord .weir
    deltaH := differential channel.level bay.level
    exchange := none
    queue := []
    outcomes := [] }

/-! ### Completion (R10, R45, R46, R49) -/

/-- The evaluation that a completion causes and the bay cut-out that it looks for, whose order is open: so it is open too
whether the cut-out finds a pump that this very evaluation has started (log entry 9). -/
def State.evaluateWithCutOut (s : State) : State := eitherOrder State.bayCutOut State.evaluate s

/-- What a completion after the end of start-up does when the levels are set: the Weir Unit's step and the evaluation,
whose order is open (R140; log entry 9). -/
def State.decideAtCompletion (s : State) : State :=
  if s.weir.on then eitherOrder State.weirStep State.evaluateWithCutOut s else s.evaluateWithCutOut

/-- The states between the evaluation and the bay cut-out. -/
def State.betweenCutOut (s : State) : List State :=
  eitherPasses State.bayCutOut State.evaluate (fun _ => []) (fun _ => []) s

/-- The states between the Weir Unit's step, the evaluation and the bay cut-out of a completion; before the end of start-up
none of them is taken. -/
def State.betweenDecisions (s : State) : List State :=
  if ¬ s.ended then []
  else if s.weir.on then eitherPasses State.weirStep State.evaluateWithCutOut (fun _ => []) State.betweenCutOut s
  else s.betweenCutOut

/-- A completion up to the decisions it leads to: the records, the own entry, the STATUS and the screen (R10 to R13,
R45, R46, R118, R130). -/
def State.completionTaken (s : State) : State :=
  (s.onProbes ProbeUnit.complete).rewriteOwn.placeStatus.screenCompletion

/-- The decisions of a completion; none are made before the end of start-up. -/
def State.decideIfEnded (s : State) : State := if s.ended then s.decideAtCompletion else s

/-- The snapshots that A9 may take at a completion, but for the one at its end: before the completion, with its records and
before its decisions, and between two of these (R158; log entry 28). -/
def State.completionSnapshots (s : State) : List Snapshot :=
  (s :: s.completionTaken :: s.completionTaken.betweenDecisions).map State.snapshot

/-- A probe cycle completes (R10 to R13, R19, R45, R46, R49, R90, R118, R130, R137). -/
def State.completion (s : State) : State :=
  s.completionTaken.decideIfEnded.handOver s.completionSnapshots .a9

/-! ### Exchanges (R5 to R7) -/

/-- The three probes in order. -/
def ProbeId.inOrder : List ProbeId := [.bay, .channel, .weir]

/-- The first attempt with the next probe of a queue is due at a moment. -/
def nextExchange (identify : Bool) (start : Nat) (u : ProbeUnit) : ProbeUnit :=
  match u.queue with
  | [] => { u with exchange := none }
  | p :: rest => { u with exchange := some ⟨p, identify, 0, .due start⟩, queue := rest }

/-- A probe cycle begins, its first exchange at a moment; with no probe polled it completes at once (R5). -/
def State.beginCycle (first : Nat) (s : State) : State :=
  let t := s.onProbes fun u =>
    nextExchange false first { u with
      queue := ProbeId.inOrder.filter fun p => (u.record p).polled
      outcomes := []
      nextCycle := some (s.now + 1000) }
  if t.probes.exchange = none then t.completion else t

/-- The LISTEN step begins: the line is read and taken as not idle, and the first probe cycle begins, its first exchange at
a moment (R5, R187). -/
def State.beginListen (first : Nat) (s : State) : State :=
  ((s.onStartUp fun c => { c with step := .listen, stepBegan := s.now }).onLine
    fun u => { u with idle := false }).beginCycle first

/-- An exchange has ended: the next one begins 5 ms later (R6), in its round or, when the IDENTIFY step ends with it (R14),
in the first probe cycle, which begins at once (R5); or the cycle completes (R5). -/
def State.exchangeEnded (identify : Bool) (s : State) : State :=
  if s.probes.queue = [] then
    let t := s.onProbes fun u => { u with exchange := none }
    if identify then (if t.startUp.step = .identify then t.beginListen (s.now + 5) else t) else t.completion
  else s.onProbes (nextExchange identify (s.now + 5))

/-- A probe fails its IDENTIFY exchange (R14). -/
def ProbeRecord.failIdentity (r : ProbeRecord) : ProbeRecord := { r with identity := .failed, quality := .fault }

/-- An exchange ends with nothing good: a miss, or a FAILED identity (R7, R14). -/
def State.exchangeMissed (x : Exchange) (s : State) : State :=
  if x.identify then (s.onProbes fun u => u.onRecord x.probe ProbeRecord.failIdentity).exchangeEnded true
  else (s.onProbes fun u => { u with outcomes := u.outcomes ++ [(x.probe, .miss)] }).exchangeEnded false

/-- An attempt fails with a parity error or a malformed reply: a repeat, if fewer than 2 have been made (R7). -/
def State.attemptFailed (x : Exchange) (s : State) : State :=
  if x.repeats < 2 then
    s.onProbes fun u => { u with exchange := some { x with repeats := x.repeats + 1, stage := .due (s.now + 5) } }
  else s.exchangeMissed x

/-- A READ reply is judged (R7, R8, R9). -/
def State.readReplied (x : Exchange) (reply : List LinkByte) (s : State) : State :=
  match judgeReply 4 readSample reply with
  | .good (reading, mark) =>
    (s.onProbes fun u => { u with
      outcomes := u.outcomes ++ [(x.probe, .sample (toDatum (u.record x.probe).offset reading) mark)] }).exchangeEnded
        false
  | _ => s.attemptFailed x

/-- An IDENTIFY reply is judged; a wrong kind code is not repeated (R7, R14). -/
def State.identifyReplied (x : Exchange) (reply : List LinkByte) (s : State) : State :=
  match judgeReply 2 readKind reply with
  | .good kind =>
    if kind = x.probe.kindCode then
      (s.onProbes fun u => u.onRecord x.probe fun r => { r with identity := .confirmed }).exchangeEnded true
    else s.exchangeMissed x
  | _ => s.attemptFailed x

/-- The attempt that an exchange of one kind is due to make starts: the request goes out in 2.29 ms and the reply window
stays open for 20 ms more (R3, R6; log entry 5). -/
def State.startAttempt (identify : Bool) (dt : Nat) (s : State) : State :=
  match s.probes.exchange with
  | some ⟨p, i, repeats, .due start⟩ =>
    if i = identify then
      let t := s.reach dt start
      t.onProbes fun u => { u with exchange := some ⟨p, i, repeats, .window (t.now + 23)⟩ }
    else s.elapse dt
  | _ => s.elapse dt

/-! ### Commands -/

/-- PROBE_CYCLE_BEGIN (R5). -/
def execProbeCycleBegin (dt : Nat) (s : State) : Result :=
  .next (match s.probes.nextCycle with
    | none => s.elapse dt
    | some t => if s.probes.exchange = none then ((s.reach dt t).beginCycle (s.reach dt t).now).finish else s.elapse dt)

/-- READ (R6, R8). -/
def execRead (dt : Nat) (s : State) : Result := .next (s.startAttempt false dt)

/-- IDENTIFY (R6, R14). -/
def execIdentify (dt : Nat) (s : State) : Result := .next (s.startAttempt true dt)

/-- NO_REPLY (R7). -/
def execNoReply (dt : Nat) (s : State) : Result :=
  .next (match s.probes.exchange with
    | some ⟨p, i, repeats, .window closes⟩ =>
      ((s.reach dt closes).exchangeMissed ⟨p, i, repeats, .window closes⟩).finish
    | _ => s.elapse dt)

/-- A reply may end at a moment: it began in the 20 ms of the window, and it ends 12 ms after that at the latest (R6; in
whole milliseconds, log entry 5). -/
def replyMayEnd (closes now : Nat) : Bool := decide (closes ≤ now + 20) && decide (now ≤ closes + 12)

/-- PROBE_REPLY_END (R6, R7, R8, R14). A reply holds at least the byte that began it. At a moment when no reply can end
there is none: what has arrived lies outside the window and is discarded (R4). -/
def execProbeReplyEnd (dt : Nat) (reply : List LinkByte) (s : State) : Result :=
  .next (match s.probes.exchange with
    | some ⟨p, i, repeats, .window closes⟩ =>
      if reply = [] ∨ replyMayEnd closes (s.now + dt) = false then s.elapse dt
      else if i then ((s.elapse dt).identifyReplied ⟨p, i, repeats, .window closes⟩ reply).finish
      else ((s.elapse dt).readReplied ⟨p, i, repeats, .window closes⟩ reply).finish
    | _ => s.elapse dt)

/-- PROBE_BYTE_DISCARDED: the byte has no effect (R4). -/
def execProbeByteDiscarded (dt : Nat) (_byte : LinkByte) (s : State) : Result := .next (s.elapse dt)

end Sys2Proof.Machine
end

