-- ==== Sys2Proof/Machine/Floats.lean ====
section
/-! DEFINITION. The Float Monitor (R15 to R19). -/

namespace Sys2Proof.Machine

/-! ### The excitation of the loops (R16) -/

/-- The float whose loop is excited after a float's (R16). -/
def nextTurn : FloatId → FloatId
  | .stop => .start
  | .start => .high
  | .high => .stop

/-- Milliseconds from the beginning of a float's pulse to that of the next pulse: START follows STOP and HIGH follows
START by 100 ms, and the next period begins 500 ms after the last (R16). -/
def pulseGap : FloatId → Nat
  | .stop => 100
  | .start => 100
  | .high => 300

/-- The pulse of the float whose turn it is has ended: the next float's turn, on the plan of the 500 ms period (R16). -/
def FloatUnit.pulseEnded (u : FloatUnit) : FloatUnit :=
  { u with turn := nextTurn u.turn, pulseAt := u.pulseAt + pulseGap u.turn }

/-- The moment the pulse of the float whose turn it is ends: 20 ms after it began (R16). -/
def FloatUnit.pulseEnd (u : FloatUnit) : Nat := u.pulseAt + 20

/-! ### Readings (R17, R18) -/

/-- A float record after a reading: its debounced state and its last reading (R17). -/
def FloatRecord.take (reading : FloatReading) (r : FloatRecord) : FloatRecord :=
  { r with
    state := if r.lastReading = some reading then reading else r.state
    lastReading := some reading }

/-- What a float presents, from its state and the contradiction flag (R18). -/
def presentedOf (contradiction : Bool) (state : FloatReading) : Presented :=
  if contradiction then .ignored
  else match state with
    | .opened => .opened
    | .closed => .closed
    | .wireFault => .ignored

/-- A float record with its presented value formed again. -/
def FloatRecord.present (contradiction : Bool) (r : FloatRecord) : FloatRecord :=
  { r with presented := presentedOf contradiction r.state }

/-- The contradiction flag and the presented values, formed from the states (R18). -/
def FloatUnit.formed (u : FloatUnit) : FloatUnit :=
  let c := decide (u.high.state = .closed) && decide (u.stop.state = .opened)
  { u with stop := u.stop.present c, start := u.start.present c, high := u.high.present c, contradiction := c }

/-- The Float Monitor after a reading of one float; the presented values are formed again when a state changes
(R17, R18). -/
def FloatUnit.excite (float : FloatId) (reading : FloatReading) (u : FloatUnit) : FloatUnit :=
  let v := u.onRecord float (FloatRecord.take reading)
  if (v.record float).state = (u.record float).state then v else v.formed

/-! ### What follows a reading -/

/-- A change of the STOP float's presented value: availability (R61) and the cut-out (R90). -/
def State.stopFloatChanged (s : State) : State := s.reformAvailability.stopFloatCutOut

/-- In float mode a change of the STOP or START float's presented value acts on the wishes (R66, R67). -/
def State.floatsWish (startChanged stopChanged : Bool) (s : State) : State :=
  if s.staging.floatMode && (startChanged || stopChanged) then s.floatWishes startChanged stopChanged else s

/-- What a change of the STOP or START float's presented value does to the pump (R61, R65 to R67, R90). -/
def State.floatsChanged (startChanged stopChanged : Bool) (s : State) : State :=
  (if stopChanged then s.stopFloatChanged else s).floatsWish startChanged stopChanged

/-- A change of the HIGH float's presented value forms A1 again (R69). -/
def State.highChanged (old : FloatUnit) (s : State) : State :=
  if s.floats.high.presented = old.high.presented then s else s.formA1

/-- The A9 condition is formed, its snapshot open between this state and an earlier one (R19). -/
def State.formA9 (s earlier : State) : State := s.handOver [earlier.snapshot] .a9

/-- A change of HIGH forms A1 (R69), and a change of START or STOP acts on the pump (R61, R65 to R67, R90). At the end of
a contradiction one reading changes all three; which acts first, and so which pump state A1's snapshot shows, is open
(log entries 9 and 28). -/
def State.floatsAct (old : FloatUnit) (s : State) : State :=
  eitherOrder (State.highChanged old)
    (State.floatsChanged (decide (s.floats.start.presented ≠ old.start.presented))
      (decide (s.floats.stop.presented ≠ old.stop.presented))) s

/-- What follows a float reading after the end of start-up: A1 and the pump, then A9 (R19). -/
def State.afterExcitation (old : FloatUnit) (s : State) : State := (s.floatsAct old).formA9 s

/-- FLOAT_EXCITATION (R16, R17): the reading is taken when the pulse of the float whose turn it is has ended, and the
next float's turn follows; with another float named, no loop of it is excited and only time passes (log entry 4). During
start-up a change of HIGH forms A1 too, which the Alarm Unit reads when start-up ends (R69, R156). -/
def execFloatExcitation (dt : Nat) (float : FloatId) (reading : FloatReading) (s : State) : Result :=
  .next (
    if float = s.floats.turn then
      let t := (s.reach dt s.floats.pulseEnd).onFloats fun u => (u.excite float reading).pulseEnded
      if t.ended then (t.afterExcitation s.floats).finish else t.highChanged s.floats
    else s.elapse dt)

end Sys2Proof.Machine
end

