-- ==== Sys2Proof/Machine/Line.lean ====
section
/-! DEFINITION. The Line Interface's own attempts and its protections (R21, R26 to R30, R35 to R40), and the commands
that report them. -/

namespace Sys2Proof.Machine

/-! ### Claims and reports at the end of an attempt -/

/-- The guard timer's setting and the start, or the spent claim, that the completion of the station's own CLAIM brings
(R75, R78, R79, R80, R92, R110). DESIGN CHOICE: an earlier claim, withdrawn too late, that completes when the pump is CLAIMING
again counts as the claim of the new start (log entry 45). -/
def State.claimCompleted (s : State) : State :=
  let t := s.setGuard.onLine fun u => { u with claimWithdrawal := false }
  if t.pump.state = .claiming ∧ t.pump.claimPhase ≠ some .withdrawing then t.makeStart
  else if t.pump.claimPlaced then t.onPump fun p => { p with handClaim := some .noClaim }
  else t.claimResolved

/-- A standing withdrawal of the CLAIM frame is taken when its attempt has ended without completion: the slot empties,
and the claim is resolved or, at the end of the fallback time, the unclaimed start is made (R79, R80, R92, R110). -/
def State.claimBack (s : State) : State :=
  if s.line.claimWithdrawal then
    let t := s.onLine fun u => { u with claim := .empty, claimWithdrawal := false }
    if t.pump.claimPhase = some .fallback ∧ ¬ t.isolated then t.makeStart
    else if t.pump.claimPlaced then t.onPump fun p => { p with handClaim := some .noClaim }
    else t.claimResolved.actOnStart
  else s

/-- The attempt in progress has ended without completion; standing withdrawals are taken (R79, R80, R178). -/
def State.attemptBack (s : State) : State := s.claimBack.reportBack

/-- A completed STATUS clears the own entry's isolated flag once isolation has ended (R45), and places or gives up a
hand claim that is due if it published HAND (R110). -/
def State.statusCompleted (f : Frame) (s : State) : State :=
  let a := if s.isolated then s else s.setIsolatedFlag false
  match f with
  | .status e _ _ _ =>
    if e.summary = .hand ∧ a.pump.handClaim = some .due then
      if a.contactor ∧ (a.pump.handStart.any fun t => decide (a.now ≤ t + a.general.stagger * 1000)) then
        a.placeClaim.onPump fun p => { p with handClaim := some .placed }
      else a.onPump fun p => { p with handClaim := some .noClaim }
    else a
  | _ => a

/-- A completed frame's owner is told (R29). -/
def State.toldComplete (i : SlotId) (f : Frame) (s : State) : State :=
  match i with
  | .claim => s.claimCompleted
  | .notice => s
  | .status => s.statusCompleted f
  | .report => s.reportSent f

/-! ### Protection (R35 to R39) -/

/-- An attempt that has not been committed is in progress (R26, R27). -/
def LineUnit.inField (u : LineUnit) : Bool :=
  match u.attempt with
  | some a => !a.committed
  | none => false

/-- A committed attempt is in progress (R27). -/
def LineUnit.sending (u : LineUnit) : Bool :=
  match u.attempt with
  | some a => a.committed
  | none => false

/-- The transmitter is disabled by a latched line fault, and an attempt in progress ends without completion
(R30, R35 to R38). Whether the A10 raise falls before or after the withdrawals that the attempt's end takes is open
(log entry 28). -/
def State.disableTransmitter (f : LineUnit → LineUnit) (s : State) : State :=
  let a := (s.onLine fun u => { f u with txEnabled := false }).dropAttempt
  let b := if s.line.inField then a.leaveField else a
  b.attemptBack.isolationChange [b.snapshot] s.isolated

/-- Address conflict is latched (R37, R38). -/
def State.latchConflict (s : State) : State := s.disableTransmitter fun u => { u with addressConflict := true }

/-- The attempt ends in the arbitration field with its start bit read back dominant (R36). -/
def State.endField (s : State) : State := (s.dropAttempt).onLine fun u => { u with notFollowingCount := 0 }

/-- A line error (R34). -/
def State.lineError (s : State) : State := s.count .lineErrors 1

/-! ### Commands -/

/-- LINE_IDLE (R21, R26, R39, R40). -/
def execLineIdle (dt : Nat) (s : State) : Result :=
  .next (
    let t := s.elapse dt
    if t.reading ∧ t.line.attempt = none then
      ((t.onLine fun u => { u with idle := true, lineHeld := false }).isolationChange [] t.isolated).finish
    else t)

/-- START_BIT_READ (R21, R26). -/
def execStartBitRead (dt : Nat) (s : State) : Result :=
  .next (
    let t := s.elapse dt
    if t.reading then t.onLine fun u => { u with idle := false } else t)

/-- ARBITRATION_LOST (R27, R29). -/
def execArbitrationLost (dt : Nat) (s : State) : Result :=
  .next (
    let t := s.elapse dt
    if t.line.inField then t.endField else t)

/-- FRAME_COMMITTED (R27). -/
def execFrameCommitted (dt : Nat) (s : State) : Result :=
  .next (
    let t := s.elapse dt
    if t.line.inField then
      t.onLine fun u => { u with
        attempt := u.attempt.map fun a => { a with committed := true }
        notFollowingCount := 0 }
    else t)

/-- FRAME_COMPLETE (R23, R29). -/
def execFrameComplete (dt : Nat) (s : State) : Result :=
  .next (
    let t := s.elapse dt
    match t.line.attempt with
    | some ⟨i, true⟩ =>
      match (t.line.slot i).frame with
      | some f => ((t.completeAttempt i).toldComplete i f).finish
      | none => t
    | _ => t)

/-- NOT_FOLLOWING (R29, R34, R36). DEDUCED: the end of the attempt is a line error (log entry 31). -/
def execNotFollowing (dt : Nat) (s : State) : Result :=
  .next (
    let t := s.elapse dt
    if t.line.inField then
      let a := (t.dropAttempt.onLine fun u => { u with
        idle := false, notFollowingCount := u.notFollowingCount + 1 }).lineError
      (if 4 ≤ a.line.notFollowingCount then
        a.disableTransmitter fun u => { u with notFollowing := true }
      else a).finish
    else t)

/-- ARBITRATION_READBACK_FAULT (R34, R36). -/
def execArbitrationReadbackFault (dt : Nat) (s : State) : Result :=
  .next (
    let t := s.elapse dt
    if t.line.inField then t.endField.lineError.finish else t)

/-- READBACK_MISMATCH (R34, R37). At the third, the transmitter is disabled at the event that ends the attempt; which
of the two a standing withdrawal meets first is open (log entry 11). -/
def execReadbackMismatch (dt : Nat) (s : State) : Result :=
  .next (
    let t := s.elapse dt
    if t.line.sending then
      let a := (t.dropAttempt.onLine fun u => { u with conflictAborts := u.conflictAborts + 1 }).lineError
      (if 3 ≤ a.line.conflictAborts then eitherOrder State.attemptBack State.latchConflict a
      else a.attemptBack).finish
    else t)

/-- TX_HELD (R30, R35). Whether the latch is set while the transmitter is already disabled is a free value of the machine
(R41; log entry 43). -/
def execTxHeld (dt : Nat) (s : State) : Result :=
  .next (
    let t := s.elapse dt
    if t.line.txEnabled || Config.heldWhileDisabled then (t.disableTransmitter fun u => { u with txHeld := true }).finish else t)

/-- LINE_HELD (R39, R40). -/
def execLineHeld (dt : Nat) (s : State) : Result :=
  .next (
    let t := s.elapse dt
    if t.reading ∧ t.line.attempt = none then
      ((t.onLine fun u => { u with idle := false, lineHeld := true }).isolationChange [] t.isolated).finish
    else t)

end Sys2Proof.Machine
end

