-- ==== Sys2Proof/Machine/Reception.lean ====
section
/-! DEFINITION. Frames received from other bays (R31, R33, R38, R44, R56, R59, R75, R77). -/

namespace Sys2Proof.Machine

/-- The Line Interface takes a frame off the line: it reads the line, the line is not held, and the station is not
itself sending a committed frame (R29, R31, R39, R187). -/
def State.receives (s : State) : Bool := decide s.reading && !s.line.lineHeld && !s.line.sending

/-- The line is in use by another station's frame: it is not idle, and an own attempt in the arbitration field has been
lost to it (R21, R27; log entry 15). -/
def State.lineTaken (s : State) : State :=
  let t := s.onLine fun u => { u with idle := false }
  if t.line.inField then t.endField else t

/-- A frame of a class from a sender is received whole: discarded with a line error when it fails a check (R31, R34), an
address conflict when it carries this station's own address (R33, R38), and otherwise the effect of a frame of its
class from that peer (R33). -/
def State.receive (cls sender : Nat) (payload : List Byte) (effect : BayAddress → State → State) (s : State) : State :=
  if s.receives then
    let t := s.lineTaken
    (match frameFault cls sender payload, bayOfSender sender with
      | none, some a =>
        if t.startUp.address = some a then t.latchConflict else effect a t
      | _, _ => t.lineError).finish
  else s

/-- A peer's CLAIM ends an own claim in WAITING or FALLBACK: withdrawn, and READY with the wish as it stands (R77). -/
def State.yieldClaim (s : State) : State :=
  if s.pump.mayLoseClaim then s.loseClaim else s

/-- A peer's CLAIM sets its claim mark with the credit it carries (R59). -/
def State.markClaim (a : BayAddress) (credit : Nat) (s : State) : State :=
  s.onStaging fun g => { g with claimMarks := g.claimMarks.set a (some credit) }

/-- What a CLAIM from a peer does (R33, R59, R75, R77). The entry is refreshed first; the A12 condition, if that
changes its presence, may be formed before the own claim is withdrawn, before the evaluation or after it (R158; log
entry 28). -/
def State.claimHeard (payload : List Byte) (a : BayAddress) (s : State) : State :=
  let r := s.onEntry a PeerEntry.refreshed
  let t := (r.setGuard.markClaim a (claimCredit payload)).yieldClaim
  if (s.peers.get a).presence = .fresh then t.evaluate else t.evaluate.handOver [r.snapshot, t.snapshot] .a12

/-- What a STATUS from a peer does (R33, R44, R47, R59). -/
def State.statusHeard (payload : List Byte) (a : BayAddress) (s : State) : State :=
  (((s.refreshPeer a).onEntry a (PeerEntry.taking (readStatus payload))).clearClaimMark a).formA12

/-- What a SPILL NOTICE from a peer does (R33, R56). -/
def State.noticeHeard (payload : List Byte) (a : BayAddress) (s : State) : State :=
  (s.refreshPeer a).onStaging fun g => { g with noticeMarks := g.noticeMarks.set a (noticeIsOpen payload) }

/-! ### Commands -/

/-- FRAME_DISCARDED (R22, R23, R31, R34). -/
def execFrameDiscarded (dt : Nat) (bits : List Bool) (s : State) : Result :=
  .next (
    let t := s.elapse dt
    if t.receives then
      match hear bits with
      | .discard _ => t.lineTaken.lineError.finish
      | .frame _ _ _ => t
    else t)

/-- ADDRESS_CONFLICT (R33, R38). -/
def execAddressConflict (dt : Nat) (cls : BitVec 3) (payload : List Byte) (s : State) : Result :=
  .next (
    let t := s.elapse dt
    match t.startUp.address with
    | none => t
    | some own => t.receive cls.toNat own.number payload State.refreshPeer)

/-- STATUS (R33, R44). -/
def execStatus (dt : Nat) (sender : BitVec 4) (payload : List Byte) (s : State) : Result :=
  .next ((s.elapse dt).receive 3 sender.toNat payload (State.statusHeard payload))

/-- CLAIM (R33, R59, R75, R77). -/
def execClaim (dt : Nat) (sender : BitVec 4) (payload : List Byte) (s : State) : Result :=
  .next ((s.elapse dt).receive 0 sender.toNat payload (State.claimHeard payload))

/-- SPILL_NOTICE (R33, R56). -/
def execSpillNotice (dt : Nat) (sender : BitVec 4) (payload : List Byte) (s : State) : Result :=
  .next ((s.elapse dt).receive 1 sender.toNat payload (State.noticeHeard payload))

/-- ALARM_REPORT (R33). -/
def execAlarmReport (dt : Nat) (sender : BitVec 4) (payload : List Byte) (s : State) : Result :=
  .next ((s.elapse dt).receive 4 sender.toNat payload State.refreshPeer)

/-- SPILL_RECORD (R33). -/
def execSpillRecord (dt : Nat) (sender : BitVec 4) (payload : List Byte) (s : State) : Result :=
  .next ((s.elapse dt).receive 5 sender.toNat payload State.refreshPeer)

/-- INTERVAL_REPORT (R33). -/
def execIntervalReport (dt : Nat) (sender : BitVec 4) (payload : List Byte) (s : State) : Result :=
  .next ((s.elapse dt).receive 6 sender.toNat payload State.refreshPeer)

end Sys2Proof.Machine
end

