-- ==== Sys2Proof/Machine/Town.lean ====
section
/-! DEFINITION. The town's requests (R32, R54, R163, R167, R173). -/

namespace Sys2Proof.Machine

/-- A TOWN frame that passes R31 is received: nothing takes it before the end of start-up (R187). -/
def State.townRequest (effect : State → State) (s : State) : State :=
  if s.receives then
    let t := s.lineTaken
    (if t.ended then effect t else t).finish
  else s

/-! ### TIME (R167, R172) -/

/-- The house time a TIME request carries. -/
def timeOf (day : BitVec 16) (second : BitVec 24) : HouseTime := ⟨day.toNat, second.toNat, true⟩

/-- A day and second of day without the flag. -/
def HouseTime.point (t : HouseTime) : Nat × Nat := (t.day, t.second)

/-- A request whose distance is more than 2 s marks the interval and the spill in progress, and in auto mode sets the
close-due time again (R149, R167, R172). -/
def State.timeJump (s : State) : State :=
  (s.onReport fun r => { r with
    interval := r.interval.map fun i => { i with
      timeSet := true, closeDue := s.settings.reporting.closeDue r.house } }).onWeir
    fun w => { w with spill := w.spill.markTimeSet }

/-- A request that moves house time forward by 2 s or less reaches the close-due time (R172). -/
def closesAt (old new : Nat × Nat) (i : Interval) : Bool :=
  match i.closeDue with
  | none => false
  | some due =>
    let moved := forwardDistance old new
    decide (0 < moved) && decide (moved ≤ 2) && decide (forwardDistance old due ≤ moved)

/-- A request whose distance from house time is more than 2 s (R167). -/
def State.jumps (s : State) (new : HouseTime) : Bool := decide (2 < shorterDistance s.report.house.point new.point)

/-- A request reaches the close-due time of the interval in progress (R172). -/
def State.reachesClose (s : State) (new : HouseTime) : Bool :=
  s.report.interval.any (closesAt s.report.house.point new.point)

/-- House time takes the request's value, and the town is PRESENT (R167, R168). -/
def State.setTime (new : HouseTime) (s : State) : State :=
  s.onReport fun r => { r with house := new, lastTime := some s.now, townPresent := true }

/-- A TIME request within range is taken (R149, R167, R168, R172). -/
def State.takeTime (new : HouseTime) (s : State) : State :=
  if s.jumps new then (s.setTime new).timeJump
  else if s.reachesClose new then (s.setTime new).closeInProgress
  else s.setTime new

/-- TIME (R167): a second of day of 86,400 or more is discarded. -/
def execTime (dt : Nat) (day : BitVec 16) (second : BitVec 24) (s : State) : Result :=
  .next ((s.elapse dt).townRequest fun t =>
    if second.toNat < 86400 then t.takeTime (timeOf day second) else t)

/-- CLOSE_INTERVAL (R173): ignored in auto mode (R172). -/
def execCloseInterval (dt : Nat) (s : State) : Result :=
  .next ((s.elapse dt).townRequest fun t => if t.settings.reporting.auto then t else t.closeInProgress)

/-- The maximum drawdown, 0 with the stages section invalid (R54). -/
def State.maxDrawdown (s : State) : Nat := (s.settings.stages.map (·.maxDrawdown)).getD 0

/-- The drawdown that a request sets or cancels (R54). -/
def State.takeDrawdown (offset minutes : Nat) (s : State) : State :=
  s.onStaging fun g =>
    if minutes = 0 then { g with drawdownOffset := 0, drawdownExpiry := none }
    else { g with
      drawdownOffset := min offset s.maxDrawdown
      drawdownExpiry := some (s.startUp.runClock + min minutes 720 * 60) }

/-- DRAWDOWN (R54). -/
def execDrawdown (dt : Nat) (offset minutes : BitVec 16) (s : State) : Result :=
  .next ((s.elapse dt).townRequest (State.takeDrawdown offset.toNat minutes.toNat))

/-- ACCEPT_ALARMS (R163). -/
def execAcceptAlarms (dt : Nat) (s : State) : Result :=
  .next ((s.elapse dt).townRequest State.acceptAll)

/-- The payload's first byte holds no known kind (R32). -/
def unknownKind (payload : List Byte) : Bool := (townLength (field payload 0 1)).isNone

/-- UNKNOWN_TOWN_KIND (R31, R32): discarded, and no line error; a payload that fails a check of R31 is one. -/
def execUnknownTownKind (dt : Nat) (payload : List Byte) (s : State) : Result :=
  .next (
    let t := s.elapse dt
    match frameFault 2 14 payload with
    | some _ => if t.receives then t.lineTaken.lineError.finish else t
    | none => if unknownKind payload then t.townRequest id else t)

end Sys2Proof.Machine
end

