-- ==== Sys2Proof/Machine/Timers.lean ====
section
/-! DEFINITION. The ends of the Peer Table's, the Staging Unit's and the Report Unit's times (R43, R55, R65, R68, R166,
R168, R171, R172). -/

namespace Sys2Proof.Machine

/-! ### Presence of peers (R43) -/

/-- PEER_STALE (R43, R47, R59): a FRESH peer entry's age reaches 3,500 ms. -/
def execPeerStale (dt : Nat) (peer : BayAddress) (s : State) : Result :=
  .next (
    if s.startUp.address ≠ some peer ∧ (s.peers.get peer).presence = .fresh then
      let t := s.elapse (max dt (3500 - (s.peers.get peer).age))
      (((t.onEntry peer PeerEntry.gone).clearClaimMark peer).formA12).finish
    else s.elapse dt)

/-- PEER_ABSENT (R42, R43, R47, R56, R59): a peer entry's age reaches 30,000 ms. -/
def execPeerAbsent (dt : Nat) (peer : BayAddress) (s : State) : Result :=
  .next (
    if s.startUp.address ≠ some peer ∧ (s.peers.get peer).presence ≠ .absent then
      let t := s.elapse (max dt (30000 - (s.peers.get peer).age))
      let a := ((t.onEntry peer PeerEntry.forgotten).clearClaimMark peer).onStaging fun g =>
        { g with noticeMarks := g.noticeMarks.set peer false }
      a.formA12.finish
    else s.elapse dt)

/-! ### Staging Unit (R55, R65) -/

/-- ISOLATED_START_DELAY_END (R49, R65). -/
def execIsolatedStartDelayEnd (dt : Nat) (s : State) : Result :=
  .next (match s.staging.startDelay with
    | .running ends =>
      (((s.reach dt ends).onStaging fun g => { g with startDelay := .done }).evaluate).finish
    | _ => s.elapse dt)

/-- DRAWDOWN_EXPIRY (R55): the run clock reaches the expiry. -/
def execDrawdownExpiry (dt : Nat) (s : State) : Result :=
  .next (match s.startUp.endedAt, s.staging.drawdownExpiry with
    | some t, some e =>
      (s.reach dt (t + e * 1000)).onStaging fun g => { g with drawdownOffset := 0, drawdownExpiry := none }
    | _, _ => s.elapse dt)

/-! ### Run clock (R68, R88, R166, R171) -/

/-- The ring's newest bucket goes up by one, saturating at 60 (R68). -/
def newestUp (buckets : List Nat) : List Nat :=
  buckets.dropLast ++ [min 60 (buckets.getLastD 0 + 1)]

/-- One second of running in the credit ring (R68). -/
def Pump.ringSecond (p : Pump) : Pump :=
  if p.runSeconds + 1 < 60 then { p with runSeconds := p.runSeconds + 1 }
  else { p with runSeconds := 0, buckets := newestUp p.buckets }

/-- An interval one second longer (R171). -/
def Interval.second (i : Interval) : Interval := { i with length := min 86400 (i.length + 1) }

/-- What a run-clock second does: house time and the interval's length advance, and the pump's running is counted
(R68, R88, R113, R166, R171). -/
def State.clockSecond (s : State) : State :=
  let t := s.onReport fun r => { r with
    house := r.house.next
    nextSecond := r.nextSecond.map (· + 1000)
    interval := r.interval.map Interval.second }
  if t.pump.counting then (t.onPump Pump.ringSecond).count .runSeconds 1 else t

/-- RUN_CLOCK_SECOND (R68, R88, R166, R171). -/
def execRunClockSecond (dt : Nat) (s : State) : Result :=
  .next (match s.report.nextSecond with
    | none => s.elapse dt
    | some t => (s.reach dt t).clockSecond)

/-- The oldest bucket is discarded and a new one, holding 0, added (R68). -/
def Pump.ringHour (p : Pump) : Pump :=
  { p with buckets := p.buckets.tail ++ [0], nextHour := p.nextHour.map (· + 3600000) }

/-- CREDIT_HOUR (R68). -/
def execCreditHour (dt : Nat) (s : State) : Result :=
  .next (match s.pump.nextHour with
    | none => s.elapse dt
    | some t => (s.reach dt t).onPump Pump.ringHour)

/-! ### Town presence and intervals (R168, R171, R172) -/

/-- TOWN_ABSENT (R168, R177). -/
def execTownAbsent (dt : Nat) (s : State) : Result :=
  .next (match s.report.lastTime with
    | none => s.elapse dt
    | some t =>
      if s.report.townPresent then
        ((s.reach dt (t + 60000)).onReport fun r => { r with townPresent := false }).finish
      else s.elapse dt)

/-- The advancing house time has reached the close-due time (R172). -/
def ReportUnit.atBoundary (r : ReportUnit) : Bool :=
  match r.interval with
  | none => false
  | some i => decide (i.closeDue = some r.house.point)

/-- INTERVAL_BOUNDARY (R172, R174). -/
def execIntervalBoundary (dt : Nat) (s : State) : Result :=
  .next (
    let t := s.elapse dt
    if t.report.atBoundary then t.closeInProgress.finish else t)

/-- The interval's length has reached 86,400 s (R171). -/
def ReportUnit.atLengthLimit (r : ReportUnit) : Bool :=
  match r.interval with
  | none => false
  | some i => decide (i.length = 86400)

/-- INTERVAL_LENGTH_LIMIT (R171, R174). -/
def execIntervalLengthLimit (dt : Nat) (s : State) : Result :=
  .next (
    let t := s.elapse dt
    if t.report.atLengthLimit then t.closeInProgress.finish else t)

/-- REARM (R160): the kind's normal time reaches 60 s while it is not armed. -/
def execRearm (dt : Nat) (kind : AlarmKind) (s : State) : Result :=
  .next (match (s.alarm kind).armed, (s.alarm kind).normalSince with
    | false, some t =>
      let u := s.reach dt (t + 60000)
      u.setAlarm kind { u.alarm kind with armed := true }
    | _, _ => s.elapse dt)

end Sys2Proof.Machine
end

