-- ==== Sys2Proof/Machine/PumpTimes.lean ====
section
/-! DEFINITION. The Pump Sequencer's own events: the guard and claim times (R75, R80), run feedback (R74), proving,
running and stopping (R86 to R92), and the cooling and min-off times (R94, R96). -/

namespace Sys2Proof.Machine

/-! ### Guard and claim (R75, R80) -/

/-- GUARD_EXPIRY (R75, R76, R82). -/
def execGuardExpiry (dt : Nat) (s : State) : Result :=
  .next (match s.pump.guard with
    | none => s.elapse dt
    | some t => (((s.reach dt t).onPump fun p => { p with guard := none }).actOnStart).finish)

/-- The fallback time that starts now: the address × 2 s (R80). -/
def State.fallbackEnd (s : State) : Nat := s.now + ((s.startUp.address.map BayAddress.number).getD 0) * 2000

/-- CLAIM_TIME_END (R80). -/
def execClaimTimeEnd (dt : Nat) (s : State) : Result :=
  .next (match s.pump.claimTime with
    | none => s.elapse dt
    | some t =>
      let u := s.reach dt t
      if u.pump.claimPhase = some .waiting then
        u.onPump fun p => { p with
          claimPhase := some .fallback, claimTime := none, fallbackTime := some u.fallbackEnd }
      else u)

/-- The claim is withdrawn at the end of the fallback time: withdrawn, an unclaimed start follows; too late, the
withdrawal stands (R80). -/
def State.endFallback (s : State) : State :=
  let t := s.onPump fun p => { p with fallbackTime := none }
  match t.withdrawalAnswer .claim with
  | .withdrawn => t.withdrawClaim.makeStart
  | .tooLate => t.withdrawClaim

/-- FALLBACK_TIME_END (R80, R83). -/
def execFallbackTimeEnd (dt : Nat) (s : State) : Result :=
  .next (match s.pump.fallbackTime with
    | none => s.elapse dt
    | some t =>
      let u := s.reach dt t
      if u.pump.claimPhase = some .fallback then u.endFallback.finish else u)

/-! ### Run feedback (R74) -/

/-- When feedback without command that becomes present now has been timed for its 2 s: from the opening of R104 or the
move of R108, or else from its arrival (R92). DEDUCED: an arrival 2 s or more after that moment is R92's (log entry 39). -/
def Pump.strayEnd (now : Nat) (p : Pump) : Nat :=
  match p.openedAt with
  | some t => if now < t + 2000 then t + 2000 else now + 2000
  | none => now + 2000

/-- Feedback becomes present (R74, R86, R87, R92, R104, R108, R112). A window whose proof time has passed has ended first,
not proved (log entry 20). -/
def State.feedbackPresent (s : State) : State :=
  match s.pump.window with
  | some w =>
    if s.now ≤ w.ends then (s.onPump fun p => { p with feedback := true }).feedbackInWindow w
    else s.notProved.onPump fun p => { p with
      feedback := true, strayTimer := if p.watch = .off then none else some (s.now + 2000) }
  | none => s.onPump fun p => { p with
      feedback := true
      lossTimer := none
      strayTimer := if p.watch = .off then none else some (p.strayEnd s.now) }

/-- Feedback becomes absent: the 1 s of a feedback loss begins (R87, R112), a stop is released (R91), and the timing of
feedback without command ends (R92, R104);
DEDUCED: feedback that returns is timed from its arrival (log entry 39). -/
def State.feedbackAbsent (s : State) : State :=
  let t := s.onPump fun p => { p with
    feedback := false
    lossTimer := if p.proved then some (s.now + 1000) else none
    strayTimer := none
    openedAt := none }
  if t.pump.state = .stopping then t.released else t

/-- RUN_FEEDBACK_CHANGE (R74). -/
def execRunFeedbackChange (dt : Nat) (present : Bool) (s : State) : Result :=
  .next (
    let t := s.elapse dt
    if t.pump.feedback = present then t
    else (if present then t.feedbackPresent else t.feedbackAbsent).finish)

/-- PROOF_TIME_END (R86, R93, R112). -/
def execProofTimeEnd (dt : Nat) (s : State) : Result :=
  .next (match s.pump.window with
    | none => s.elapse dt
    | some w =>
      let t := s.reach dt w.ends
      if t.pump.feedback then t else t.notProved.finish)

/-- FEEDBACK_LOST (R87, R93, R112). -/
def execFeedbackLost (dt : Nat) (s : State) : Result :=
  .next (match s.pump.lossTimer with
    | none => s.elapse dt
    | some t => ((s.reach dt t).failure .a4).finish)

/-! ### Running and stopping (R88 to R91) -/

/-- PROVING_RUN_END (R88, R112). -/
def execProvingRunEnd (dt : Nat) (s : State) : Result :=
  .next (match s.pump.provingRun with
    | none => s.elapse dt
    | some t => (s.reach dt t).onPump fun p => { p with provingRun := none, failures := 0 })

/-- MIN_RUN_END (R89). -/
def execMinRunEnd (dt : Nat) (s : State) : Result :=
  .next (match s.pump.minRun with
    | none => s.elapse dt
    | some t => (((s.reach dt t).onPump fun p => { p with minRun := none }).actOnStop).finish)

/-- STOP_DELAY_END (R89). -/
def execStopDelayEnd (dt : Nat) (s : State) : Result :=
  .next (match s.pump.stopDelay with
    | none => s.elapse dt
    | some t =>
      let u := (s.reach dt t).onPump fun p => { p with stopDelay := none }
      if u.staging.stopWish then u.goStopping.finish else u)

/-- RELEASE_TIME_END (R91). -/
def execReleaseTimeEnd (dt : Nat) (s : State) : Result :=
  .next (match s.pump.releaseTime with
    | none => s.elapse dt
    | some t =>
      let u := s.reach dt t
      if u.pump.feedback then (u.lock .notReleasing).finish else u)

/-- The lockout of feedback without command; whether it takes a station with no pump fitted is open (R73, R92; log
entry 14). -/
def State.lockStray (s : State) : State :=
  if s.general.pumpFitted || Config.unfittedLocks then s.lock .withoutCommand else s

/-- Feedback without command locks the pump; in CLAIMING the claim is withdrawn first, and a refused withdrawal is
waited for (R92). -/
def State.strayFeedback (s : State) : State :=
  let t := s.onPump fun p => { p with strayTimer := none, lockPending := decide (p.state = .claiming) }
  if t.pump.state ≠ .claiming then t.lockStray
  else if t.pump.mayLoseClaim then t.loseClaim
  else t

/-- FEEDBACK_WITHOUT_COMMAND (R92, R112). -/
def execFeedbackWithoutCommand (dt : Nat) (s : State) : Result :=
  .next (match s.pump.strayTimer with
    | none => s.elapse dt
    | some t => ((s.reach dt t).strayFeedback).finish)

/-! ### Cooling and min-off (R94, R96) -/

/-- COOLING_TIME_END (R94). -/
def execCoolingTimeEnd (dt : Nat) (s : State) : Result :=
  .next (match s.pump.cooling with
    | none => s.elapse dt
    | some t =>
      let u := (s.reach dt t).onPump fun p => { p with cooling := none }
      if u.pump.state = .cooling then (u.movePump fun p => { p with state := .ready }).finish else u)

/-- MIN_OFF_END (R61, R96). -/
def execMinOffEnd (dt : Nat) (s : State) : Result :=
  .next (match s.pump.minOff with
    | none => s.elapse dt
    | some t => (((s.reach dt t).onPump fun p => { p with minOff := none }).reformAvailability).finish)

end Sys2Proof.Machine
end

