-- ==== Sys2Proof/Machine/Selector.lean ====
section
/-! DEFINITION. The supply (R101 to R106, R112, R128) and the pump selector (R107 to R114). -/

namespace Sys2Proof.Machine

/-! ### Supply loss and restore (R102 to R106) -/

/-- A supply loss opens the contactor in PROVING or RUNNING (R103), and feedback is timed from the opening (R104). -/
def State.supplyOpening (s : State) : State := s.movePump fun p => { p with state := .ready, openedAt := some s.now }

/-- What a supply loss does to the pump state (R103, R112). In CLAIMING the start wish goes with availability. -/
def State.pumpSupplyLost (s : State) : State :=
  match s.pump.state with
  | .proving => s.supplyOpening
  | .running => s.supplyOpening
  | .hand => if s.pump.handPhase = some .halted then s else s.movePump fun p => { p with handPhase := some .halted }
  | _ => s

/-- A supply loss but for the rake's part (R102, R103). -/
def State.pumpLoss (s : State) : State :=
  (((s.onSupply fun u => { u with lossPending := true }).count .supplyLosses 1).pumpSupplyLost).reformAvailability

/-- A supply loss is taken (R102, R103, R128). -/
def State.supplyLoss (s : State) : State := s.pumpLoss.rakeSupplyLost

/-- The snapshots that A2 may take at a supply loss, but for the one after it: before it, and between the pump's part (R103)
and the rake's (R128), either of which may come first (R158; log entry 28). -/
def State.lossSnapshots (s : State) : List Snapshot := [s.snapshot, s.pumpLoss.snapshot, s.rakeSupplyLost.snapshot]

/-- The supply becomes HEALTHY after the end of start-up: a restore, when a loss is pending, under the recovery setting
(R102, R106); availability (R61); and the supply-restore trigger (R118, R128). -/
def State.supplyBack (s : State) : State :=
  let t := s.onSupply fun u =>
    if u.lossPending then { u with lossPending := false, hold := u.hold || s.general.heldRecovery } else u
  t.reformAvailability.trigger

/-- SUPPLY_STATE_CHANGE (R101). Before the end of start-up the change is only filtered (R102). -/
def execSupplyStateChange (dt : Nat) (healthy : Bool) (s : State) : Result :=
  .next (
    let t := s.elapse dt
    if t.supply.healthy = healthy then t
    else
      let u := t.onSupply fun v => { v with healthy := healthy }
      if u.ended then
        (if healthy then u.supplyBack.handOver [u.snapshot] .a2 else u.supplyLoss.handOver u.lossSnapshots .a2).finish
      else u)

/-! ### Moves of the pump selector (R108, R109, R111, R114) -/

/-- A claim is withdrawn because the selector moves the pump out of CLAIMING; a standing withdrawal is kept (R108,
R111). -/
def State.leaveClaim (s : State) : State := if s.pump.mayLoseClaim then s.withdrawClaim else s

/-- The pump in OUT by a move to Off, and feedback timed from the move (R108). DEDUCED: so it is from READY, CLAIMING and
COOLING too, where R92 alone would not restart the timing (log entry 42). -/
def Pump.movedOff (now : Nat) (p : Pump) : Pump :=
  { p with
    state := .out
    openedAt := some now
    strayTimer := if p.feedback then some (now + 2000) else none }

/-- A move to Off (R108). -/
def State.moveToOff (s : State) : State :=
  match s.pump.state with
  | .startup => s
  | .locked => s
  | .out => s
  | _ => s.leaveClaim.movePump (Pump.movedOff s.now)

/-- A move to Auto, from Off (R109) or from Hand (R114). -/
def State.moveToAuto (s : State) : State :=
  match s.pump.state with
  | .out => s.movePump fun p => { p with state := if p.cooling.isSome then .cooling else .ready }
  | .hand =>
    if s.pump.handPhase = some .proved then s.enterRunning
    else if s.pump.cooling.isSome then s.movePump fun p => { p with state := .cooling }
    else s.goStopping
  | _ => s

/-- A move into Hand (R111). DEDUCED: from STOPPING the contactor closes whatever the supply, since that row makes no Hand
start, and R110's HALTED stands where one would be made (log entry 44). -/
def State.moveToHand (s : State) : State :=
  match s.pump.state with
  | .out => s.handStart
  | .ready => s.handStart
  | .cooling => s.handStart
  | .claiming => s.leaveClaim.handStart
  | .proving => s.movePump fun p => { p with
      state := .hand, handPhase := some .window, handClaim := some .noClaim }
  | .running => s.movePump fun p => { p with
      state := .hand, handPhase := some .proved, handClaim := some .noClaim, provingRun := none }
  | .stopping => s.movePump fun p => { p with
      state := .hand, handPhase := some .proved, handClaim := some .noClaim }
  | _ => s

/-- The selector position acts on the pump (R107). -/
def State.moveSelector (position : PumpPosition) (s : State) : State :=
  match position with
  | .off => s.moveToOff
  | .hand => s.moveToHand
  | .auto => s.moveToAuto

/-- The position that the Hand input and the Auto input are decoded to (R107). -/
def selectorPosition (inputs : SelectorInputs) : PumpPosition :=
  match inputs.hand, inputs.auto with
  | false, false => .off
  | true, false => .hand
  | false, true => .auto
  | true, true => .off

/-- PUMP_SELECTOR_MOVE (R72, R107). The position is acted on from the end of start-up, and with no pump fitted it
changes no state. -/
def execPumpSelectorMove (dt : Nat) (inputs : SelectorInputs) (s : State) : Result :=
  .next (
    let position := selectorPosition inputs
    let t := s.elapse dt
    if t.pump.selector = position then t
    else
      let u := t.onPump fun p => { p with selector := position }
      if u.ended ∧ u.general.pumpFitted then (u.moveSelector position).reformAvailability.finish
      else u.publish.finish)

end Sys2Proof.Machine
end

