-- ==== Sys2Proof/Machine/Rake.lean ====
section
/-! DEFINITION. The Screen Controller's events: the selector (R129), triggers (R117 to R119), the cam (R122), jam
recovery (R123 to R126) and blinding (R130, R132). -/

namespace Sys2Proof.Machine

/-- What a move of the screen selector does after the end of start-up (R129). -/
def State.moveScreen (position : ScreenPosition) (s : State) : State :=
  match position with
  | .off =>
    if s.screen.state.inCycle then s.onScreen fun c => { c.abandon with state := .out }
    else if s.screen.state = .idle then s.onScreen fun c => { c with state := .out }
    else s
  | .auto => if s.screen.state = .out then s.onScreen fun c => { c with state := .idle } else s

/-- SCREEN_SELECTOR_MOVE (R117, R129). -/
def execScreenSelectorMove (dt : Nat) (position : ScreenPosition) (s : State) : Result :=
  .next (
    let t := s.elapse dt
    if t.screen.selector = position then t
    else
      let u := t.onScreen fun c => { c with selector := position }
      if u.ended then u.moveScreen position else u)

/-- RAKE_NOW (R117, R118): no press is taken before the end of start-up. -/
def execRakeNow (dt : Nat) (s : State) : Result :=
  .next (
    let t := s.elapse dt
    if t.panel.rakeNow then t else (t.onPanel fun b => { b with rakeNow := true }).trigger)

/-- DIFFERENTIAL_TRIGGER (R118). -/
def execDifferentialTrigger (dt : Nat) (s : State) : Result :=
  .next (match s.screen.differentialSince with
    | none => s.elapse dt
    | some since =>
      let t := s.reach dt (since + 10000)
      (t.onScreen fun c => { c with differentialSince := some t.now }).trigger)

/-- INTERVAL_TRIGGER (R118, R119). -/
def execIntervalTrigger (dt : Nat) (s : State) : Result :=
  .next (match s.screen.intervalAt with
    | none => s.elapse dt
    | some t => ((s.reach dt t).restartInterval).trigger)

/-- The cam changes in FORWARD (R122). -/
def State.camMoved (closed : Bool) (s : State) : State :=
  match s.screen.camStage, closed with
  | some .waitOpen, false => s.onScreen fun c => { c with camStage := some .waitClose }
  | some .waitClose, true => s.completeCycle
  | _, _ => s

/-- CAM_CHANGE (R122). -/
def execCamChange (dt : Nat) (closed : Bool) (s : State) : Result :=
  .next (
    let t := s.elapse dt
    if t.screen.camClosed = closed then t
    else
      let u := t.onScreen fun c => { c with camClosed := closed }
      if u.screen.state = .forward then u.camMoved closed else u)

/-- FORWARD_TIME_LIMIT (R123, R126). DEDUCED: an overcurrent of the same moment that is taken first leaves FORWARD, and
the limit, reached already, is then met at the next FORWARD (log entry 41). -/
def execForwardTimeLimit (dt : Nat) (s : State) : Result :=
  .next (
    if s.screen.state = .forward then
      ((s.elapse (max dt (120000 - s.screen.forwardMs))).jam .noCycleProof).finish
    else s.elapse dt)

/-- RAKE_OVERCURRENT_INPUT (R124). -/
def execRakeOvercurrentInput (dt : Nat) (active : Bool) (s : State) : Result :=
  .next (
    let t := s.elapse dt
    t.onScreen fun c => { c with
      overcurrentInput := active
      overcurrentSince := if active && c.energised then some (c.overcurrentSince.getD t.now) else none })

/-- Overcurrent: recovery begins, or the rake is jammed (R125, R126). -/
def State.overcurrentTaken (s : State) : State :=
  match s.screen.state with
  | .forward =>
    if s.screen.retries < 3 then
      s.onScreen fun c => { c.atRest with
        state := .reversing, stateTimer := some (s.now + 3000), energiseAt := some (s.now + 200) }
    else s.jam .overcurrent
  | .reversing => s.jam .jammedInReverse
  | _ => s

/-- OVERCURRENT (R124, R125). -/
def execOvercurrent (dt : Nat) (s : State) : Result :=
  .next (match s.screen.overcurrentSince with
    | none => s.elapse dt
    | some since => ((s.reach dt (since + 500)).overcurrentTaken).finish)

/-- REVERSE_ENERGISE (R116, R124). -/
def execReverseEnergise (dt : Nat) (s : State) : Result :=
  .next (match s.screen.energiseAt with
    | none => s.elapse dt
    | some t =>
      let u := s.reach dt t
      if u.screen.state = .reversing then
        u.onScreen fun c => { c with
          reverseOn := true, energiseAt := none, overcurrentSince := c.freshOvercurrent u.now }
      else u)

/-- REVERSING_END (R116, R125). -/
def execReversingEnd (dt : Nat) (s : State) : Result :=
  .next (match s.screen.state, s.screen.stateTimer with
    | .reversing, some t =>
      let u := s.reach dt t
      u.onScreen fun c => { c.atRest with state := .pause, stateTimer := some (u.now + 2000) }
    | _, _ => s.elapse dt)

/-- PAUSE_END (R116, R122, R124, R125). -/
def execPauseEnd (dt : Nat) (s : State) : Result :=
  .next (match s.screen.state, s.screen.stateTimer with
    | .pause, some t =>
      let u := s.reach dt t
      u.onScreen fun c => { c.atRest with
        state := .forward
        retries := c.retries + 1
        camStage := some c.freshStage
        overcurrentSince := c.freshOvercurrent u.now }
    | _, _ => s.elapse dt)

/-- The blinded flag changes: restriction (R61, R132), the own entry (R45) and A7 follow. -/
def State.setBlinded (v : Bool) (s : State) : State :=
  ((s.onScreen fun c => { c with blinded := v }).reformAvailability).handOver [s.snapshot] .a7

/-- BLIND_SET (R130, R132): a timer that runs 30 s with the flag set already has no effect. -/
def execBlindSet (dt : Nat) (s : State) : Result :=
  .next (match s.screen.blindSetSince with
    | none => s.elapse dt
    | some since =>
      let t := s.reach dt (since + 30000)
      if t.screen.blinded then t else (t.setBlinded true).finish)

/-- BLIND_CLEAR (R130, R132): a timer that runs 30 s with the flag clear already has no effect. -/
def execBlindClear (dt : Nat) (s : State) : Result :=
  .next (match s.screen.blindClearSince with
    | none => s.elapse dt
    | some since =>
      let t := s.reach dt (since + 30000)
      if t.screen.blinded then (t.setBlinded false).finish else t)

end Sys2Proof.Machine
end

