-- ==== Sys2Proof/Machine/StartUpUnit.lean ====
section
/-! DEFINITION. The Configuration Loader's start-up (R181 to R188), latch reset and restart (R41, R97, R106, R127, R163,
R189, R190), and the panel push-buttons (R163, R189). -/

namespace Sys2Proof.Machine

/-! ### Straps and memory (R181 to R186) -/

/-- The MEMORY step begins with an address, its first attempt at the memory due at once (R181, R182). -/
def State.beginMemory (address : Option BayAddress) (s : State) : State :=
  s.onStartUp fun c => { c with
    step := .memory, stepBegan := s.now, address := address, attempts := 0, attemptDue := some s.now, attemptOpen := false }

/-- A fitted flag and an offset, as the levels section gives them (R1, R2). -/
def ProbeRecord.configured (fitted : Bool) (offset : Int) (r : ProbeRecord) : ProbeRecord :=
  { r with fitted := fitted, offset := offset }

/-- The probe records as the levels section gives them; every probe not fitted when it is invalid (R1, R2). -/
def ProbeUnit.configured (l : Option LevelSettings) (u : ProbeUnit) : ProbeUnit :=
  match l with
  | none => { u with
      bay := u.bay.configured false 0
      channel := u.channel.configured false 0
      weir := u.weir.configured false 0 }
  | some c => { u with
      bay := u.bay.configured c.bayFitted c.bayOffset
      channel := u.channel.configured c.channelFitted c.channelOffset
      weir := u.weir.configured c.weirFitted c.weirOffset }

/-- The IDENTIFY step begins with the first fitted probe; with none fitted LISTEN begins at once (R14, R187). -/
def State.beginIdentify (s : State) : State :=
  let t := (s.onStartUp fun c => { c with step := .identify, stepBegan := s.now }).onProbes fun u =>
    nextExchange true s.now { u with queue := ProbeId.inOrder.filter fun p => (u.record p).fitted }
  if t.probes.exchange = none then t.beginListen s.now else t

/-- The MEMORY step ends with the settings in use, their digest, and a clear latch for each stage (R48, R184, R186). The
auto flag is handed to the own entry with the pump fitted or not as the settings say (R72). -/
def State.takeSettings (memory : MemoryResult) (checksum : Checksum) (valid : SectionFlags) (c : Settings)
    (s : State) : State :=
  (((s.onStartUp fun u => { u with
      memory := memory
      checksum := checksum
      valid := valid
      settings := some c
      digest := c.digest
      attemptDue := none
      attemptOpen := false }).onProbes (ProbeUnit.configured c.levels)).onStaging
    fun g => { g with latches := ((c.stages.map (·.levels)).getD []).map fun _ => false }).publish.beginIdentify

/-- No section valid. -/
def SectionFlags.noneValid : SectionFlags := ⟨false, false, false, false, false, false, false⟩

/-- STRAPS_DECIDED (R181): within 1,000 ms of the beginning of the step. -/
def execStrapsDecided (dt : Nat) (number : BitVec 4) (s : State) : Result :=
  .next (
    let t := s.elapse dt
    if t.startUp.step = .straps ∧ t.now ≤ t.startUp.stepBegan + 1000 then t.beginMemory (bayOfSender number.toNat)
    else t)

/-- STRAPS_TIMEOUT (R181). -/
def execStrapsTimeout (dt : Nat) (s : State) : Result :=
  .next (
    if s.startUp.step = .straps then (s.reach dt (s.startUp.stepBegan + 1000)).beginMemory none else s.elapse dt)

/-- MEMORY_ATTEMPT_START (R182). -/
def execMemoryAttemptStart (dt : Nat) (s : State) : Result :=
  .next (match s.startUp.step, s.startUp.attemptDue with
    | .memory, some t =>
      (s.reach dt t).onStartUp fun c => { c with
        attempts := c.attempts + 1, attemptDue := none, attemptOpen := true }
    | _, _ => s.elapse dt)

/-- MEMORY_NOT_ACKNOWLEDGED (R182, R184): a retry 10 ms later, and after the third failure NO MEMORY. -/
def execMemoryNotAcknowledged (dt : Nat) (s : State) : Result :=
  .next (
    let t := s.elapse dt
    if t.startUp.step = .memory ∧ t.startUp.attemptOpen then
      if t.startUp.attempts < 3 then
        t.onStartUp fun c => { c with attemptOpen := false, attemptDue := some (t.now + 10) }
      else t.takeSettings .noMemory .failed .noneValid .fallback
    else t)

/-- MEMORY_READ_COMPLETE (R182 to R186): the 256 bytes. -/
def execMemoryReadComplete (dt : Nat) (image : List Byte) (s : State) : Result :=
  .next (
    let t := s.elapse dt
    if t.startUp.step = .memory ∧ t.startUp.attemptOpen ∧ image.length = 256 then
      if checksumPasses image then t.takeSettings .read .passed (sectionFlags image) (readSettings image)
      else t.takeSettings .read .failed .noneValid .fallback
    else t)

/-! ### The end of start-up (R188) -/

/-- A line fault is latched (R35 to R38). -/
def LineUnit.latched (u : LineUnit) : Bool := u.txHeld || u.notFollowing || u.addressConflict

/-- The own entry becomes FRESH and takes the digest (R43, R45, R188). -/
def State.freshenOwn (s : State) : State :=
  match s.startUp.address with
  | none => s
  | some own => s.onEntry own fun e => { e with presence := .fresh, age := 0, digest := s.startUp.digest }

/-- The pump state at the end of start-up: READY, or OUT (R73). -/
def State.firstPumpState (s : State) : PumpState := if s.autoFlag then .ready else .out

/-- The screen state at the end of start-up: OUT with the screen selector in Off, and IDLE otherwise (R115). -/
def Screen.firstState (c : Screen) : Screen :=
  if c.state = .idle ∧ c.selector = .off then { c with state := .out } else c

/-- A selector in Hand at the end of start-up, or at a latch reset that leaves the pump in OUT, is taken as a move into
Hand; with no pump fitted the pump stays OUT (R73, R97). -/
def State.takeHandFromOut (s : State) : State :=
  if s.pump.state = .out ∧ s.pump.selector = .hand ∧ s.general.pumpFitted then s.handStart else s

/-- The clocks start: the run clock from 0 (R188), the run-clock second (R166) and the credit hour (R68). -/
def State.startClocks (s : State) : State :=
  (((s.onStartUp fun c => { c with step := .ended, endedAt := some s.now, runClock := 0 }).onReport
    fun r => { r with nextSecond := some (s.now + 1000) }).onPump
    fun p => { p with nextHour := some (s.now + 3600000) })

/-- The transmitter is enabled on a station with an address and no line fault latched (R30, R188). -/
def State.enableTransmitter (s : State) : State :=
  s.onLine fun u => { u with txEnabled := s.startUp.address.isSome && !u.latched }

/-- The pump leaves STARTUP (R73). -/
def State.firstPump (s : State) : State := s.movePump fun p => { p with state := s.firstPumpState }

/-- The Weir Unit is ON with the weir fitted, and OFF otherwise (R134, R135). -/
def State.weirOn (s : State) : State := s.onWeir fun w => { w with on := s.settings.weir.any (·.fitted) }

/-- The own entry's flag of a station that is isolated at the end of start-up (R40, R45). -/
def State.flagIsolation (s : State) : State := if s.isolated then s.setIsolatedFlag true else s

/-- A supply that is not HEALTHY at the end of start-up is a supply loss (R102). -/
def State.firstSupply (s : State) : State := if s.supply.healthy then s else s.supplyLoss

/-- The end of start-up: each block makes its own change, the first STATUS is placed, and the Alarm Unit reads the
conditions with these changes made (R30, R40, R46, R73, R102, R115, R128, R135, R156, R171, R188). -/
def State.endStartUp (s : State) : State :=
  ((s.startClocks.enableTransmitter.freshenOwn.beginInterval.firstPump.onScreen Screen.firstState).restartInterval
    ).weirOn.flagIsolation.firstSupply.takeHandFromOut.placeStatus.readConditions

/-- END_OF_START_UP (R187, R188): 3,000 ms of LISTEN have passed. -/
def execEndOfStartUp (dt : Nat) (s : State) : Result :=
  .next (
    if s.startUp.step = .listen then ((s.reach dt (s.startUp.stepBegan + 3000)).endStartUp).finish else s.elapse dt)

/-! ### Latch reset (R189) -/

/-- The Line Interface at a latch reset (R36, R37, R41). -/
def State.lineLatchReset (s : State) : State :=
  s.onLine fun u => { u with
    txHeld := false, notFollowing := false, addressConflict := false, notFollowingCount := 0, conflictAborts := 0,
    txEnabled := s.startUp.address.isSome && decide s.ended }

/-- The Pump Sequencer at a latch reset (R97). -/
def State.pumpLatchReset (s : State) : State :=
  let t := s.onPump fun p => { p with failures := 0, cooling := none }
  if t.pump.state = .locked ∨ t.pump.state = .cooling then
    (t.movePump fun p => { p with state := t.firstPumpState }).takeHandFromOut
  else t

/-- The Screen Controller at a latch reset (R127). -/
def Screen.latchReset (c : Screen) : Screen :=
  { c with
    state := if c.state = .jammed then (if c.selector = .auto then .idle else .out) else c.state
    jamCause := none
    retries := 0 }

/-- The pump's part of a latch reset and the screen's, whose order is open (R189): a Hand start of the moment shows the
screen state before or after the reset in its A5 or A6 snapshot (R158; log entries 9, 10 and 28). -/
def State.pumpAndScreenReset (s : State) : State :=
  eitherOrder State.pumpLatchReset (State.onScreen Screen.latchReset) s

/-- A latch reset, but for acceptance: the line, the pump, the screen and the supply hold, the conditions that follow
them, and a change of isolation (R40, R41, R97, R106, R127). The A5 or A6 of a Hand start of the moment may be latched
before the evaluation that an end of isolation makes or after it, which R158 and R189 leave open (log entry 28). DESIGN
CHOICE: that evaluation itself comes after the reset of the pump, the screen and the supply hold (log entry 46). -/
def State.resetLatches (s : State) : State :=
  let a := s.lineLatchReset.pumpAndScreenReset.onSupply fun u => { u with hold := false }
  let b := (((a.handOver [] .a2).handOver [] .a8).reformAvailability).isolationChange [] s.isolated
  (b.retaken s .a5).retaken s .a6

/-- A latch reset, acceptance included; which comes first is open where a turn to abnormal falls at the same moment
(R163; log entry 10). -/
def State.latchReset (s : State) : State := eitherOrder State.acceptAll State.resetLatches s

/-- LATCH_RESET (R189): a release less than 5,000 ms after the press. -/
def execLatchReset (dt : Nat) (s : State) : Result :=
  .next (
    let t := s.elapse dt
    match t.startUp.resetButton with
    | .pressed since =>
      if t.now < since + 5000 then
        (((t.onStartUp fun c => { c with resetButton := .released }).onPanel
          fun b => { b with reset := false }).latchReset).finish
      else t
    | .released => t)

/-! ### Restart (R190) and the panel -/

/-- Every block at its power-up value; the commands waiting are kept, and no free value is drawn twice. -/
def State.poweredUp (s : State) : State := { State.reset with pending := s.pending, draws := s.draws }

/-- POWER_UP (R190). -/
def execPowerUp (s : State) : Result := .next s.poweredUp

/-- RESTART (R189, R190): 5,000 ms after a press with no release; the button is still held (log entry 16). -/
def execRestart (dt : Nat) (s : State) : Result :=
  .next (match s.startUp.resetButton with
    | .pressed _ => s.poweredUp.onPanel fun b => { b with reset := true }
    | .released => s.elapse dt)

/-- RESET_PRESS (R189): no press is taken during start-up. -/
def execResetPress (dt : Nat) (s : State) : Result :=
  .next (
    let t := s.elapse dt
    if t.panel.reset then t
    else
      let u := t.onPanel fun b => { b with reset := true }
      if u.ended then u.onStartUp fun c => { c with resetButton := .pressed u.now } else u)

/-- ACCEPT (R163): no press is taken before the end of start-up. -/
def execAccept (dt : Nat) (s : State) : Result :=
  .next (
    let t := s.elapse dt
    if t.panel.accept then t
    else
      let u := t.onPanel fun b => { b with accept := true }
      if u.ended then u.acceptAll else u)

/-- BUTTON_RELEASE (R117, R163, R189): the last taken value returns to inactive. A release of the reset button while it
is PRESSED is LATCH_RESET's (log entry 24). -/
def execButtonRelease (dt : Nat) (button : Button) (s : State) : Result :=
  .next (
    let t := s.elapse dt
    match button with
    | .rakeNow => t.onPanel fun b => { b with rakeNow := false }
    | .accept => t.onPanel fun b => { b with accept := false }
    | .reset =>
      if t.startUp.resetButton = .released then t.onPanel fun b => { b with reset := false } else t)

end Sys2Proof.Machine
end

