-- ==== Sys2Proof/Machine/Dispatch.lean ====
section
/-! DEFINITION. One arm for each command of the table, each a direct call of its meaning. -/

namespace Sys2Proof.Machine

/-- The effect of a command on everything but the queue. -/
def exec (i : Instr) (s : State) : Host.Outcome State Fault Refusal :=
  match i with
  | .powerUp => Sys2Proof.Machine.execPowerUp s
  | .resetPress dt => Sys2Proof.Machine.execResetPress dt s
  | .latchReset dt => Sys2Proof.Machine.execLatchReset dt s
  | .restart dt => Sys2Proof.Machine.execRestart dt s
  | .strapsDecided dt number => Sys2Proof.Machine.execStrapsDecided dt number s
  | .strapsTimeout dt => Sys2Proof.Machine.execStrapsTimeout dt s
  | .memoryAttemptStart dt => Sys2Proof.Machine.execMemoryAttemptStart dt s
  | .memoryNotAcknowledged dt => Sys2Proof.Machine.execMemoryNotAcknowledged dt s
  | .memoryReadComplete dt image => Sys2Proof.Machine.execMemoryReadComplete dt image s
  | .endOfStartUp dt => Sys2Proof.Machine.execEndOfStartUp dt s
  | .probeCycleBegin dt => Sys2Proof.Machine.execProbeCycleBegin dt s
  | .read dt => Sys2Proof.Machine.execRead dt s
  | .identify dt => Sys2Proof.Machine.execIdentify dt s
  | .noReply dt => Sys2Proof.Machine.execNoReply dt s
  | .probeReplyEnd dt reply => Sys2Proof.Machine.execProbeReplyEnd dt reply s
  | .probeByteDiscarded dt byte => Sys2Proof.Machine.execProbeByteDiscarded dt byte s
  | .floatExcitation dt float reading => Sys2Proof.Machine.execFloatExcitation dt float reading s
  | .lineIdle dt => Sys2Proof.Machine.execLineIdle dt s
  | .arbitrationLost dt => Sys2Proof.Machine.execArbitrationLost dt s
  | .frameCommitted dt => Sys2Proof.Machine.execFrameCommitted dt s
  | .frameComplete dt => Sys2Proof.Machine.execFrameComplete dt s
  | .notFollowing dt => Sys2Proof.Machine.execNotFollowing dt s
  | .arbitrationReadbackFault dt => Sys2Proof.Machine.execArbitrationReadbackFault dt s
  | .readbackMismatch dt => Sys2Proof.Machine.execReadbackMismatch dt s
  | .txHeld dt => Sys2Proof.Machine.execTxHeld dt s
  | .lineHeld dt => Sys2Proof.Machine.execLineHeld dt s
  | .frameDiscarded dt bits => Sys2Proof.Machine.execFrameDiscarded dt bits s
  | .addressConflict dt cls payload => Sys2Proof.Machine.execAddressConflict dt cls payload s
  | .status dt sender payload => Sys2Proof.Machine.execStatus dt sender payload s
  | .claim dt sender payload => Sys2Proof.Machine.execClaim dt sender payload s
  | .spillNotice dt sender payload => Sys2Proof.Machine.execSpillNotice dt sender payload s
  | .alarmReport dt sender payload => Sys2Proof.Machine.execAlarmReport dt sender payload s
  | .spillRecord dt sender payload => Sys2Proof.Machine.execSpillRecord dt sender payload s
  | .intervalReport dt sender payload => Sys2Proof.Machine.execIntervalReport dt sender payload s
  | .time dt day second => Sys2Proof.Machine.execTime dt day second s
  | .closeInterval dt => Sys2Proof.Machine.execCloseInterval dt s
  | .drawdown dt offset minutes => Sys2Proof.Machine.execDrawdown dt offset minutes s
  | .acceptAlarms dt => Sys2Proof.Machine.execAcceptAlarms dt s
  | .unknownTownKind dt payload => Sys2Proof.Machine.execUnknownTownKind dt payload s
  | .peerStale dt peer => Sys2Proof.Machine.execPeerStale dt peer s
  | .peerAbsent dt peer => Sys2Proof.Machine.execPeerAbsent dt peer s
  | .isolatedStartDelayEnd dt => Sys2Proof.Machine.execIsolatedStartDelayEnd dt s
  | .drawdownExpiry dt => Sys2Proof.Machine.execDrawdownExpiry dt s
  | .runClockSecond dt => Sys2Proof.Machine.execRunClockSecond dt s
  | .creditHour dt => Sys2Proof.Machine.execCreditHour dt s
  | .guardExpiry dt => Sys2Proof.Machine.execGuardExpiry dt s
  | .claimTimeEnd dt => Sys2Proof.Machine.execClaimTimeEnd dt s
  | .fallbackTimeEnd dt => Sys2Proof.Machine.execFallbackTimeEnd dt s
  | .runFeedbackChange dt present => Sys2Proof.Machine.execRunFeedbackChange dt present s
  | .proofTimeEnd dt => Sys2Proof.Machine.execProofTimeEnd dt s
  | .feedbackLost dt => Sys2Proof.Machine.execFeedbackLost dt s
  | .provingRunEnd dt => Sys2Proof.Machine.execProvingRunEnd dt s
  | .minRunEnd dt => Sys2Proof.Machine.execMinRunEnd dt s
  | .stopDelayEnd dt => Sys2Proof.Machine.execStopDelayEnd dt s
  | .releaseTimeEnd dt => Sys2Proof.Machine.execReleaseTimeEnd dt s
  | .feedbackWithoutCommand dt => Sys2Proof.Machine.execFeedbackWithoutCommand dt s
  | .coolingTimeEnd dt => Sys2Proof.Machine.execCoolingTimeEnd dt s
  | .minOffEnd dt => Sys2Proof.Machine.execMinOffEnd dt s
  | .supplyStateChange dt healthy => Sys2Proof.Machine.execSupplyStateChange dt healthy s
  | .pumpSelectorMove dt inputs => Sys2Proof.Machine.execPumpSelectorMove dt inputs s
  | .screenSelectorMove dt position => Sys2Proof.Machine.execScreenSelectorMove dt position s
  | .rakeNow dt => Sys2Proof.Machine.execRakeNow dt s
  | .differentialTrigger dt => Sys2Proof.Machine.execDifferentialTrigger dt s
  | .intervalTrigger dt => Sys2Proof.Machine.execIntervalTrigger dt s
  | .camChange dt closed => Sys2Proof.Machine.execCamChange dt closed s
  | .forwardTimeLimit dt => Sys2Proof.Machine.execForwardTimeLimit dt s
  | .rakeOvercurrentInput dt active => Sys2Proof.Machine.execRakeOvercurrentInput dt active s
  | .overcurrent dt => Sys2Proof.Machine.execOvercurrent dt s
  | .reverseEnergise dt => Sys2Proof.Machine.execReverseEnergise dt s
  | .reversingEnd dt => Sys2Proof.Machine.execReversingEnd dt s
  | .pauseEnd dt => Sys2Proof.Machine.execPauseEnd dt s
  | .blindSet dt => Sys2Proof.Machine.execBlindSet dt s
  | .blindClear dt => Sys2Proof.Machine.execBlindClear dt s
  | .rearm dt kind => Sys2Proof.Machine.execRearm dt kind s
  | .accept dt => Sys2Proof.Machine.execAccept dt s
  | .townAbsent dt => Sys2Proof.Machine.execTownAbsent dt s
  | .intervalBoundary dt => Sys2Proof.Machine.execIntervalBoundary dt s
  | .intervalLengthLimit dt => Sys2Proof.Machine.execIntervalLengthLimit dt s
  | .startBitRead dt => Sys2Proof.Machine.execStartBitRead dt s
  | .buttonRelease dt button => Sys2Proof.Machine.execButtonRelease dt button s

end Sys2Proof.Machine
end

