-- ==== Sys2Proof/Machine/Step.lean ====
section
/-! DEFINITION. One step: the command at the front of the queue is taken, and the block idles for a millisecond on an
empty queue. -/

namespace Sys2Proof.Machine

/-- The queue with its front taken. -/
def State.dequeued (s : State) : State := { s with pending := s.pending.tail }

/-- With no command waiting, one millisecond passes on the part's time base and nothing else happens (log entry 2). -/
def State.idleStep (s : State) : State := s.elapse 1

/-- One step of the part. -/
def step (s : State) : Host.Outcome State Fault Refusal :=
  match s.pending with
  | [] => .next s.idleStep
  | i :: _ => exec i s.dequeued

/-- Put a command at the front of the queue. -/
def State.queueFront (i : Instr) (s : State) : State := { s with pending := i :: s.pending }

/-- The state with the command that a word spells at the front of its queue; unchanged where the word spells none. -/
def State.withFetchWord (s : State) (nbits w : Nat) : State :=
  match Sys2Proof.decodeTableWord nbits w with
  | none => s
  | some i => s.queueFront i

end Sys2Proof.Machine
end

