-- ==== Sys2Proof/Safety.lean ====
section
/-! DEFINITION. What counts as a sound state: which items a block holds in which of its states (R71, R76, R110, R115,
R124), what may stand on the house line (R26, R30), the own entry as it is published (R45), and the ranges of counts,
logs and levels. Beside them, what it means that a step leaves blocks as they were. -/

namespace Sys2Proof.Machine

/-! ### What a step leaves alone -/

/-- The thirteen blocks of the state. -/
inductive Block
  | startUp | probes | floats | line | peers | staging | pump | supply | screen | weir | alarms | report | panel
  deriving DecidableEq, Repr

/-- `t` is `u` but for the blocks listed and the count of free values drawn. -/
abbrev State.SameBut (changed : List Block) (u t : State) : Prop :=
  t.now = u.now ∧ t.pending = u.pending ∧
  (.startUp ∉ changed → t.startUp = u.startUp) ∧ (.probes ∉ changed → t.probes = u.probes) ∧
  (.floats ∉ changed → t.floats = u.floats) ∧ (.line ∉ changed → t.line = u.line) ∧
  (.peers ∉ changed → t.peers = u.peers) ∧ (.staging ∉ changed → t.staging = u.staging) ∧
  (.pump ∉ changed → t.pump = u.pump) ∧ (.supply ∉ changed → t.supply = u.supply) ∧
  (.screen ∉ changed → t.screen = u.screen) ∧ (.weir ∉ changed → t.weir = u.weir) ∧
  (.alarms ∉ changed → t.alarms = u.alarms) ∧ (.report ∉ changed → t.report = u.report) ∧
  (.panel ∉ changed → t.panel = u.panel)

/-- The Line Interface but for what a selection and an offer may change: the REPORT slot and its standing withdrawal,
the attempt in progress, the idle line, and the not-following count (R26, R36, R177, R178). -/
def LineUnit.apartFromReport (u : LineUnit) : LineUnit :=
  { u with report := .empty, reportWithdrawal := false, attempt := none, idle := false, notFollowingCount := 0 }

/-- A slot whose frame's attempt has ended without completion: a next frame replaces the frame (R27, R29). -/
def Slot.dropped (x : Slot) : Slot :=
  match x.next with
  | none => x
  | some f => ⟨some f, none⟩

/-- The line after a frame of another station: it is not idle, and an own attempt in the arbitration field has been lost
(R21, R27, R29). -/
def LineUnit.afterFrame (u : LineUnit) : LineUnit :=
  match u.attempt with
  | some ⟨i, false⟩ =>
    { u.setSlot i (u.slot i).dropped with idle := false, attempt := none, notFollowingCount := 0 }
  | _ => { u with idle := false }

/-- The Report Unit but for its note that the REPORT slot's frame carries an item that is pending no more. -/
def ReportUnit.apartFromSlot (r : ReportUnit) : ReportUnit := { r with itemGone := false }

/-- `t` is `u` but for what a selection of a report item and an offer on an idle line may change. -/
abbrev State.SelectedFrom (u t : State) : Prop :=
  State.SameBut [.line, .report] u t ∧ t.line.apartFromReport = u.line.apartFromReport ∧
    t.report.apartFromSlot = u.report.apartFromSlot

/-- The items of the Pump Sequencer that go with no one pump state: the feedback, the guard, the start list, the failure
count, the cooling time, the credit ring and the selector (R68, R74, R75, R84, R93, R94, R107). -/
def Pump.lasting (p : Pump) : Pump :=
  { Pump.initial with
    feedback := p.feedback, guard := p.guard, starts := p.starts, failures := p.failures, cooling := p.cooling
    buckets := p.buckets, runSeconds := p.runSeconds, nextHour := p.nextHour, selector := p.selector }

/-- What a change of the pump leaves as it was around it: every alarm kind but those listed, the peer table but for the
published fields of the own entry (R45), the Staging Unit but for the available flag, the start wish and the limit-held
indication (R61 to R64), the Line Interface's protections and NOTICE slot, and the Report Unit but for the counts given
at this moment. -/
abbrev State.AroundThePump (kinds : List AlarmKind) (u t : State) : Prop :=
  (∀ k, k ∉ kinds → t.alarm k = u.alarm k) ∧
  (∀ a, u.startUp.address ≠ some a → t.peers.get a = u.peers.get a) ∧
  (∀ own, u.startUp.address = some own →
    t.withPublished (t.peers.get own) = t.withPublished (u.peers.get own)) ∧
  t.staging = { u.staging with
    available := t.staging.available, startWish := t.staging.startWish, limitHeld := t.staging.limitHeld } ∧
  t.line = { u.line with
    idle := t.line.idle, attempt := t.line.attempt, claim := t.line.claim, status := t.line.status
    report := t.line.report, claimWithdrawal := t.line.claimWithdrawal
    reportWithdrawal := t.line.reportWithdrawal, notFollowingCount := t.line.notFollowingCount } ∧
  t.report = { u.report with aside := t.report.aside, itemGone := t.report.itemGone }

/-- The screen of `t` after an entry into RUNNING at `u`: with rake with pump, a rake trigger, which starts a cycle in IDLE
with the supply HEALTHY, marks a cycle in progress, and is lost otherwise (R118 to R120). -/
abbrev State.RakedWithPump (u t : State) : Prop :=
  ((∀ g ∈ u.settings.screen, g.rakeWithPump = false) ∨ ¬ u.ended ∨ u.screen.state = .jammed ∨ u.screen.state = .out ∨
      (u.screen.state = .idle ∧ u.supply.healthy = false) → t.screen = u.screen) ∧
  (∀ g, u.settings.screen = some g → g.rakeWithPump = true → u.ended →
    (u.screen.state = .idle → u.supply.healthy = true → t.screen = { u.screen with
      state := .forward
      retries := 0
      forwardMs := 0
      overcurrentSince := if u.screen.overcurrentInput then some u.now else none
      camStage := some (if u.screen.camClosed then .waitOpen else .waitClose) }) ∧
    (u.screen.state = .forward ∨ u.screen.state = .reversing ∨ u.screen.state = .pause →
      t.screen = { u.screen with rakeAgain := true }))

/-! ### Pump Sequencer (R71, R72, R76, R87 to R92, R110) -/

/-- Each item and each running time of the pump stands only in the states it belongs to, and the items that a state
holds are there. -/
abbrev Pump.Sound (p : Pump) : Prop :=
  p.claimPhase.isSome = decide (p.state = .claiming) ∧
  p.window.isSome = p.proving ∧
  p.lockCause.isSome = decide (p.state = .locked) ∧
  p.handPhase.isSome = decide (p.state = .hand) ∧
  p.handClaim.isSome = decide (p.state = .hand) ∧
  (p.handStart.isSome → p.state = .hand) ∧
  (p.claimTime.isSome → p.claimPhase = some .waiting) ∧
  (p.fallbackTime.isSome → p.claimPhase = some .fallback) ∧
  (p.releaseTime.isSome → p.state = .stopping) ∧
  (p.minRun.isSome → p.state = .running) ∧
  (p.stopDelay.isSome → p.state = .running) ∧
  (p.provingRun.isSome → p.proved = true) ∧
  (p.lossTimer.isSome → p.proved = true) ∧
  (p.strayTimer.isSome → p.watch ≠ .off) ∧
  (p.openedAt.isSome → p.watch = .auto) ∧
  (p.lockPending = true → p.state ≠ .startup)

/-- The pump is sound, and it is in STARTUP exactly until the end of start-up (R73). -/
abbrev State.PumpSound (s : State) : Prop := s.pump.Sound ∧ (s.pump.state = .startup ↔ ¬ s.ended)

/-! ### Screen Controller (R115, R116, R124) -/

/-- The cam stage stands in FORWARD, the state's time in REVERSING and PAUSE, the reverse output in REVERSING, the jam
cause in JAMMED, and overcurrent is timed only while an output is energised. -/
abbrev Screen.Sound (c : Screen) : Prop :=
  c.camStage.isSome = decide (c.state = .forward) ∧
  c.stateTimer.isSome = (decide (c.state = .reversing) || decide (c.state = .pause)) ∧
  (c.energiseAt.isSome → c.state = .reversing) ∧
  (c.reverseOn = true → c.state = .reversing) ∧
  c.jamCause.isSome = decide (c.state = .jammed) ∧
  (c.overcurrentSince.isSome → c.energised = true)

/-! ### Line Interface (R26, R30, R35 to R38) -/

/-- An attempt is in progress only on a line that is not idle and with the transmitter enabled, and the transmitter is
enabled only after the end of start-up, on a station with an address, with no line fault latched. -/
abbrev State.LineSound (s : State) : Prop :=
  (s.line.attempt.isSome → s.line.txEnabled = true ∧ s.line.idle = false) ∧
  (s.line.txEnabled = true → s.ended ∧ s.startUp.address.isSome ∧ s.line.latched = false)

/-! ### The report slot (R177) -/

/-- Nothing is left to select: a selection would leave the REPORT slot as it is (R177). The slot has no next frame, since
a selection withdraws an unwanted frame and places none behind it, and a frame that is on the line stands in it (R26). -/
abbrev State.SelectionSettled (s : State) : Prop :=
  s.select = s ∧ s.line.report.next = none ∧ (s.line.onLine .report = true → s.line.report.frame.isSome)

/-! ### The own entry (R45) -/

/-- From the end of start-up the own entry shows the pump summary, the flags and the spill-open field as the station
stands. -/
abbrev State.OwnPublished (s : State) : Prop :=
  s.ended → ∀ own, s.startUp.address = some own → s.withPublished (s.peers.get own) = s.peers.get own

/-! ### Ranges -/

/-- A house time: a day from 0 to 65,535 and a second from 0 to 86,399 (R166). -/
abbrev HouseTime.InRange (t : HouseTime) : Prop := t.day < 65536 ∧ t.second < 86400

/-- Every accumulator stands at or below its maximum (R169). -/
abbrev Accumulators.InRange (a : Accumulators) : Prop :=
  a.runSeconds.value ≤ 65535 ∧ a.starts.value ≤ 255 ∧ a.failedStarts.value ≤ 255 ∧ a.rakeCycles.value ≤ 255 ∧
  a.jamEvents.value ≤ 255 ∧ a.spillSeconds.value ≤ 65535 ∧ a.spillLitres.value ≤ 4294967295 ∧
  a.supplyLosses.value ≤ 255 ∧ a.lineErrors.value ≤ 65535

/-- The pump's counts: at most 6 consecutive failures (R93), and a credit ring of 24 buckets of 0 to 60 minutes with a
run-second count from 0 to 59 (R68). -/
abbrev Pump.InRange (p : Pump) : Prop :=
  p.failures ≤ 6 ∧ p.buckets.length = 24 ∧ (∀ b ∈ p.buckets, b ≤ 60) ∧ p.runSeconds < 60

/-- The screen's counts: a forward time of at most 120 s, and at most 3 retries, 2 before the last of them is made
(R123, R125). -/
abbrev Screen.InRange (c : Screen) : Prop :=
  c.forwardMs ≤ 120000 ∧ c.retries ≤ 3 ∧ (c.state = .reversing ∨ c.state = .pause → c.retries ≤ 2)

/-- The counts, logs, queues and clocks stay in the ranges the manual gives them. -/
abbrev State.CountsInRange (s : State) : Prop :=
  s.pump.InRange ∧ s.screen.InRange ∧
  s.weir.log.length ≤ 8 ∧ s.weir.gapCount < 1800 ∧
  s.report.house.InRange ∧ s.report.counts.InRange ∧ s.report.queue.length ≤ 4 ∧
  (∀ i ∈ s.report.interval, i.length ≤ 86400) ∧
  s.startUp.runClock ≤ 4294967295 ∧
  (∀ a, (s.peers.get a).age ≤ 65535)

/-- A level from 0 to 9,999 mm, or none (spec/00_scope.md "Levels"). -/
abbrev LevelInRange (l : Option Nat) : Prop := ∀ x ∈ l, x ≤ 9999

/-- A record holds levels in range (R9, R11). -/
abbrev ProbeRecord.InRange (r : ProbeRecord) : Prop := LevelInRange r.lastGood ∧ LevelInRange r.level

/-- An outcome gathered for a probe holds a level in range (R9). -/
def ProbeOutcome.inRange : ProbeOutcome → Bool
  | .sample l _ => decide (l ≤ 9999)
  | .miss => true

/-- Every level held lies from 0 to 9,999 mm or is none: in the probe records and the outcomes gathered, in the peer
table, and in the house level and its peak (R9, R11, R44, R50, R170). -/
abbrev State.LevelsInRange (s : State) : Prop :=
  s.probes.bay.InRange ∧ s.probes.channel.InRange ∧ s.probes.weir.InRange ∧ (∀ o ∈ s.probes.outcomes, o.2.inRange = true) ∧
  (∀ a, LevelInRange (s.peers.get a).level) ∧ LevelInRange s.staging.houseLevel ∧
  LevelInRange s.report.counts.peak

end Sys2Proof.Machine
end

