-- ==== Sys2Proof/Certificates/Slice0/Obligations.lean ====
section
/-! DEFINITION. The statements for the provers, from the numbered rules of the manual. -/

open Sys2Proof Sys2Proof.Machine

/-! ### The queue and the passing of time -/

/-- A step takes the command at the front of the queue and runs it with the rest of the queue. -/
def Obligations.StepTakesTheFrontCommand : Prop :=
  ∀ (c : Instr) (rest : List Instr) (s : State), s.pending = c :: rest →
    step s = exec c { s with pending := rest }

/-- On an empty queue one millisecond passes: the model's choice (log entry 2). A peer entry's age goes up by one and
saturates at 65,535 (R43), the own entry does not age, the forward time counts in FORWARD only (R123), and the run clock
holds the whole seconds since the end of start-up (R188), up to its maximum (log entry 18). -/
def Obligations.EmptyQueueLetsOneMillisecondPass : Prop :=
  ∀ s : State, s.pending = [] → ∃ t, step s = .next t ∧
    State.SameBut [.startUp, .peers, .screen, .report] { s with now := s.now + 1 } t ∧
    (∀ a, s.startUp.address ≠ some a →
      t.peers.get a = { s.peers.get a with age := min 65535 ((s.peers.get a).age + 1) }) ∧
    (∀ a, s.startUp.address = some a → t.peers.get a = s.peers.get a) ∧
    t.screen = { s.screen with forwardMs := t.screen.forwardMs } ∧
    (s.screen.state = .forward → t.screen.forwardMs = min 120000 (s.screen.forwardMs + 1)) ∧
    (s.screen.state ≠ .forward → t.screen.forwardMs = s.screen.forwardMs) ∧
    t.startUp = { s.startUp with runClock := t.startUp.runClock } ∧
    (s.startUp.endedAt = none → t.startUp.runClock = s.startUp.runClock) ∧
    (∀ m, s.startUp.endedAt = some m → t.startUp.runClock = min 4294967295 ((s.now + 1 - m) / 1000)) ∧
    t.report = { s.report with counts := s.report.accumulated, aside := [] }

/-! ### Restart, the panel and latch reset -/

/-- POWER_UP and RESTART: every block takes its power-up value and start-up begins again with the STRAPS step (R190).
The queue of commands is no part of the chip and is kept, as is the model's count of free values. After RESTART the
reset button is still held, so its last taken value is active (log entry 16). -/
def Obligations.RestartTakesPowerUpValues : Prop :=
  ∀ (s : State) (dt since : Nat) (held : Bool), (held = true → s.startUp.resetButton = .pressed since) →
    ∃ t, exec (if held then .restart dt else .powerUp) s = .next t ∧
      t.now = 0 ∧ t.startUp = .initial ∧ t.probes = .initial ∧ t.floats = .initial ∧ t.line = .initial ∧
      (∀ a, t.peers.get a = .initial) ∧ t.staging = .initial ∧ t.pump = .initial ∧ t.supply = .initial ∧
      t.screen = .initial ∧ t.weir = .initial ∧ (∀ k, t.alarm k = .initial) ∧ t.report = .initial ∧
      t.panel = { Panel.initial with reset := held } ∧ t.pending = s.pending ∧
      t.contactor = false ∧ t.rakeForward = false ∧ t.rakeReverse = false ∧ t.horn = false ∧ t.beacon = .dark ∧
      t.runLamp = .dark ∧ t.faultLamp = .dark ∧ t.screenLamp = .dark ∧ t.driven = none

/-- RESET_PRESS, ACCEPT and BUTTON_RELEASE (R163, R189): a press is taken only when the last taken value was inactive.
After the end of start-up a press of the reset button makes the button state PRESSED with the time of the press, and a
press of Accept sets accepted on every kind; during start-up only the last taken value follows the button. A release
of the reset button while its state is PRESSED is LATCH_RESET's (log entry 24) and lets time pass only. -/
def Obligations.PanelButtons : Prop :=
  ∀ (s : State) (dt : Nat),
    (s.panel.reset = true → exec (.resetPress dt) s = .next (s.elapse dt)) ∧
    (s.panel.reset = false → ∃ t, exec (.resetPress dt) s = .next t ∧
      State.SameBut [.startUp, .panel] (s.elapse dt) t ∧ t.panel = { s.panel with reset := true } ∧
      (s.ended → t.startUp = { (s.elapse dt).startUp with resetButton := .pressed (s.now + dt) }) ∧
      (¬ s.ended → t.startUp = (s.elapse dt).startUp)) ∧
    (s.panel.accept = true → exec (.accept dt) s = .next (s.elapse dt)) ∧
    (s.panel.accept = false → ∃ t, exec (.accept dt) s = .next t ∧
      State.SameBut [.alarms, .panel] (s.elapse dt) t ∧ t.panel = { s.panel with accept := true } ∧
      (s.ended → ∀ k, t.alarm k = { s.alarm k with accepted := true }) ∧
      (¬ s.ended → t.alarms = s.alarms)) ∧
    (∀ b, ∃ t, exec (.buttonRelease dt b) s = .next t ∧ State.SameBut [.panel] (s.elapse dt) t ∧
      (b = .rakeNow → t.panel = { s.panel with rakeNow := false }) ∧
      (b = .accept → t.panel = { s.panel with accept := false }) ∧
      (b = .reset → s.startUp.resetButton = .released → t.panel = { s.panel with reset := false }) ∧
      (b = .reset → s.startUp.resetButton ≠ .released → t.panel = s.panel))

/-- LATCH_RESET: a release less than 5,000 ms after the press. The latched line faults and the counts behind them
clear and the transmitter is enabled on a station with an address after the end of start-up (R41), the supply hold
clears (R106), and JAMMED becomes IDLE or OUT by the screen selector (R127). The consecutive-failure count is 0 and the
cooling time none, and LOCKED and COOLING are left: with a pump fitted and the selector in Auto for READY, from which
the evaluation that an end of isolation makes may claim at once; with the selector in Off for OUT (R97), and with no pump
fitted for OUT too, in which R73 keeps such a station, the model's reading where R97 speaks of the selector alone (log
entry 25); and in Hand for a Hand start, which is LOCKED again only for feedback that is present, or for HALTED with the supply
LOST (R86, R97, R111). That the evaluation comes after the resets of the pump, the screen and the supply hold is the model's
choice (log entry 46). That the retry count is 0 in every screen state is the model's reading (log entry 32). -/
def Obligations.LatchResetClearsLatches : Prop :=
  ∀ (s : State) (dt since : Nat), s.startUp.resetButton = .pressed since → s.now + dt < since + 5000 →
    ∃ t, exec (.latchReset dt) s = .next t ∧
      State.SameBut [.startUp, .line, .peers, .staging, .pump, .supply, .screen, .alarms, .report, .panel]
        (s.elapse dt) t ∧
      t.startUp = { (s.elapse dt).startUp with resetButton := .released } ∧
      t.panel = { s.panel with reset := false } ∧
      (∀ k, k ∉ [.a1, .a2, .a5, .a6, .a8, .a10] → t.alarm k = { s.alarm k with accepted := true }) ∧
      t.line.txHeld = false ∧ t.line.notFollowing = false ∧ t.line.addressConflict = false ∧
      t.line.notFollowingCount = 0 ∧ t.line.conflictAborts = 0 ∧ t.line.lineHeld = s.line.lineHeld ∧
      t.line.txEnabled = (s.startUp.address.isSome && decide s.ended) ∧
      t.supply = { s.supply with hold := false } ∧
      t.pump.failures = 0 ∧ t.pump.cooling = none ∧ t.pump.state ≠ .cooling ∧
      (s.pump.state = .locked ∨ s.pump.state = .cooling →
        (t.pump.state ≠ .locked → t.pump.lockCause = none) ∧
        (s.general.pumpFitted = true → s.pump.selector = .auto →
          (t.isolated = s.isolated → t.pump.state = .ready) ∧
          (s.isolated = true → t.pump.state = .ready ∨ t.pump.state = .claiming)) ∧
        (s.general.pumpFitted = false ∨ s.pump.selector = .off → t.pump.state = .out) ∧
        (s.general.pumpFitted = true → s.pump.selector = .hand → s.supply.healthy = true → s.pump.feedback = false →
          t.pump.state = .hand ∧ t.pump.handPhase = some .window) ∧
        (s.general.pumpFitted = true → s.pump.selector = .hand → s.supply.healthy = true → s.pump.feedback = true →
          t.pump.state = .locked ∧ t.pump.lockCause = some .earlyProof) ∧
        (s.general.pumpFitted = true → s.pump.selector = .hand → s.supply.healthy = false →
          t.pump.state = .hand ∧ t.pump.handPhase = some .halted)) ∧
      t.pump.buckets = s.pump.buckets ∧ t.pump.runSeconds = s.pump.runSeconds ∧ t.pump.guard = s.pump.guard ∧
      t.pump.selector = s.pump.selector ∧
      t.screen = { (s.elapse dt).screen with
        state := if s.screen.state = .jammed then (if s.screen.selector = .auto then .idle else .out)
          else s.screen.state
        jamCause := none
        retries := 0 }

/-! ### Start-up -/

/-- STRAPS_DECIDED and STRAPS_TIMEOUT (R181): the step ends with the address 1 to 12 that the number gives, or with no
address for any other number or at the end of 1,000 ms; the MEMORY step begins with its first attempt due.
MEMORY_ATTEMPT_START begins the attempt that is due, and MEMORY_NOT_ACKNOWLEDGED ends one of the first two: a new
attempt follows 10 ms later (R182). -/
def Obligations.StrapsAndMemoryAttempts : Prop :=
  (∀ (s : State) (dt : Nat), s.startUp.step = .straps →
      (∀ number : BitVec 4, s.now + dt ≤ s.startUp.stepBegan + 1000 →
        ∃ t, exec (.strapsDecided dt number) s = .next t ∧ State.SameBut [.startUp] (s.elapse dt) t ∧
          t.startUp = { (s.elapse dt).startUp with
            step := .memory, stepBegan := s.now + dt, address := t.startUp.address, attempts := 0,
            attemptDue := some (s.now + dt), attemptOpen := false } ∧
          (∀ a : BayAddress, number.toNat = a.number → t.startUp.address = some a) ∧
          (number.toNat = 0 ∨ 12 < number.toNat → t.startUp.address = none)) ∧
      (∃ t, exec (.strapsTimeout dt) s = .next t ∧
        State.SameBut [.startUp] (s.reach dt (s.startUp.stepBegan + 1000)) t ∧
        t.startUp = { (s.reach dt (s.startUp.stepBegan + 1000)).startUp with
          step := .memory, stepBegan := t.now, address := none, attempts := 0,
          attemptDue := some t.now, attemptOpen := false })) ∧
  (∀ (s : State) (dt due : Nat), s.startUp.step = .memory →
      (s.startUp.attemptDue = some due → ∃ t, exec (.memoryAttemptStart dt) s = .next t ∧
        State.SameBut [.startUp] (s.reach dt due) t ∧
        t.startUp = { (s.reach dt due).startUp with
          attempts := s.startUp.attempts + 1, attemptDue := none, attemptOpen := true }) ∧
      (s.startUp.attemptOpen = true → s.startUp.attempts < 3 →
        ∃ t, exec (.memoryNotAcknowledged dt) s = .next t ∧ State.SameBut [.startUp] (s.elapse dt) t ∧
          t.startUp = { (s.elapse dt).startUp with attemptOpen := false, attemptDue := some (s.now + dt + 10) }))

/-- The end of the MEMORY step: MEMORY_READ_COMPLETE gives READ, with the checksum, the sum of bytes 0 to 253 against bytes
254 and 255, PASSED, or FAILED and every section invalid (R182, R183). With it passed each section is checked on its own,
and its settings are read from the bytes of the memory map; a section whose settings leave their ranges or whose
conditions fail is invalid and takes its fallback (R135, R136, R184, R192). MEMORY_NOT_ACKNOWLEDGED ends the third
attempt with NO MEMORY (R182). The digest is formed from the settings in use (R186), every stage latch starts clear
(R48), a levels section gives the probes fitted and their offsets, the auto flag is handed to the own entry with the pump
fitted or not as the settings say (R72), and the next step is IDENTIFY with a probe fitted and LISTEN with none (R187). -/
def Obligations.MemoryStepEnds : Prop :=
  ∀ (s : State) (dt : Nat), s.startUp.step = .memory → s.startUp.attemptOpen = true →
    (∀ image : List Byte, image.length = 256 → ∃ t, exec (.memoryReadComplete dt image) s = .next t ∧
      State.SameBut [.startUp, .probes, .line, .peers, .staging, .screen] (s.elapse dt) t ∧
      t.startUp = { (s.elapse dt).startUp with
        step := t.startUp.step
        stepBegan := s.now + dt
        memory := .read
        checksum := t.startUp.checksum
        valid := t.startUp.valid
        settings := some t.settings
        digest := t.settings.digest
        attemptDue := none
        attemptOpen := false } ∧
      (t.startUp.step = if t.probes.bay.fitted || t.probes.channel.fitted || t.probes.weir.fitted then .identify
        else .listen) ∧
      (∀ own, s.startUp.address = some own →
        (t.peers.get own).auto = (t.general.pumpFitted && decide (s.pump.selector = .auto))) ∧
      (∀ l ∈ t.staging.latches, l = false) ∧
      (t.settings.levels = none →
        t.probes.bay.fitted = false ∧ t.probes.channel.fitted = false ∧ t.probes.weir.fitted = false) ∧
      (∀ g, t.settings.levels = some g →
        t.probes.bay.fitted = g.bayFitted ∧ t.probes.channel.fitted = g.channelFitted ∧
        t.probes.weir.fitted = g.weirFitted ∧ t.probes.bay.offset = g.bayOffset ∧
        t.probes.channel.offset = g.channelOffset ∧ t.probes.weir.offset = g.weirOffset) ∧
      (t.settings.stages = none → t.startUp.digest = (t.general.stagger + t.general.startsPerHour) % 65536) ∧
      (∀ g, t.settings.stages = some g → t.startUp.digest = (g.levels.length +
        ((g.levels.map Prod.fst).sum + (g.levels.map Prod.snd).sum) + g.maxDrawdown + t.general.stagger +
        t.general.startsPerHour) % 65536) ∧
      let n := fun (i : Nat) => (image.getD i 0).toNat
      let w := fun (i : Nat) => 256 * n i + n (i + 1)
      let o := fun (i : Nat) => if w i < 32768 then (w i : Int) else (w i : Int) - 65536
      let v := t.startUp.valid
      t.startUp.checksum = (if ((List.range 254).map n).sum % 65536 = w 254 then .passed else .failed) ∧
      (t.startUp.checksum = .failed → v = .noneValid ∧ t.settings = ⟨⟨true, 6, 12, 3, 120, 60, 10, false⟩, none, none,
        none, none, .all ⟨true, true, true⟩, ⟨true, 60⟩⟩) ∧
      (t.startUp.checksum = .passed →
        (v.general = true ↔ n 0x00 ≤ 1 ∧ 1 ≤ n 0x01 ∧ n 0x01 ≤ 12 ∧ 5 ≤ n 0x02 ∧ n 0x02 ≤ 60 ∧ 1 ≤ n 0x03 ∧
          n 0x03 ≤ 10 ∧ w 0x04 ≤ 600 ∧ w 0x06 ≤ 600 ∧ n 0x08 ≤ 120 ∧ n 0x09 ≤ 1) ∧
        t.settings.general = (if v.general then
          ⟨n 0x00 == 1, n 0x01, n 0x02, n 0x03, w 0x04, w 0x06, n 0x08, n 0x09 == 1⟩
          else ⟨true, 6, 12, 3, 120, 60, 10, false⟩) ∧
        (v.levels = true ↔ n 0x10 ≤ 7 ∧ n 0x10 % 2 = 1 ∧ -2000 ≤ o 0x11 ∧ o 0x11 ≤ 2000 ∧ -2000 ≤ o 0x13 ∧
          o 0x13 ≤ 2000 ∧ -2000 ≤ o 0x15 ∧ o 0x15 ≤ 2000 ∧ w 0x17 ≤ 9000 ∧ 50 ≤ w 0x19 ∧ w 0x19 ≤ 500 ∧
          w 0x1B ≤ 9999 ∧ w 0x17 + w 0x19 < w 0x1B) ∧
        t.settings.levels = (if v.levels then some ⟨true, n 0x10 / 2 % 2 == 1, n 0x10 / 4 == 1, o 0x11, o 0x13, o 0x15,
          w 0x17, w 0x19, w 0x1B⟩ else none) ∧
        (v.stages = true ↔ 1 ≤ n 0x20 ∧ n 0x20 ≤ 8 ∧ w 0x21 ≤ 1000 ∧
          (∀ i < n 0x20, w (0x23 + 4 * i) ≤ 9999 ∧ w (0x25 + 4 * i) < w (0x23 + 4 * i)) ∧
          (∀ i < n 0x20 - 1, w (0x23 + 4 * i) ≤ w (0x27 + 4 * i) ∧ w (0x25 + 4 * i) ≤ w (0x29 + 4 * i))) ∧
        t.settings.stages = (if v.stages then some ⟨(List.range (n 0x20)).map fun i =>
          (w (0x23 + 4 * i), w (0x25 + 4 * i)), w 0x21⟩ else none) ∧
        (v.screen = true ↔ 20 ≤ w 0x43 ∧ w 0x43 ≤ 2000 ∧ 100 ≤ w 0x45 ∧ w 0x45 ≤ 3000 ∧
          (n 0x47 = 0 ∨ (5 ≤ n 0x47 ∧ n 0x47 ≤ 240)) ∧ n 0x48 ≤ 1 ∧ w 0x43 < w 0x45) ∧
        t.settings.screen = (if v.screen then some ⟨w 0x43, w 0x45, n 0x47, n 0x48 == 1⟩ else none) ∧
        (v.weir = true ↔ n 0x50 = 0 ∨ (n 0x50 = 1 ∧ w 0x51 ≤ 9999 ∧ 1 ≤ n 0x53 ∧ n 0x53 ≤ 200 ∧ 1 ≤ n 0x54 ∧
          n 0x54 ≤ n 0x53 ∧ 10 ≤ w 0x55 ∧ w 0x55 ≤ 600 ∧ 30 ≤ w 0x57 ∧ w 0x57 ≤ 3600 ∧ 2 ≤ n 0x59 ∧ n 0x59 ≤ 16 ∧
          w 0x5A = 0 ∧ w 0x5C = 0 ∧
          (∀ i < n 0x59 - 1, w (0x5A + 4 * i) < w (0x5E + 4 * i) ∧ w (0x5C + 4 * i) ≤ w (0x60 + 4 * i)) ∧
          w (0x56 + 4 * n 0x59) ≤ 2000 ∧ w (0x58 + 4 * n 0x59) ≤ 60000)) ∧
        (v.weir = true → n 0x50 = 1 → t.settings.weir = some ⟨true, w 0x51, n 0x53, n 0x54, w 0x55, w 0x57,
          (List.range (n 0x59)).map fun i => (w (0x5A + 4 * i), w (0x5C + 4 * i))⟩) ∧
        (n 0x50 = 0 → t.settings.weir.isSome ∧ ∀ g ∈ t.settings.weir, g.fitted = false) ∧
        (v.weir = false → t.settings.weir = none) ∧
        (v.alarms = true ↔ ∀ i < 12, n (0xA0 + i) ≤ 7) ∧
        (∀ k : AlarmKind, t.alarmSetting k = if v.alarms then
          ⟨n (0x9F + k.number) % 2 == 1, n (0x9F + k.number) / 2 % 2 == 1, n (0x9F + k.number) / 4 == 1⟩
          else ⟨true, true, true⟩) ∧
        (v.reporting = true ↔ n 0xB0 = 1 ∨ (n 0xB0 = 0 ∧ (n 0xB1 = 15 ∨ n 0xB1 = 30 ∨ n 0xB1 = 60))) ∧
        t.settings.reporting = (if v.reporting then ⟨n 0xB0 == 0, n 0xB1⟩ else ⟨true, 60⟩))) ∧
    (3 ≤ s.startUp.attempts → ∃ t, exec (.memoryNotAcknowledged dt) s = .next t ∧
      State.SameBut [.startUp, .probes, .line, .peers, .staging, .screen] (s.elapse dt) t ∧
      t.startUp = { (s.elapse dt).startUp with
        step := .listen
        stepBegan := s.now + dt
        memory := .noMemory
        checksum := .failed
        valid := .noneValid
        settings := some .fallback
        digest := t.settings.digest
        attemptDue := none
        attemptOpen := false } ∧
      (∀ own, s.startUp.address = some own → (t.peers.get own).auto = decide (s.pump.selector = .auto)) ∧
      t.probes.bay.fitted = false ∧ t.probes.channel.fitted = false ∧ t.probes.weir.fitted = false)

/-- END_OF_START_UP (R188): the start-up step becomes ENDED and the run clock starts from 0; the transmitter is
enabled with an address and no line fault (R30); the pump becomes READY, OUT or, from a selector in Hand, HAND, locked
at once if feedback is already there (R73, R86, R111); an IDLE screen is OUT with its selector in Off (R115); the weir
function is on or off (R135); a supply that is LOST is a supply loss (R102); the first interval begins (R171); the
alarm table takes every condition as its owner then holds it (R156); and the first STATUS is placed with the own entry
as it stands (R46). -/
def Obligations.EndOfStartUpSetsTheBlocks : Prop :=
  ∀ (s : State) (dt : Nat), s.startUp.step = .listen → s.pump.state = .startup → s.line.attempt = none →
    ∃ t, exec (.endOfStartUp dt) s = .next t ∧
      State.SameBut [.startUp, .line, .peers, .staging, .pump, .supply, .screen, .weir, .alarms, .report]
        (s.reach dt (s.startUp.stepBegan + 3000)) t ∧
      t.startUp = { s.startUp with step := .ended, endedAt := some t.now, runClock := 0 } ∧
      t.line.txEnabled = (s.startUp.address.isSome && !s.line.latched) ∧
      (s.general.pumpFitted = true → s.pump.selector = .auto → t.pump.state = .ready) ∧
      (s.general.pumpFitted = false ∨ s.pump.selector = .off → t.pump.state = .out) ∧
      (s.general.pumpFitted = true → s.pump.selector = .hand → s.supply.healthy = true →
        t.pump.state = if s.pump.feedback then .locked else .hand) ∧
      (s.general.pumpFitted = true → s.pump.selector = .hand → s.supply.healthy = false →
        t.pump.state = .hand ∧ t.pump.handPhase = some .halted) ∧
      t.pump.nextHour = some (t.now + 3600000) ∧
      (s.screen.state = .idle → t.screen.state = if s.screen.selector = .off then .out else .idle) ∧
      t.weir = { s.weir with on := s.settings.weir.any (·.fitted) } ∧
      t.supply = { s.supply with lossPending := s.supply.lossPending || !s.supply.healthy } ∧
      t.report.house = s.report.house ∧ t.report.nextSecond = some (t.now + 1000) ∧
      t.report.interval = some ⟨s.report.house, 0, false, !s.report.house.sync,
        s.settings.reporting.closeDue s.report.house⟩ ∧
      (∀ own, s.startUp.address = some own →
        (t.peers.get own).presence = .fresh ∧
        t.line.status.frame = some (.status (t.peers.get own) t.probes.bay.atLimit t.probes.channel.atLimit
          t.probes.weir.atLimit)) ∧
      (s.startUp.address = none → t.peers = (s.reach dt (s.startUp.stepBegan + 3000)).peers) ∧
      (∀ a, s.startUp.address ≠ some a → t.peers.get a = (s.reach dt (s.startUp.stepBegan + 3000)).peers.get a) ∧
      ((∀ k, (s.alarm k).abnormal = false) → ∀ k, (t.alarm k).abnormal = t.condition k)

/-! ### Probes -/

/-- READ and IDENTIFY start the attempt that the exchange in progress is due to make: two request bytes, the probe's
address and the command code, and a reply window (R6). Each byte goes out as one start bit, eight data bits with the
least significant first, a parity bit that makes the ones among the nine odd, and one stop bit, and eleven such bits are
read as that byte (R3). The window's close, 23 ms after the attempt began, is the model's rounding to whole milliseconds
of two bytes at 1.15 ms and 20 ms (log entry 5), and the levels of the start and stop bits are the model's (log entry
37). -/
def Obligations.AttemptSendsTheRequest : Prop :=
  (∀ (s : State) (dt : Nat) (p : ProbeId) (identify : Bool) (repeats start : Nat),
    s.probes.exchange = some ⟨p, identify, repeats, .due start⟩ →
    ∃ t, exec (if identify then .identify dt else .read dt) s = .next t ∧
      State.SameBut [.probes] (s.reach dt start) t ∧
      t.probes = { s.probes with exchange := some ⟨p, identify, repeats, .window (t.now + 23)⟩ } ∧
      t.probeRequest = some [sentByte (BitVec.ofNat 8 p.linkAddress), sentByte (if identify then 0x49 else 0x21)] ∧
      t.probeDriven = some (serialBits (sentByte (BitVec.ofNat 8 p.linkAddress)) ++
        serialBits (sentByte (if identify then 0x49 else 0x21)))) ∧
  (∀ (x : LinkByte) (b : Byte),
    serialBits x = [false, x.data.getLsbD 0, x.data.getLsbD 1, x.data.getLsbD 2, x.data.getLsbD 3, x.data.getLsbD 4,
      x.data.getLsbD 5, x.data.getLsbD 6, x.data.getLsbD 7, x.parity, x.stop] ∧
    ofSerialBits (serialBits x) = some x ∧
    (sentByte b).data = b ∧ (sentByte b).stop = true ∧ ((serialBits (sentByte b)).take 10).count true % 2 = 1)

/-- PROBE_CYCLE_BEGIN: the cycle's exchanges are READ exchanges with the probes polled, in the order bay, channel,
weir, the first due at once; the next cycle begins 1,000 ms later; with no probe polled the completion follows at
once, with ΔH formed and no sample taken (R2, R5). -/
def Obligations.ProbeCycleBegins : Prop :=
  ∀ (s : State) (dt start : Nat), s.probes.nextCycle = some start → s.probes.exchange = none →
    (∀ p rest, (ProbeId.inOrder.filter fun q => (s.probes.record q).polled) = p :: rest →
      ∃ t, exec (.probeCycleBegin dt) s = .next t ∧
        State.SelectedFrom { s.reach dt start with
          probes := { s.probes with
            exchange := some ⟨p, false, 0, .due t.now⟩, queue := rest, outcomes := []
            nextCycle := some (t.now + 1000) } } t) ∧
    ((ProbeId.inOrder.filter fun q => (s.probes.record q).polled) = [] →
      ∃ t, exec (.probeCycleBegin dt) s = .next t ∧
        State.SameBut [.probes, .line, .peers, .staging, .pump, .screen, .weir, .alarms, .report]
          (s.reach dt start) t ∧
        (∀ k, k ∉ [.a1, .a5, .a6, .a9] → t.alarm k = s.alarm k) ∧
        t.probes.exchange = none ∧ t.probes.nextCycle = some (t.now + 1000) ∧
        t.probes.deltaH = differential t.channelLevel t.bayLevel ∧
        (∀ p, t.probes.record p = { s.probes.record p with level := (t.probes.record p).level }))

/-- NO_REPLY and an attempt that ends an exchange badly, with another probe still to come: a READ exchange ends with a
miss, an IDENTIFY exchange with identity FAILED and quality FAULT, and the next exchange begins 5 ms later (R6, R7,
R14). -/
def Obligations.NoReplyEndsTheExchange : Prop :=
  ∀ (s : State) (dt : Nat) (p q : ProbeId) (identify : Bool) (repeats closes : Nat) (rest : List ProbeId),
    s.probes.exchange = some ⟨p, identify, repeats, .window closes⟩ → s.probes.queue = q :: rest →
    ∃ t, exec (.noReply dt) s = .next t ∧
      State.SelectedFrom { s.reach dt closes with probes := t.probes } t ∧
      t.probes.exchange = some ⟨q, identify, 0, .due (t.now + 5)⟩ ∧ t.probes.queue = rest ∧
      t.probes.nextCycle = s.probes.nextCycle ∧ t.probes.deltaH = s.probes.deltaH ∧
      (identify = false → t.probes.outcomes = s.probes.outcomes ++ [(p, .miss)] ∧
        ∀ x, t.probes.record x = s.probes.record x) ∧
      (identify = true → t.probes.outcomes = s.probes.outcomes ∧
        t.probes.record p = { s.probes.record p with identity := .failed, quality := .fault } ∧
        ∀ x, x ≠ p → t.probes.record x = s.probes.record x)

/-- PROBE_REPLY_END judges the reply by R7, R8 and R14. A parity error or a malformed reply is repeated 5 ms later
while fewer than 2 repeats have been made, and then ends the exchange as a missing reply does; a good READ reply gives
a sample, its reading brought to the house datum (R9); a good IDENTIFY reply gives CONFIRMED for the probe's own kind
code and FAILED for any other, without a repeat. First for an exchange with another probe still to come, and then for
the last exchange of the IDENTIFY step, which NO_REPLY may end too: LISTEN begins with the first probe cycle, whose
first exchange follows 5 ms later (R5, R6, R187). A reply ends between the opening of the window, 20 ms before it
closes, and 12 ms after its close (R6; in whole milliseconds, log entry 5); at any other moment only time passes. -/
def Obligations.ReplyIsJudged : Prop :=
  (∀ (s : State) (dt : Nat) (p q : ProbeId) (repeats closes : Nat) (rest : List ProbeId) (reply : List LinkByte),
    reply ≠ [] → closes ≤ s.now + dt + 20 → s.now + dt ≤ closes + 12 → s.probes.queue = q :: rest →
    (s.probes.exchange = some ⟨p, false, repeats, .window closes⟩ →
      ∃ t, exec (.probeReplyEnd dt reply) s = .next t ∧
        State.SelectedFrom { s.elapse dt with probes := t.probes } t ∧
        (∀ x, t.probes.record x = s.probes.record x) ∧
        (∀ reading mark, judgeReply 4 readSample reply = .good (reading, mark) →
          t.probes = { s.probes with
            exchange := some ⟨q, false, 0, .due (t.now + 5)⟩, queue := rest
            outcomes := s.probes.outcomes ++
              [(p, .sample (toDatum (s.probes.record p).offset reading) mark)] }) ∧
        ((∀ reading mark, judgeReply 4 readSample reply ≠ .good (reading, mark)) → repeats < 2 →
          t.probes = { s.probes with exchange := some ⟨p, false, repeats + 1, .due (t.now + 5)⟩ }) ∧
        ((∀ reading mark, judgeReply 4 readSample reply ≠ .good (reading, mark)) → 2 ≤ repeats →
          t.probes = { s.probes with
            exchange := some ⟨q, false, 0, .due (t.now + 5)⟩, queue := rest
            outcomes := s.probes.outcomes ++ [(p, .miss)] })) ∧
    (s.probes.exchange = some ⟨p, true, repeats, .window closes⟩ →
      ∃ t, exec (.probeReplyEnd dt reply) s = .next t ∧
        State.SelectedFrom { s.elapse dt with probes := t.probes } t ∧
        t.probes.outcomes = s.probes.outcomes ∧ t.probes.deltaH = s.probes.deltaH ∧
        (∀ x, x ≠ p → t.probes.record x = s.probes.record x) ∧
        (judgeReply 2 readKind reply = .good p.kindCode →
          t.probes.record p = { s.probes.record p with identity := .confirmed } ∧
          t.probes.exchange = some ⟨q, true, 0, .due (t.now + 5)⟩ ∧ t.probes.queue = rest) ∧
        (∀ kind, judgeReply 2 readKind reply = .good kind → kind ≠ p.kindCode →
          t.probes.record p = { s.probes.record p with identity := .failed, quality := .fault } ∧
          t.probes.exchange = some ⟨q, true, 0, .due (t.now + 5)⟩ ∧ t.probes.queue = rest) ∧
        ((∀ kind, judgeReply 2 readKind reply ≠ .good kind) → repeats < 2 →
          t.probes = { s.probes with exchange := some ⟨p, true, repeats + 1, .due (t.now + 5)⟩ }) ∧
        ((∀ kind, judgeReply 2 readKind reply ≠ .good kind) → 2 ≤ repeats →
          t.probes.record p = { s.probes.record p with identity := .failed, quality := .fault } ∧
          t.probes.exchange = some ⟨q, true, 0, .due (t.now + 5)⟩ ∧ t.probes.queue = rest))) ∧
  (∀ (s u : State) (dt : Nat) (p : ProbeId) (repeats closes : Nat) (reply : List LinkByte) (c : Instr)
      (confirmed : Bool),
    s.startUp.step = .identify → s.probes.exchange = some ⟨p, true, repeats, .window closes⟩ → s.probes.queue = [] →
    ((c = .noReply dt ∧ u = s.reach dt closes ∧ confirmed = false) ∨
      (c = .probeReplyEnd dt reply ∧ u = s.elapse dt ∧ reply ≠ [] ∧ closes ≤ s.now + dt + 20 ∧
        s.now + dt ≤ closes + 12 ∧
        ((∃ kind, judgeReply 2 readKind reply = .good kind ∧ confirmed = decide (kind = p.kindCode)) ∨
          ((∀ kind, judgeReply 2 readKind reply ≠ .good kind) ∧ 2 ≤ repeats ∧ confirmed = false)))) →
    ∃ t, exec c s = .next t ∧ State.SameBut [.startUp, .probes, .line, .peers, .screen, .report] u t ∧
      t.startUp = { u.startUp with step := .listen, stepBegan := t.now } ∧ t.line.idle = false ∧
      t.probes.nextCycle = some (t.now + 1000) ∧
      (∀ x, (t.probes.record x).identity = (if x = p then (if confirmed then .confirmed else .failed)
          else (s.probes.record x).identity) ∧
        (t.probes.record x).quality = (if x = p ∧ confirmed = false then .fault else (s.probes.record x).quality)) ∧
      (∀ q rest, (ProbeId.inOrder.filter fun x => (t.probes.record x).polled) = q :: rest →
        t.probes.exchange = some ⟨q, false, 0, .due (t.now + 5)⟩ ∧ t.probes.queue = rest ∧
        t.probes.outcomes = []) ∧
      ((ProbeId.inOrder.filter fun x => (t.probes.record x).polled) = [] → t.probes.exchange = none)) ∧
  (∀ (s : State) (dt : Nat) (p : ProbeId) (identify : Bool) (repeats closes : Nat) (reply : List LinkByte),
    s.probes.exchange = some ⟨p, identify, repeats, .window closes⟩ →
    (s.now + dt + 20 < closes ∨ closes + 12 < s.now + dt) →
    exec (.probeReplyEnd dt reply) s = .next (s.elapse dt))

/-- A full READ reply with a parity error in any byte is a parity error, one whose content fails is malformed, and any
other is good (R7); the content passes by R8: the check byte is 255 less the sum of the other three modulo 256, over
range and under range are not reported together, and a reading reported neither way lies from 0 to 9,999; over range
gives 9,999 and under range 0. A good sample is converted by adding the record's offset, and held at 0 below and at
9,999 above (R9). Bytes after a reply's full length, four for READ and two for IDENTIFY, are no part of it (R6), fewer
make it malformed (R7), and an IDENTIFY reply passes when its check byte is 255 less the kind code it carries (R14). -/
def Obligations.SamplesAreCheckedAndConverted : Prop :=
  (∀ (high low status check : Byte) (parity stop : Fin 4 → Bool) (reading : Nat) (mark : AtLimit)
        (result : ReplyResult (Nat × AtLimit)) (clean : Prop),
      result = judgeReply 4 readSample [⟨high, parity 0, stop 0⟩, ⟨low, parity 1, stop 1⟩, ⟨status, parity 2, stop 2⟩,
        ⟨check, parity 3, stop 3⟩] →
      (clean ↔ (∀ i, stop i = true) ∧ parity 0 = !oddOnes high ∧ parity 1 = !oddOnes low ∧
        parity 2 = !oddOnes status ∧ parity 3 = !oddOnes check) →
      (result = .parityError ↔ ¬ clean) ∧
      (result = .malformed ↔ clean ∧ ∀ r m, result ≠ .good (r, m)) ∧
      (result = .good (reading, mark) ↔ clean ∧
        check.toNat = 255 - (high.toNat + low.toNat + status.toNat) % 256 ∧
        ((status.getLsbD 0 = true ∧ status.getLsbD 1 = false ∧ reading = 9999 ∧ mark = .over) ∨
         (status.getLsbD 0 = false ∧ status.getLsbD 1 = true ∧ reading = 0 ∧ mark = .under) ∨
         (status.getLsbD 0 = false ∧ status.getLsbD 1 = false ∧ reading = high.toNat * 256 + low.toNat ∧
           reading ≤ 9999 ∧ mark = .clear)))) ∧
  (∀ (offset : Int) (reading : Nat),
      ((reading : Int) + offset < 0 → toDatum offset reading = 0) ∧
      (9999 < (reading : Int) + offset → toDatum offset reading = 9999) ∧
      (0 ≤ (reading : Int) + offset → (reading : Int) + offset ≤ 9999 →
        (toDatum offset reading : Int) = (reading : Int) + offset)) ∧
  (∀ (reply more : List LinkByte),
      (reply.length = 4 → judgeReply 4 readSample (reply ++ more) = judgeReply 4 readSample reply) ∧
      (reply.length = 2 → judgeReply 2 readKind (reply ++ more) = judgeReply 2 readKind reply) ∧
      ((∀ b ∈ reply, parityError b = false) →
        (reply.length < 4 → judgeReply 4 readSample reply = .malformed) ∧
        (reply.length < 2 → judgeReply 2 readKind reply = .malformed))) ∧
  (∀ (kind check : Byte) (parity stop : Fin 2 → Bool) (n : Nat),
      judgeReply 2 readKind [⟨kind, parity 0, stop 0⟩, ⟨check, parity 1, stop 1⟩] = .good n ↔
        (∀ i, stop i = true) ∧ parity 0 = !oddOnes kind ∧ parity 1 = !oddOnes check ∧
          check.toNat = 255 - kind.toNat ∧ n = kind.toNat)

/-- A byte outside a reply window changes no record, ends no exchange and is counted nowhere: only time passes (R4).
-/
def Obligations.ProbeByteIsDiscarded : Prop :=
  ∀ (s : State) (dt : Nat) (byte : LinkByte), ∃ t, exec (.probeByteDiscarded dt byte) s = .next t ∧
    State.SameBut [.startUp, .peers, .screen, .report] { s with now := s.now + dt } t ∧
    t.startUp = { s.startUp with runClock := t.startUp.runClock } ∧
    (∀ a, t.peers.get a = { s.peers.get a with age := (t.peers.get a).age }) ∧
    t.screen = { s.screen with forwardMs := t.screen.forwardMs } ∧
    t.report.accumulated = s.report.accumulated ∧
    t.report = { s.report with counts := t.report.counts, aside := t.report.aside }

/-- The last exchange of a cycle ends, by NO_REPLY with a miss or by PROBE_REPLY_END with the sample of a good reply or
a miss, and the cycle completes: every polled record is graded from its outcome by R10 and R12, every level follows its
quality (R11), ΔH is formed from the levels just set (R13), the own entry takes the bay level and the credit (R45), and
after the end of start-up a STATUS with the own entry and the three at-limit marks is placed (R46). The differential
timer (R118), the interval timer (R119) and the timers of the blinded flag (R130) are started, let run or stopped by
that ΔH. A pump in PROVING or RUNNING that finds the bay level at or below the cut-out level goes to STOPPING at once,
or through it to READY with the feedback absent (R90, R91). The moments a reply may end at are log entry 5's. -/
def Obligations.CompletionGradesTheRecords : Prop :=
  ∀ (s u : State) (dt : Nat) (q : ProbeId) (repeats closes : Nat) (reply : List LinkByte) (c : Instr)
      (o : ProbeOutcome),
    s.probes.exchange = some ⟨q, false, repeats, .window closes⟩ → s.probes.queue = [] →
    ((c = .noReply dt ∧ u = s.reach dt closes ∧ o = .miss) ∨
      (c = .probeReplyEnd dt reply ∧ u = s.elapse dt ∧ reply ≠ [] ∧ closes ≤ s.now + dt + 20 ∧
        s.now + dt ≤ closes + 12 ∧
        ((∃ reading mark, judgeReply 4 readSample reply = .good (reading, mark) ∧
            o = .sample (toDatum (s.probes.record q).offset reading) mark) ∨
          ((∀ reading mark, judgeReply 4 readSample reply ≠ .good (reading, mark)) ∧ 2 ≤ repeats ∧ o = .miss)))) →
    ∃ t, exec c s = .next t ∧
      State.SameBut [.probes, .line, .peers, .staging, .pump, .screen, .weir, .alarms, .report] u t ∧
      (∀ k, k ∉ [.a1, .a5, .a6, .a9] → t.alarm k = s.alarm k) ∧
      (∀ a, s.startUp.address ≠ some a → t.peers.get a = u.peers.get a) ∧
      t.probes.exchange = none ∧ t.probes.nextCycle = s.probes.nextCycle ∧
      (∀ p, (t.probes.record p).fitted = (s.probes.record p).fitted ∧
        (t.probes.record p).offset = (s.probes.record p).offset ∧
        (t.probes.record p).identity = (s.probes.record p).identity) ∧
      (∀ p, (s.probes.record p).polled = false →
        t.probes.record p = { s.probes.record p with level := (t.probes.record p).level }) ∧
      (∀ p l m, (s.probes.record p).polled = true →
        ({ s.probes with outcomes := s.probes.outcomes ++ [(q, o)] } : ProbeUnit).outcome p = .sample l m →
        (t.probes.record p).quality = .good ∧ (t.probes.record p).misses = 0 ∧
        (t.probes.record p).lastGood = some l ∧ (t.probes.record p).atLimit = m) ∧
      (∀ p, (s.probes.record p).polled = true →
        ({ s.probes with outcomes := s.probes.outcomes ++ [(q, o)] } : ProbeUnit).outcome p = .miss →
        (t.probes.record p).misses = min 4 ((s.probes.record p).misses + 1) ∧
        (t.probes.record p).lastGood = (s.probes.record p).lastGood ∧
        (t.probes.record p).atLimit = (s.probes.record p).atLimit ∧
        ((s.probes.record p).misses < 3 → (s.probes.record p).quality = .unset →
          (t.probes.record p).quality = .unset) ∧
        ((s.probes.record p).misses < 3 →
          (s.probes.record p).quality = .good ∨ (s.probes.record p).quality = .held →
          (t.probes.record p).quality = .held) ∧
        (3 ≤ (s.probes.record p).misses ∨ (s.probes.record p).quality = .fault →
          (t.probes.record p).quality = .fault)) ∧
      (∀ p, ((t.probes.record p).quality = .good ∨ (t.probes.record p).quality = .held →
          (t.probes.record p).level = (t.probes.record p).lastGood) ∧
        ((t.probes.record p).quality = .unset ∨ (t.probes.record p).quality = .fault →
          (t.probes.record p).level = none)) ∧
      (∀ x y, t.channelLevel = some x → t.bayLevel = some y → t.probes.deltaH = some (x - y)) ∧
      (t.channelLevel = none ∨ t.bayLevel = none → t.probes.deltaH = none) ∧
      (∀ own, s.startUp.address = some own →
        (t.peers.get own).level = t.bayLevel ∧ (t.peers.get own).credit = t.pump.credit ∧
        (s.ended → ∃ f, f = Frame.status (t.peers.get own) t.probes.bay.atLimit t.probes.channel.atLimit
            t.probes.weir.atLimit ∧
          (t.line.status.frame = some f ∨ t.line.status.next = some f))) ∧
      t.screen = { u.screen with
        differentialSince := t.screen.differentialSince, intervalAt := t.screen.intervalAt
        blindSetSince := t.screen.blindSetSince, blindClearSince := t.screen.blindClearSince } ∧
      (∀ g d, s.settings.screen = some g → t.probes.deltaH = some d →
        t.screen.differentialSince = (if g.rakeOn ≤ d then some (s.screen.differentialSince.getD t.now) else none) ∧
        t.screen.blindSetSince = (if g.blind ≤ d then some (s.screen.blindSetSince.getD t.now) else none) ∧
        t.screen.blindClearSince = (if d + 50 < g.blind then some (s.screen.blindClearSince.getD t.now) else none)) ∧
      (s.settings.screen = none ∨ t.probes.deltaH = none →
        t.screen.differentialSince = none ∧ t.screen.blindSetSince = none ∧ t.screen.blindClearSince = none) ∧
      (¬ s.ended → t.screen.intervalAt = s.screen.intervalAt) ∧
      (s.ended → (s.settings.screen = none →
          t.screen.intervalAt = some (s.screen.intervalAt.getD (t.now + 3600000))) ∧
        ∀ g, s.settings.screen = some g →
          (g.interval ≠ 0 → t.screen.intervalAt = some (s.screen.intervalAt.getD (t.now + g.interval * 60000))) ∧
          (g.interval = 0 → t.probes.deltaH = none →
            t.screen.intervalAt = some (s.screen.intervalAt.getD (t.now + 1800000))) ∧
          (g.interval = 0 → t.probes.deltaH.isSome → t.screen.intervalAt = none)) ∧
      (∀ x l, s.ended → s.pump.Sound → s.pump.state = .proving ∨ s.pump.state = .running → t.bayLevel = some x →
        s.settings.levels = some l → x ≤ l.cutOut → s.general.minOff ≠ 0 →
        t.contactor = false ∧ t.pump.minOff = some (t.now + s.general.minOff * 1000) ∧
        (s.pump.feedback = true → t.pump.state = .stopping ∧ t.pump.releaseTime = some (t.now + 2000)) ∧
        (s.pump.feedback = false → t.pump.state = .ready))

/-! ### Floats -/

/-- The float loops are excited in turn, each for 20 ms: STOP at the start of a 500 ms period, START 100 ms and HIGH 200
ms into it (R16). FLOAT_EXCITATION of the float whose turn it is comes when its pulse has ended, the model's moment (log
entry 4), and of any other lets time pass only. A state changes when two consecutive readings agree and differ from it
(R17). At a change of a state the contradiction flag is formed from the states of HIGH and STOP, and every float
presents IGNORED under it or with a wire fault, and its state otherwise (R18). A change of what HIGH presents forms A1,
during start-up too (R69, R156); before the end of start-up nothing else changes. STOP coming to present OPEN in PROVING
or RUNNING sends the pump to STOPPING at once, or through it to READY with the feedback absent (R90, R91); outside float
mode nothing else that it presents does so. -/
def Obligations.FloatReadingsAreDebouncedAndPresented : Prop :=
  (∀ (s : State) (f : FloatId), s.excited = some f ↔
    f = s.floats.turn ∧ s.floats.pulseAt ≤ s.now ∧ s.now < s.floats.pulseAt + 20) ∧
  (∀ (s : State) (dt : Nat) (f : FloatId) (reading : FloatReading),
    (f ≠ s.floats.turn → exec (.floatExcitation dt f reading) s = .next (s.elapse dt)) ∧
    (f = s.floats.turn → ∃ t u, exec (.floatExcitation dt f reading) s = .next t ∧
      u = s.reach dt (s.floats.pulseAt + 20) ∧
      State.SameBut [.floats, .line, .peers, .staging, .pump, .alarms, .report] u t ∧
      (f = .stop → t.floats.turn = .start ∧ t.floats.pulseAt = s.floats.pulseAt + 100) ∧
      (f = .start → t.floats.turn = .high ∧ t.floats.pulseAt = s.floats.pulseAt + 100) ∧
      (f = .high → t.floats.turn = .stop ∧ t.floats.pulseAt = s.floats.pulseAt + 300) ∧
      (¬ s.ended → State.SameBut [.floats, .staging] u t ∧ t.staging = { s.staging with a1 := t.staging.a1 } ∧
        (t.floats.high.presented = s.floats.high.presented → t.staging = s.staging)) ∧
      (t.floats.high.presented ≠ s.floats.high.presented → t.staging.a1 = t.wellHigh ∧
        (s.ended → (t.alarm .a1).abnormal = t.staging.a1)) ∧
      (∀ k, k ∉ [.a1, .a5, .a6, .a9] → t.alarm k = s.alarm k) ∧
      (∀ a, s.startUp.address ≠ some a → t.peers.get a = u.peers.get a) ∧
      (s.ended → (t.alarm .a9).abnormal = t.condition .a9) ∧
      (t.floats.record f).lastReading = some reading ∧
      ((s.floats.record f).lastReading = some reading → (t.floats.record f).state = reading) ∧
      ((s.floats.record f).lastReading ≠ some reading → (t.floats.record f).state = (s.floats.record f).state) ∧
      (∀ g, g ≠ f → (t.floats.record g).state = (s.floats.record g).state ∧
        (t.floats.record g).lastReading = (s.floats.record g).lastReading) ∧
      ((t.floats.record f).state = (s.floats.record f).state →
        t.floats.contradiction = s.floats.contradiction ∧
        ∀ g, (t.floats.record g).presented = (s.floats.record g).presented) ∧
      ((t.floats.record f).state ≠ (s.floats.record f).state →
        t.floats.contradiction = (decide (t.floats.high.state = .closed) && decide (t.floats.stop.state = .opened)) ∧
        ∀ g, (t.floats.record g).presented =
          if t.floats.contradiction then .ignored
          else match (t.floats.record g).state with
            | .wireFault => .ignored
            | .opened => .opened
            | .closed => .closed) ∧
      (s.ended → s.pump.Sound → s.pump.state = .proving ∨ s.pump.state = .running →
        (s.floats.stop.presented ≠ .opened → t.floats.stop.presented = .opened → s.general.minOff ≠ 0 →
          t.contactor = false ∧ t.pump.minOff = some (t.now + s.general.minOff * 1000) ∧
          (s.pump.feedback = true → t.pump.state = .stopping ∧ t.pump.releaseTime = some (t.now + 2000)) ∧
          (s.pump.feedback = false → t.pump.state = .ready)) ∧
        (s.staging.floatMode = false →
          (s.floats.stop.presented = .opened ∨ t.floats.stop.presented ≠ .opened) → t.pump.state = s.pump.state))))

/-! ### The house line: attempts -/

/-- LINE_IDLE on a line not held: the line is idle, and a station with its transmitter enabled offers the frame of its
lowest-class filled slot, whose start bit ends the idle (R21, R26). START_BIT_READ ends the idle. LINE_IDLE after
LINE_HELD ends the isolation of a station whose transmitter is enabled: line held clears (R39), the isolated start
delay is idle (R65), no unclaimed start wish stands (R66), and A10 is normal (R40). -/
def Obligations.IdleLineTakesTheLowestSlot : Prop :=
  (∀ (s : State) (dt : Nat), s.reading →
      (s.line.attempt = none → s.line.lineHeld = false → ∃ t, exec (.lineIdle dt) s = .next t ∧
        State.SelectedFrom { s.elapse dt with line := { s.line with idle := true } } t ∧
        (∀ i, s.ended → s.line.txEnabled = true → t.line.lowestFilled = some i →
          t.line.attempt = some ⟨i, false⟩ ∧ t.line.idle = false) ∧
        (¬ s.ended ∨ s.line.txEnabled = false ∨ t.line.lowestFilled = none →
          t.line.attempt = none ∧ t.line.idle = true)) ∧
      exec (.startBitRead dt) s = .next { s.elapse dt with line := { s.line with idle := false } }) ∧
  (∀ (s : State) (dt : Nat), s.ended → s.line.txEnabled = true → s.line.lineHeld = true → s.line.attempt = none →
      ∃ t, exec (.lineIdle dt) s = .next t ∧
        State.SameBut [.line, .peers, .staging, .pump, .alarms, .report] (s.elapse dt) t ∧
        (∀ k, k ∉ [.a1, .a5, .a6, .a10] → t.alarm k = s.alarm k) ∧
        (∀ a, s.startUp.address ≠ some a → t.peers.get a = (s.elapse dt).peers.get a) ∧
        t.line.lineHeld = false ∧ t.line.txEnabled = true ∧ t.isolated = false ∧
        t.staging.startDelay = .idle ∧ t.staging.startWish ≠ .unclaimed ∧ (t.alarm .a10).abnormal = false)

/-- ARBITRATION_LOST ends the attempt and the frame stays in its slot unless a next frame replaces it; FRAME_COMMITTED
makes it committed (R27, R29). Either way the start bit was read back dominant, which sets the not-following count to
0 (R36). NOT_FOLLOWING below the fourth: the attempt ends, the frame stays in its slot or gives way to its next frame,
the line is taken as not idle, the not-following count goes up by one (R36) and a line error is counted (R29, R34), the
model's reading of those rules together (log entry 31). ARBITRATION_READBACK_FAULT: the attempt ends, the start bit had
been read dominant, and a line error is counted (R34, R36). -/
def Obligations.AttemptsEndInTheArbitrationField : Prop :=
  (∀ (s : State) (dt : Nat) (i : SlotId), s.line.attempt = some ⟨i, false⟩ →
      exec (.arbitrationLost dt) s = .next { s.elapse dt with
        line := { s.line.setSlot i (s.line.slot i).dropped with attempt := none, notFollowingCount := 0 } } ∧
      exec (.frameCommitted dt) s = .next { s.elapse dt with
        line := { s.line with attempt := some ⟨i, true⟩, notFollowingCount := 0 } }) ∧
  (∀ (s : State) (dt : Nat) (i : SlotId), s.line.attempt = some ⟨i, false⟩ → s.line.idle = false →
      (s.line.notFollowingCount < 3 → ∃ t, exec (.notFollowing dt) s = .next t ∧
        State.SelectedFrom { s.elapse dt with
          line := { s.line.setSlot i (s.line.slot i).dropped with attempt := none }
          report := t.report } t ∧
        t.line.attempt = none ∧ t.line.idle = false ∧ t.line.notFollowingCount = s.line.notFollowingCount + 1 ∧
        (s.report.interval.isSome → t.report.accumulated = { (s.elapse dt).report.accumulated with
          lineErrors := (s.elapse dt).report.accumulated.lineErrors.add 65535 1 }) ∧
        t.report = { (s.elapse dt).report with aside := t.report.aside, itemGone := t.report.itemGone }) ∧
      (∃ t, exec (.arbitrationReadbackFault dt) s = .next t ∧
        State.SelectedFrom { s.elapse dt with
          line := { s.line.setSlot i (s.line.slot i).dropped with attempt := none }
          report := t.report } t ∧
        t.line.attempt = none ∧ t.line.notFollowingCount = 0 ∧
        (s.report.interval.isSome → t.report.accumulated = { (s.elapse dt).report.accumulated with
          lineErrors := (s.elapse dt).report.accumulated.lineErrors.add 65535 1 }) ∧
        t.report = { (s.elapse dt).report with aside := t.report.aside, itemGone := t.report.itemGone }))

/-- FRAME_COMPLETE of the station's own CLAIM: the guard is set (R75). In WAITING or FALLBACK the start is made: the aged
start list takes the run clock's time as its newest entry, a start is counted, the contactor closes, the pump is in
PROVING with its window open, or LOCKED if feedback is already there (R78, R83, R84, R86). In WITHDRAWING the claim is
spent: the state returns to READY with no start (R79), or is LOCKED for the feedback without command that waited for the
claim (R92). A placed hand claim becomes none, and nothing starts (R110). A claim of a station that has left CLAIMING is
spent and changes nothing else of the pump (R108, R111), but for such a waiting lockout, which is taken (log entry 12). That
in WAITING or FALLBACK an earlier claim, withdrawn too late, makes the start as well is the model's choice (log entry 45). -/
def Obligations.OwnClaimCompletes : Prop :=
  ∀ (s : State) (dt : Nat) (f : Frame), s.line.attempt = some ⟨.claim, true⟩ → s.line.claim.frame = some f →
    s.pump.Sound →
    ∃ t, exec (.frameComplete dt) s = .next t ∧
      State.SameBut [.line, .peers, .staging, .pump, .alarms, .report] (s.elapse dt) t ∧
      State.AroundThePump [.a5, .a6] { s.elapse dt with line := { s.line with conflictAborts := 0 } } t ∧
      t.pump.lasting = { s.pump.lasting with guard := t.pump.guard, starts := t.pump.starts } ∧
      t.line.claim = ⟨s.line.claim.next, none⟩ ∧ t.line.conflictAborts = 0 ∧ t.line.claimWithdrawal = false ∧
      t.pump.guard = (if s.general.stagger = 0 then none else some (s.now + dt + s.general.stagger * 1000)) ∧
      t.pump.failures = s.pump.failures ∧
      (s.pump.claimPhase = some .waiting ∨ s.pump.claimPhase = some .fallback →
        (∃ aged, aged = s.pump.starts.filter (fun x => decide ((s.elapse dt).startUp.runClock - x < 3600)) ∧
          t.pump.starts = (if s.general.startsPerHour ≤ aged.length then aged.tail else aged) ++
            [(s.elapse dt).startUp.runClock]) ∧
        (s.pump.feedback = false → t.pump.state = .proving ∧ t.contactor = true ∧
          t.pump.window = some ⟨s.now + dt, s.now + dt + s.general.proofTime * 1000⟩ ∧
          (s.report.interval.isSome → t.report.accumulated = { (s.elapse dt).report.accumulated with
            starts := (s.elapse dt).report.accumulated.starts.add 255 1 })) ∧
        (s.pump.feedback = true → t.pump.state = .locked ∧ t.pump.lockCause = some .earlyProof ∧
          t.contactor = false)) ∧
      (s.pump.claimPhase ≠ some .waiting → s.pump.claimPhase ≠ some .fallback →
        t.pump.starts = s.pump.starts ∧ t.report.accumulated = (s.elapse dt).report.accumulated) ∧
      (s.pump.claimPhase = some .withdrawing → t.contactor = false ∧
        (s.pump.lockPending = false → t.pump.state = .ready) ∧
        (s.pump.lockPending = true → t.pump.state = .locked ∧ t.pump.lockCause = some .withoutCommand ∧
          t.pump.lockPending = false)) ∧
      (s.pump.handClaim = some .placed →
        t.pump = { s.pump with guard := t.pump.guard, handClaim := some .noClaim }) ∧
      (s.pump.state ≠ .claiming → s.pump.handClaim ≠ some .placed →
        (s.pump.lockPending = false ∨ s.pump.state = .locked → t.pump = { s.pump with guard := t.pump.guard }) ∧
        (s.pump.lockPending = true → s.pump.state ≠ .locked → t.pump.state = .locked ∧
          t.pump.lockCause = some .withoutCommand))

/-- FRAME_COMPLETE of the other frames: the slot empties or takes its next frame and the conflict-abort count returns
to 0 (R29, R37). A STATUS clears the own entry's isolated flag once isolation has ended, which places a STATUS (R45, R46), and
one that published HAND places a hand claim that is due, with the contactor closed and the start stagger not passed since the Hand start,
and gives it up otherwise (R110). FRAME_COMPLETE of a REPORT frame: a standing withdrawal ends, and the selection that
follows fills the emptied slot (R177, R178). An item dropped meanwhile removes nothing (R179); one that is still pending
is removed by its owner: a raise leaves with its counts taken off and the kind is armed again only if its condition has been normal for 60 s
(R160, R161); a clear leaves (R162); the oldest spill record or closed interval leaves its list (R152, R179). -/
def Obligations.OtherFramesComplete : Prop :=
  (∀ (s : State) (dt : Nat) (f : Frame), s.line.idle = false →
      (s.line.attempt = some ⟨.notice, true⟩ → s.line.notice.frame = some f → ∃ t,
        exec (.frameComplete dt) s = .next t ∧
        State.SelectedFrom { s.elapse dt with
          line := { s.line with notice := ⟨s.line.notice.next, none⟩, attempt := none, conflictAborts := 0 } } t ∧
        t.line.attempt = none) ∧
      (s.line.attempt = some ⟨.status, true⟩ → s.line.status.frame = some f → ∃ t,
        exec (.frameComplete dt) s = .next t ∧
        State.SameBut [.line, .peers, .pump, .report] (s.elapse dt) t ∧
        (∀ own, s.ended → s.startUp.address = some own → s.isolated = false → (s.peers.get own).isolated = true →
          t.line.status = ⟨some (.status (t.peers.get own) s.probes.bay.atLimit s.probes.channel.atLimit
            s.probes.weir.atLimit), none⟩) ∧
        (s.isolated = true ∨ (∀ own, s.startUp.address = some own → (s.peers.get own).isolated = false) →
          t.line.status = ⟨s.line.status.next, none⟩) ∧
        t.line.conflictAborts = 0 ∧ t.line.attempt = none ∧
        t.line.notice = s.line.notice ∧
        (∀ a, s.startUp.address ≠ some a → t.peers.get a = (s.elapse dt).peers.get a) ∧
        (∀ own, s.startUp.address = some own → t.peers.get own =
          { s.peers.get own with isolated := s.isolated && (s.peers.get own).isolated }) ∧
        t.pump = { s.pump with handClaim := t.pump.handClaim } ∧
        (∀ e b c w, f = .status e b c w → e.summary = .hand → s.pump.handClaim = some .due →
          (s.contactor = true → (∃ m, s.pump.handStart = some m ∧ s.now + dt ≤ m + s.general.stagger * 1000) →
            t.pump.handClaim = some .placed ∧
            t.line.claim.frame = some (.claim s.staging.dAuto s.pump.credit)) ∧
          (s.contactor = false ∨ (∀ m ∈ s.pump.handStart, m + s.general.stagger * 1000 < s.now + dt) →
            t.pump.handClaim = some .noClaim ∧ t.line.claim = s.line.claim)) ∧
        (∀ e b c w, f = .status e b c w → (e.summary ≠ .hand ∨ s.pump.handClaim ≠ some .due) →
          t.pump = s.pump ∧ t.line.claim = s.line.claim))) ∧
  (∀ (s : State) (dt : Nat) (f : Frame), s.line.attempt = some ⟨.report, true⟩ → s.line.report.frame = some f →
      ∃ t, exec (.frameComplete dt) s = .next t ∧
        State.SameBut [.line, .weir, .alarms, .report] (s.elapse dt) t ∧
        t.line.conflictAborts = 0 ∧ t.line.claim = s.line.claim ∧ t.line.notice = s.line.notice ∧
        t.line.status = s.line.status ∧ t.line.reportWithdrawal = false ∧
        t.report = { (s.elapse dt).report with queue := t.report.queue, itemGone := t.report.itemGone } ∧
        (s.line.report.next = none → t.line.report.next = none ∧ t.report.itemGone = false ∧
          t.line.report.frame = if s.report.townPresent then t.selected.bind t.itemFrame else none) ∧
        (∀ g, s.line.report.next = some g →
          t.line.report.frame = some g ∨ t.line.report.frame = t.selected.bind t.itemFrame) ∧
        (s.report.itemGone = true → t.alarms = s.alarms ∧ t.weir = s.weir ∧ t.report.queue = s.report.queue) ∧
        (∀ k r repeats chatter, f = .alarmRaise k r repeats chatter → s.report.itemGone = false →
          t.alarm k = { s.alarm k with
            raise := none
            repeats := (s.alarm k).repeats - repeats
            chatter := (s.alarm k).chatter - chatter
            armed := decide (∃ m ∈ (s.alarm k).normalSince, m + 60000 ≤ s.now + dt) } ∧
          (∀ j, j ≠ k → t.alarm j = s.alarm j) ∧ t.weir = s.weir ∧ t.report.queue = s.report.queue) ∧
        (∀ k m, f = .alarmClear k m → s.report.itemGone = false → t.alarm k = { s.alarm k with clear := none } ∧
          (∀ j, j ≠ k → t.alarm j = s.alarm j) ∧ t.weir = s.weir ∧ t.report.queue = s.report.queue) ∧
        (∀ r, f = .spillRecord r → s.report.itemGone = false →
          t.weir = { s.weir with log := s.weir.log.tail } ∧ t.alarms = s.alarms ∧ t.report.queue = s.report.queue) ∧
        (∀ r, f = .intervalReport r → s.report.itemGone = false →
          t.report.queue = s.report.queue.tail ∧ t.alarms = s.alarms ∧ t.weir = s.weir))

/-! ### The house line: protections -/

/-- READBACK_MISMATCH: the attempt ends with a line error, and the conflict-abort count goes up by one; at the third
the transmitter is disabled and address conflict latched (R34, R37). The frame stays in its slot or gives way to its next
frame (R29), but standing withdrawals are taken. That of the REPORT frame empties its slot, and a selection follows
(R178). That of the CLAIM frame empties its slot too, and below the third: a claim in WITHDRAWING returns to READY, or to
LOCKED for a waiting lockout (R79, R92); one in FALLBACK ends in the unclaimed start of a station that is not isolated
(R80, R83, R86); a placed hand claim becomes none (R110); and outside CLAIMING the pump stands. At the third, what a
withdrawal in FALLBACK meets first, and so whether the start is made, is a free value of the model (log entry 11). -/
def Obligations.ReadbackMismatchEndsTheAttempt : Prop :=
  ∀ (s : State) (dt : Nat) (i : SlotId), s.line.attempt = some ⟨i, true⟩ → s.line.idle = false →
    ∃ t, exec (.readbackMismatch dt) s = .next t ∧
      State.SameBut [.line, .peers, .staging, .pump, .alarms, .report] (s.elapse dt) t ∧
      (∀ k, k ∉ [.a1, .a5, .a6, .a10] → t.alarm k = s.alarm k) ∧
      (∀ a, s.startUp.address ≠ some a → t.peers.get a = (s.elapse dt).peers.get a) ∧
      t.line.attempt = none ∧ t.line.conflictAborts = s.line.conflictAborts + 1 ∧
      t.line.claimWithdrawal = false ∧
      (s.report.interval.isSome → t.report.accumulated.lineErrors =
        (s.elapse dt).report.accumulated.lineErrors.add 65535 1) ∧
      (s.line.conflictAborts < 2 → s.line.claimWithdrawal = false →
        State.SelectedFrom { s.elapse dt with
          line := { s.line.setSlot i (s.line.slot i).dropped with
            attempt := none, conflictAborts := s.line.conflictAborts + 1 }
          report := t.report } t ∧
        (s.report.interval.isSome → t.report.accumulated = { (s.elapse dt).report.accumulated with
          lineErrors := (s.elapse dt).report.accumulated.lineErrors.add 65535 1 }) ∧
        t.report = { (s.elapse dt).report with aside := t.report.aside, itemGone := t.report.itemGone }) ∧
      (s.line.reportWithdrawal = true → t.line.reportWithdrawal = false ∧ t.line.report.next = none ∧
        t.line.report.frame = if s.report.townPresent then t.selected.bind t.itemFrame else none) ∧
      (s.line.claimWithdrawal = true → s.pump.Sound → s.line.conflictAborts < 2 →
        (s.pump.state = .claiming → s.pump.claimPhase = some .withdrawing → s.staging.startWish = .notHeld →
          t.line.claim = .empty ∧ t.contactor = false ∧ t.pump.starts = s.pump.starts ∧
          (s.pump.lockPending = false → t.pump.state = .ready) ∧
          (s.pump.lockPending = true → t.pump.state = .locked ∧ t.pump.lockCause = some .withoutCommand)) ∧
        (s.pump.claimPhase = some .fallback → s.isolated = false →
          t.line.claim = .empty ∧ t.pump.starts.getLast? = some t.startUp.runClock ∧ t.pump.guard = s.pump.guard ∧
          (s.pump.feedback = false → t.pump.state = .proving ∧ t.contactor = true) ∧
          (s.pump.feedback = true → t.pump.state = .locked ∧ t.pump.lockCause = some .earlyProof ∧
            t.contactor = false)) ∧
        (s.pump.handClaim = some .placed → t.line.claim = .empty ∧
          t.pump = { s.pump with handClaim := some .noClaim }) ∧
        (s.pump.state ≠ .claiming → s.pump.handClaim ≠ some .placed → s.pump.lockPending = false →
          s.pump.state ≠ .ready ∨ s.staging.startWish = .notHeld → t.line.claim = .empty ∧ t.pump = s.pump)) ∧
      (s.line.conflictAborts < 2 → t.line.txEnabled = s.line.txEnabled ∧
        t.line.addressConflict = s.line.addressConflict) ∧
      (2 ≤ s.line.conflictAborts → t.line.txEnabled = false ∧ t.line.addressConflict = true ∧ t.isolated = true)

/-- A station becomes isolated by TX_HELD (R30, R35), by LINE_HELD (R39), by the fourth NOT_FOLLOWING (R36) or by
ADDRESS_CONFLICT (R38), and then: its own entry's isolated flag is set (R45), no claimed start wish stands and no
claim in WAITING or FALLBACK is left (R66, R81), and A10 is abnormal (R40). With the transmitter already disabled and no
attempt in progress, TX_HELD latches TX held or only lets time pass, a free value of the model (log entry 43). -/
def Obligations.IsolationIsTold : Prop :=
  (∀ (s : State) (dt : Nat), s.line.txEnabled = false → s.line.attempt = none → s.line.claimWithdrawal = false →
    s.line.reportWithdrawal = false →
    ∃ t, exec (.txHeld dt) s = .next t ∧ State.SelectedFrom { s.elapse dt with
      line := { s.line with txHeld := s.line.txHeld || Config.heldWhileDisabled } } t) ∧
  ∀ (s : State) (dt : Nat) (c : Instr), s.ended → s.line.txEnabled = true → s.line.lineHeld = false →
    (c = .txHeld dt ∨
      (c = .lineHeld dt ∧ s.line.attempt = none) ∨
      (c = .notFollowing dt ∧ s.line.notFollowingCount = 3 ∧ ∃ i, s.line.attempt = some ⟨i, false⟩) ∨
      (∃ cls payload own, c = .addressConflict dt cls payload ∧ s.startUp.address = some own ∧
        s.line.sending = false ∧ frameFault cls.toNat own.number payload = none)) →
    ∃ t, exec c s = .next t ∧ State.SameBut [.line, .peers, .staging, .pump, .alarms, .report] (s.elapse dt) t ∧
      (∀ k, k ∉ [.a1, .a5, .a6, .a10] → t.alarm k = s.alarm k) ∧
      (∀ a, s.startUp.address ≠ some a → t.peers.get a = (s.elapse dt).peers.get a) ∧
      t.isolated = true ∧ t.line.attempt = none ∧ t.line.conflictAborts = s.line.conflictAborts ∧
      (c = .txHeld dt → t.line.txEnabled = false ∧ t.line.txHeld = true ∧
        t.line.notFollowing = s.line.notFollowing ∧ t.line.addressConflict = s.line.addressConflict) ∧
      (c = .lineHeld dt → t.line.lineHeld = true ∧ t.line.txEnabled = true ∧ t.line.idle = false ∧
        t.line.txHeld = s.line.txHeld ∧ t.line.notFollowing = s.line.notFollowing ∧
        t.line.addressConflict = s.line.addressConflict) ∧
      (c = .notFollowing dt → t.line.txEnabled = false ∧ t.line.notFollowing = true ∧
        t.line.txHeld = s.line.txHeld ∧ t.line.addressConflict = s.line.addressConflict) ∧
      ((∃ cls payload, c = .addressConflict dt cls payload) → t.line.txEnabled = false ∧
        t.line.addressConflict = true ∧ t.line.txHeld = s.line.txHeld ∧
        t.line.notFollowing = s.line.notFollowing) ∧
      (∀ own, s.startUp.address = some own → (t.peers.get own).isolated = true) ∧
      t.staging.startWish ≠ .claimed ∧
      (s.pump.claimPhase = some .waiting ∨ s.pump.claimPhase = some .fallback → t.pump.state ≠ .claiming) ∧
      (t.alarm .a10).abnormal = true

/-! ### Frames received -/

/-- A frame discarded under R31 is a line error and changes nothing else but the line (R34): FRAME_DISCARDED, and a
STATUS, CLAIM, SPILL_NOTICE, ALARM_REPORT, SPILL_RECORD or INTERVAL_REPORT that fails a check. -/
def Obligations.DiscardedFrameIsALineError : Prop :=
  ∀ (s : State) (dt : Nat) (sender : BitVec 4) (payload : List Byte) (c : Instr), s.receives = true →
    ((∃ bits reason, c = .frameDiscarded dt bits ∧ hear bits = .discard reason) ∨
      (∃ cls reason, frameFault cls sender.toNat payload = some reason ∧
        (c, cls) ∈ [(.claim dt sender payload, 0), (.spillNotice dt sender payload, 1),
          (.status dt sender payload, 3), (.alarmReport dt sender payload, 4), (.spillRecord dt sender payload, 5),
          (.intervalReport dt sender payload, 6)])) →
    ∃ t, exec c s = .next t ∧
      State.SelectedFrom { s.elapse dt with line := s.line.afterFrame, report := t.report } t ∧
      t.line.attempt = none ∧ t.line.idle = false ∧
      t.report = { (s.elapse dt).report with aside := t.report.aside, itemGone := t.report.itemGone } ∧
      (s.report.interval.isSome → t.report.accumulated = { (s.elapse dt).report.accumulated with
        lineErrors := (s.elapse dt).report.accumulated.lineErrors.add 65535 1 })

/-- A STATUS from a peer (R33, R43, R44, R59): its entry becomes FRESH with age 0 and takes the fields the frame
carries, but for the start-limited and isolated flags; the claim mark clears; every other entry and mark stays; and
A12 stands as the digests now compare (R47). -/
def Obligations.StatusFillsTheEntry : Prop :=
  ∀ (s : State) (dt : Nat) (sender : BitVec 4) (payload : List Byte) (a : BayAddress),
    s.receives = true → frameFault 3 sender.toNat payload = none → sender.toNat = a.number →
    s.startUp.address ≠ some a →
    ∃ t, exec (.status dt sender payload) s = .next t ∧
      State.SameBut [.line, .peers, .staging, .alarms, .report] (s.elapse dt) t ∧
      t.line.apartFromReport = s.line.afterFrame.apartFromReport ∧ t.line.attempt = none ∧
      t.peers.get a = { s.peers.get a with
        presence := .fresh
        age := 0
        statusHeld := true
        level := (readStatus payload).level
        summary := (readStatus payload).summary
        auto := (readStatus payload).auto
        available := (readStatus payload).available
        restricted := (readStatus payload).restricted
        spillOpen := (readStatus payload).spillOpen
        credit := (readStatus payload).credit
        digest := (readStatus payload).digest } ∧
      (∀ b, b ≠ a → t.peers.get b = (s.elapse dt).peers.get b) ∧
      t.staging = { s.staging with claimMarks := t.staging.claimMarks } ∧
      t.staging.claimMarks.get a = none ∧
      (∀ b, b ≠ a → t.staging.claimMarks.get b = s.staging.claimMarks.get b) ∧
      (s.ended → (t.alarm .a12).abnormal = t.condition .a12) ∧
      (∀ k, k ≠ .a12 → t.alarm k = s.alarm k)

/-- A CLAIM from a peer (R33, R59, R75, R77): its entry is refreshed and otherwise kept, its claim mark takes the
credit it carries, the guard timer is set for the start stagger, and an own claim in WAITING or FALLBACK is withdrawn,
its slot empty and the pump READY; with the guard running nothing is claimed or started. -/
def Obligations.PeerClaimSetsGuardAndMark : Prop :=
  ∀ (s : State) (dt : Nat) (sender : BitVec 4) (payload : List Byte) (a : BayAddress),
    s.receives = true → frameFault 0 sender.toNat payload = none → sender.toNat = a.number →
    s.startUp.address ≠ some a → s.general.stagger ≠ 0 → s.pump.Sound →
    ∃ t, exec (.claim dt sender payload) s = .next t ∧
      State.SameBut [.line, .peers, .staging, .pump, .alarms, .report] (s.elapse dt) t ∧
      t.line.attempt = none ∧ t.line.idle = false ∧
      t.peers.get a = { s.peers.get a with presence := .fresh, age := 0 } ∧
      (∀ b, b ≠ a → s.startUp.address ≠ some b → t.peers.get b = (s.elapse dt).peers.get b) ∧
      t.pump.guard = some (s.now + dt + s.general.stagger * 1000) ∧
      t.staging.claimMarks.get a = some (claimCredit payload) ∧
      (∀ b, b ≠ a → t.staging.claimMarks.get b = s.staging.claimMarks.get b) ∧
      t.staging.noticeMarks = s.staging.noticeMarks ∧
      (∀ k, k ∉ [.a1, .a5, .a6, .a12] → t.alarm k = s.alarm k) ∧
      (s.pump.state = .claiming → s.pump.lockPending = false →
        s.pump.claimPhase = some .waiting ∨ s.pump.claimPhase = some .fallback →
        t.pump.state = .ready ∧ t.line.claim = .empty) ∧
      (s.pump.state = .ready → t.pump.state = .ready)

/-- A SPILL NOTICE, an ALARM REPORT, a SPILL RECORD or an INTERVAL REPORT from a peer refreshes its entry and leaves
the entry's other fields; the notice sets or clears the peer's notice mark, and the other three have no further effect
(R33, R43, R56). -/
def Obligations.OtherPeerFramesRefresh : Prop :=
  ∀ (s : State) (dt : Nat) (sender : BitVec 4) (payload : List Byte) (a : BayAddress) (c : Instr) (cls : Nat),
    s.receives = true → frameFault cls sender.toNat payload = none → sender.toNat = a.number →
    s.startUp.address ≠ some a →
    (c, cls) ∈ [(.spillNotice dt sender payload, 1), (.alarmReport dt sender payload, 4),
      (.spillRecord dt sender payload, 5), (.intervalReport dt sender payload, 6)] →
    ∃ t, exec c s = .next t ∧
      State.SameBut [.line, .peers, .staging, .alarms, .report] (s.elapse dt) t ∧
      t.line.apartFromReport = s.line.afterFrame.apartFromReport ∧ t.line.attempt = none ∧
      t.peers.get a = { s.peers.get a with presence := .fresh, age := 0 } ∧
      (∀ b, b ≠ a → t.peers.get b = (s.elapse dt).peers.get b) ∧
      t.staging = { s.staging with noticeMarks := t.staging.noticeMarks } ∧
      (cls = 1 → t.staging.noticeMarks.get a = decide (field payload 0 1 = 0) ∧
        ∀ b, b ≠ a → t.staging.noticeMarks.get b = s.staging.noticeMarks.get b) ∧
      (cls ≠ 1 → t.staging = s.staging) ∧
      (∀ k, k ≠ .a12 → t.alarm k = s.alarm k) ∧
      ((s.peers.get a).presence = .fresh → t.alarms = s.alarms) ∧
      (s.ended → (s.peers.get a).presence ≠ .fresh → (t.alarm .a12).abnormal = t.condition .a12)

/-! ### The town -/

/-- A TIME request after the end of start-up (R167, R168): one with a second of day of 86,400 or more changes nothing
but the line; one within range sets house time and its flag and makes the town present from this moment. Moved by more
than 2 s the shorter way round the cycle, the interval and the spill in progress take the time-set mark (R149) and the
close-due time is formed again in auto mode; moved by 2 s or less, the interval goes on as it stands unless the
request moved house time forward to its close-due time (R172). -/
def Obligations.TimeSetsHouseTime : Prop :=
  ∀ (s : State) (dt : Nat) (day : BitVec 16) (second : BitVec 24), s.receives = true → s.ended →
    (86400 ≤ second.toNat → ∃ t, exec (.time dt day second) s = .next t ∧
      State.SelectedFrom { s.elapse dt with line := s.line.afterFrame } t ∧ t.line.attempt = none) ∧
    (second.toNat < 86400 → ∃ t, exec (.time dt day second) s = .next t ∧
      State.SameBut [.line, .weir, .report] (s.elapse dt) t ∧ t.line.attempt = none ∧
      t.line.apartFromReport = s.line.afterFrame.apartFromReport ∧
      t.report.house = ⟨day.toNat, second.toNat, true⟩ ∧ t.report.lastTime = some t.now ∧
      t.report.townPresent = true ∧ t.report.nextSecond = s.report.nextSecond ∧
      (2 < shorterDistance s.report.house.point (day.toNat, second.toNat) →
        t.weir = { s.weir with spill := s.weir.spill.markTimeSet } ∧ t.report.queue = s.report.queue ∧
        t.report.accumulated = (s.elapse dt).report.accumulated ∧
        t.report.interval = s.report.interval.map fun i => { i with
          timeSet := true
          closeDue := if s.settings.reporting.auto then
            some (nextBoundary s.settings.reporting.minutes ⟨day.toNat, second.toNat, true⟩) else none }) ∧
      (shorterDistance s.report.house.point (day.toNat, second.toNat) ≤ 2 → t.weir = s.weir ∧
        ((∀ i ∈ s.report.interval, ∀ due ∈ i.closeDue,
            ¬ (0 < forwardDistance s.report.house.point (day.toNat, second.toNat) ∧
              forwardDistance s.report.house.point (day.toNat, second.toNat) ≤ 2 ∧
              forwardDistance s.report.house.point due ≤
                forwardDistance s.report.house.point (day.toNat, second.toNat))) →
          t.report.interval = s.report.interval ∧ t.report.queue = s.report.queue ∧
          t.report.accumulated = (s.elapse dt).report.accumulated) ∧
        (∀ i due, s.report.interval = some i → i.closeDue = some due →
          0 < forwardDistance s.report.house.point (day.toNat, second.toNat) →
          forwardDistance s.report.house.point (day.toNat, second.toNat) ≤ 2 →
          forwardDistance s.report.house.point due ≤
            forwardDistance s.report.house.point (day.toNat, second.toNat) →
          t.report.interval = some ⟨⟨day.toNat, second.toNat, true⟩, 0, false, false,
            s.settings.reporting.closeDue ⟨day.toNat, second.toNat, true⟩⟩ ∧
          t.report.counts = .zero)))

/-- The interval in progress closes at CLOSE_INTERVAL in manual mode (R173), at INTERVAL_BOUNDARY when house time
stands at the close-due time (R172) and at INTERVAL_LENGTH_LIMIT at a length of 86,400 s (R171): its record joins the
queue as the newest, a full queue dropping its oldest, or the next oldest while the oldest is carried by a committed
frame, with the count of what was lost (R174, R175); and a new interval begins at the same moment, its accumulators at
0. -/
def Obligations.IntervalCloses : Prop :=
  ∀ (s : State) (dt : Nat) (c : Instr) (i : Interval), s.report.interval = some i →
    ((c = .closeInterval dt ∧ s.receives = true ∧ s.ended ∧ s.settings.reporting.auto = false) ∨
      (c = .intervalBoundary dt ∧ i.closeDue = some s.report.house.point) ∨
      (c = .intervalLengthLimit dt ∧ i.length = 86400)) →
    ∃ t, exec c s = .next t ∧ State.SameBut [.line, .report] (s.elapse dt) t ∧
      t.line.apartFromReport = (if c = .closeInterval dt then s.line.afterFrame else s.line).apartFromReport ∧
      t.report.house = s.report.house ∧ t.report.nextSecond = s.report.nextSecond ∧
      t.report.lastTime = s.report.lastTime ∧ t.report.townPresent = s.report.townPresent ∧
      t.report.interval = some ⟨s.report.house, 0, false, !s.report.house.sync,
        s.settings.reporting.closeDue s.report.house⟩ ∧
      t.report.counts = .zero ∧ t.report.aside = (s.elapse dt).report.aside ∧
      (s.report.queue.length < 4 → t.report.queue = s.report.queue ++
        [⟨i.start, i.length, (s.elapse dt).report.counts, i.timeSet, i.unsync, 0⟩]) ∧
      (∀ r1 r2 r3 r4, s.report.queue = [r1, r2, r3, r4] →
        (s.carriesInterval = true → s.line.committed .report = true → t.report.queue = [r1, r3, r4,
          ⟨i.start, i.length, (s.elapse dt).report.counts, i.timeSet, i.unsync, min 255 (1 + r2.lost)⟩]) ∧
        (s.carriesInterval = false ∨ s.line.committed .report = false → t.report.queue = [r2, r3, r4,
          ⟨i.start, i.length, (s.elapse dt).report.counts, i.timeSet, i.unsync, min 255 (1 + r1.lost)⟩]))

/-- The town's other requests after the end of start-up: CLOSE_INTERVAL in auto mode and a TOWN frame of an unknown
kind change nothing but the line, and the latter is no line error (R32, R172); DRAWDOWN sets or cancels the offset and
its expiry on the run clock (R54); ACCEPT_ALARMS sets accepted on every kind (R163). -/
def Obligations.TownRequestsAreTaken : Prop :=
  ∀ (s : State) (dt : Nat), s.receives = true → s.ended →
    (s.settings.reporting.auto = true → ∃ t, exec (.closeInterval dt) s = .next t ∧
      State.SelectedFrom { s.elapse dt with line := s.line.afterFrame } t ∧ t.line.attempt = none) ∧
    (∀ payload : List Byte, frameFault 2 14 payload = none → unknownKind payload = true → ∃ t,
      exec (.unknownTownKind dt payload) s = .next t ∧
      State.SelectedFrom { s.elapse dt with line := s.line.afterFrame } t ∧ t.line.attempt = none) ∧
    (∀ offset minutes : BitVec 16, ∃ t, exec (.drawdown dt offset minutes) s = .next t ∧
      State.SelectedFrom { s.elapse dt with line := s.line.afterFrame, staging := { s.staging with
        drawdownOffset := if minutes.toNat = 0 then 0 else min offset.toNat s.maxDrawdown
        drawdownExpiry := if minutes.toNat = 0 then none
          else some ((s.elapse dt).startUp.runClock + min minutes.toNat 720 * 60) } } t ∧ t.line.attempt = none) ∧
    (∃ t, exec (.acceptAlarms dt) s = .next t ∧
      State.SelectedFrom { s.elapse dt with line := s.line.afterFrame, alarms := t.alarms } t ∧
      t.line.attempt = none ∧ ∀ k, t.alarm k = { s.alarm k with accepted := true })

/-! ### The ends of the tables' and the town's times -/

/-- PEER_STALE and PEER_ABSENT (R43): a FRESH entry becomes STALE at an age of 3,500 ms and keeps its other fields; at
30,000 ms an entry becomes ABSENT and takes the initial values of R42, its age counting on. Either clears the claim
mark, and ABSENT the notice mark too (R56, R59); A12 is formed again (R47). The own entry does not age. TOWN_ABSENT:
60 s after the last TIME request taken the town is absent (R168). DRAWDOWN_EXPIRY: the run clock reaches the expiry,
the offset returns to 0 and the expiry becomes none (R55). REARM: a kind that is not armed is armed when its normal
time reaches 60 s (R160). -/
def Obligations.PeerTownDrawdownAndRearmTimesEnd : Prop :=
  (∀ (s : State) (dt : Nat) (a : BayAddress), s.startUp.address ≠ some a →
      ((s.peers.get a).presence = .fresh → ∃ t u, exec (.peerStale dt a) s = .next t ∧
        u = s.elapse (max dt (3500 - (s.peers.get a).age)) ∧
        State.SameBut [.line, .peers, .staging, .alarms, .report] u t ∧
        t.line.apartFromReport = s.line.apartFromReport ∧
        t.peers.get a = { s.peers.get a with presence := .stale, age := (u.peers.get a).age } ∧
        (t.peers.get a).age ≥ 3500 ∧
        (∀ b, b ≠ a → t.peers.get b = u.peers.get b) ∧
        t.staging = { s.staging with claimMarks := t.staging.claimMarks } ∧
        t.staging.claimMarks.get a = none ∧
        (∀ b, b ≠ a → t.staging.claimMarks.get b = s.staging.claimMarks.get b) ∧
        (∀ k, k ≠ .a12 → t.alarm k = s.alarm k) ∧ (s.ended → (t.alarm .a12).abnormal = t.condition .a12)) ∧
      ((s.peers.get a).presence ≠ .absent → ∃ t u, exec (.peerAbsent dt a) s = .next t ∧
        u = s.elapse (max dt (30000 - (s.peers.get a).age)) ∧
        State.SameBut [.line, .peers, .staging, .alarms, .report] u t ∧
        t.line.apartFromReport = s.line.apartFromReport ∧
        t.peers.get a = { PeerEntry.initial with age := (u.peers.get a).age } ∧ (t.peers.get a).age ≥ 30000 ∧
        (∀ b, b ≠ a → t.peers.get b = u.peers.get b) ∧
        t.staging = { s.staging with
          claimMarks := t.staging.claimMarks, noticeMarks := t.staging.noticeMarks } ∧
        t.staging.claimMarks.get a = none ∧ t.staging.noticeMarks.get a = false ∧
        (∀ b, b ≠ a → t.staging.claimMarks.get b = s.staging.claimMarks.get b ∧
          t.staging.noticeMarks.get b = s.staging.noticeMarks.get b) ∧
        (∀ k, k ≠ .a12 → t.alarm k = s.alarm k) ∧
        (s.ended → (t.alarm .a12).abnormal = t.condition .a12))) ∧
  (∀ (s : State) (dt m : Nat),
      (s.report.lastTime = some m → s.report.townPresent = true → ∃ t, exec (.townAbsent dt) s = .next t ∧
        State.SelectedFrom { s.reach dt (m + 60000) with
          report := { (s.reach dt (m + 60000)).report with townPresent := false } } t) ∧
      (∀ e, s.startUp.endedAt = some m → s.staging.drawdownExpiry = some e → ∃ t,
        exec (.drawdownExpiry dt) s = .next t ∧ t = { s.reach dt (m + e * 1000) with
          staging := { s.staging with drawdownOffset := 0, drawdownExpiry := none } } ∧
        (m ≤ s.now → e ≤ 4294967295 → e ≤ t.startUp.runClock)) ∧
      (∀ k, (s.alarm k).armed = false → (s.alarm k).normalSince = some m → ∃ t, exec (.rearm dt k) s = .next t ∧
        State.SameBut [.alarms] (s.reach dt (m + 60000)) t ∧ t.alarm k = { s.alarm k with armed := true } ∧
        ∀ j, j ≠ k → t.alarm j = s.alarm j))

/-! ### Claims and starts -/

/-- GUARD_EXPIRY (R75, R76, R82): a READY station with a claimed wish that is not isolated places a CLAIM with its
D_auto and credit and is CLAIMING in WAITING with the 2 s claim time running; an isolated one with an unclaimed wish
starts without a CLAIM; otherwise only the guard has expired. CLAIM_TIME_END: the claim phase becomes FALLBACK and a
fallback time of the address × 2 s starts. FALLBACK_TIME_END: a claim that can be withdrawn leaves its slot empty and
the pump starts unclaimed; a committed one goes on with its withdrawal standing (R80, R83). -/
def Obligations.GuardClaimAndFallbackTimesEnd : Prop :=
  (∀ (s : State) (dt m : Nat), s.pump.guard = some m → s.pump.Sound →
      (s.pump.state = .ready → s.staging.startWish = .claimed → s.isolated = false → s.line.onLine .claim = false →
        ∃ t, exec (.guardExpiry dt) s = .next t ∧
          State.SameBut [.line, .peers, .staging, .pump, .alarms, .report] (s.reach dt m) t ∧
          State.AroundThePump [.a5] (s.reach dt m) t ∧ t.pump.lasting = { s.pump.lasting with guard := none } ∧
          t.pump.guard = none ∧ t.pump.state = .claiming ∧ t.pump.claimPhase = some .waiting ∧
          t.pump.claimTime = some (t.now + 2000) ∧ t.contactor = false ∧ t.pump.starts = s.pump.starts ∧
          t.line.claim.frame = some (.claim s.staging.dAuto s.pump.credit)) ∧
      (s.pump.state = .ready → s.staging.startWish = .unclaimed → s.isolated = true → s.pump.feedback = false →
        ∃ t, exec (.guardExpiry dt) s = .next t ∧
          State.SameBut [.line, .peers, .staging, .pump, .alarms, .report] (s.reach dt m) t ∧
          State.AroundThePump [.a5, .a6] (s.reach dt m) t ∧
          t.pump.lasting = { s.pump.lasting with guard := none, starts := t.pump.starts } ∧
          t.pump.guard = none ∧ t.pump.state = .proving ∧ t.contactor = true ∧
          t.pump.starts.getLast? = some t.startUp.runClock ∧ t.line.claim = s.line.claim ∧
          t.staging.startWish = .notHeld) ∧
      (s.pump.state ≠ .ready ∨ s.staging.startWish = .notHeld ∨
          (s.staging.startWish = .claimed ∧ s.isolated = true) ∨
          (s.staging.startWish = .unclaimed ∧ s.isolated = false) →
        ∃ t, exec (.guardExpiry dt) s = .next t ∧
          State.SelectedFrom { s.reach dt m with pump := { s.pump with guard := none } } t)) ∧
  (∀ (s : State) (dt m : Nat) (own : BayAddress), s.startUp.address = some own → s.pump.Sound →
      s.pump.state = .claiming →
      (s.pump.claimTime = some m → ∃ t, exec (.claimTimeEnd dt) s = .next t ∧
        State.SameBut [.pump] (s.reach dt m) t ∧
        t.pump = { s.pump with
          claimPhase := some .fallback, claimTime := none, fallbackTime := some (t.now + own.number * 2000) }) ∧
      (s.pump.fallbackTime = some m → s.line.committed .claim = false → s.pump.feedback = false →
        ∃ t, exec (.fallbackTimeEnd dt) s = .next t ∧
          State.SameBut [.line, .peers, .staging, .pump, .alarms, .report] (s.reach dt m) t ∧
          State.AroundThePump [.a5, .a6] (s.reach dt m) t ∧
          t.pump.lasting = { s.pump.lasting with starts := t.pump.starts } ∧
          t.line.claim = .empty ∧ t.pump.state = .proving ∧ t.contactor = true ∧ t.pump.claimPhase = none ∧
          t.pump.starts.getLast? = some t.startUp.runClock ∧ t.pump.guard = s.pump.guard) ∧
      (s.pump.fallbackTime = some m → s.line.committed .claim = true →
        ∃ t, exec (.fallbackTimeEnd dt) s = .next t ∧
          State.SameBut [.line, .pump, .report] (s.reach dt m) t ∧
          t.line.claimWithdrawal = true ∧ t.line.claim.frame = s.line.claim.frame ∧
          t.line.attempt = s.line.attempt ∧ t.pump = { s.pump with fallbackTime := none }))

/-- ISOLATED_START_DELAY_END (R49, R65, R66, R82): an evaluation is made, which forms the house level, the level source,
float mode, D and D_auto (R50, R51, R57, R58) from the tables as they then stand, and on an isolated station the delay is
DONE while its start condition holds and idle otherwise. With the delay DONE, a READY station whose start conditions hold
(R61) and whose guard has expired starts without a CLAIM: it is in PROVING, the start in its list, or LOCKED if feedback
is already there (R83, R86); no start wish that could start the pump is left waiting. Before the end of start-up the
delay alone changes. -/
def Obligations.IsolatedStartDelayEnds : Prop :=
  ∀ (s : State) (dt m : Nat), s.staging.startDelay = .running m →
    (¬ s.ended → ∃ t, exec (.isolatedStartDelayEnd dt) s = .next t ∧
      State.SelectedFrom { s.reach dt m with staging := { s.staging with startDelay := .done } } t) ∧
    (s.ended → s.isolated = true → s.pump.Sound → ∃ t, exec (.isolatedStartDelayEnd dt) s = .next t ∧
      State.SameBut [.line, .peers, .staging, .pump, .alarms, .report] (s.reach dt m) t ∧
      t.isolated = true ∧ t.staging.startDelay = (if t.delayCondition then .done else .idle) ∧
      t.staging.houseLevel = t.houseLevelNow ∧ t.staging.levelSource = t.levelSourceNow ∧
      t.staging.floatMode = t.floatModeNow ∧ t.staging.d = t.dNow ∧ t.staging.dAuto = t.dAutoNow ∧
      (s.pump.state = .ready → s.pump.guard = none → t.staging.startDelay = .done →
        s.general.pumpFitted = true → s.pump.selector = .auto → s.pump.minOff = none → s.screen.blinded = false →
        s.supply.healthy = true → s.supply.hold = false →
        (s.pump.starts.filter fun x => decide (t.startUp.runClock - x < 3600)).length < s.general.startsPerHour →
        (if t.staging.floatMode then s.floats.stop.presented = .closed
          else ∃ x c, s.bayLevel = some x ∧ s.settings.levels = some c ∧ c.cutOut + c.restartMargin ≤ x) →
        t.pump.starts.getLast? = some t.startUp.runClock ∧
        (s.pump.feedback = false → t.pump.state = .proving ∧ t.contactor = true) ∧
        (s.pump.feedback = true → t.pump.state = .locked ∧ t.pump.lockCause = some .earlyProof ∧
          t.contactor = false)) ∧
      (t.pump.state = .ready → t.pump.guard = none → t.staging.startWish = .notHeld) ∧
      t.staging.noticeMarks = s.staging.noticeMarks ∧ t.staging.claimMarks = s.staging.claimMarks ∧
      t.staging.drawdownOffset = s.staging.drawdownOffset ∧ (∀ k, k ∉ [.a1, .a5, .a6] → t.alarm k = s.alarm k) ∧
      (∀ a, s.startUp.address ≠ some a → t.peers.get a = (s.reach dt m).peers.get a))

/-! ### Run feedback and proving -/

/-- RUN_FEEDBACK_CHANGE to present in an open proving window (R86, R88, R112): up to 40 ms after the closing it is
early proof, LOCKED with a failed start counted; up to the proof time it proves the pump: in Auto RUNNING with the
min-run and the 60 s proving-run times started, in HAND the hand phase PROVED with the cooling time none. Stated with
no stop wish held and the STOP float not presenting OPEN, which would stop an entry into RUNNING at once (R89, R90).
The entry into RUNNING is a rake trigger under rake with pump, which may start a cycle or mark one (R118 to R120), and
nothing else here touches the screen. -/
def Obligations.FeedbackInTheProvingWindow : Prop :=
  ∀ (s : State) (dt : Nat) (w : ProvingWindow), s.pump.Sound → s.pump.feedback = false → s.pump.window = some w →
    s.now + dt ≤ w.ends →
    ∃ t, exec (.runFeedbackChange dt true) s = .next t ∧
      State.SameBut [.line, .peers, .staging, .pump, .screen, .alarms, .report] (s.elapse dt) t ∧
      State.AroundThePump [.a5] (s.elapse dt) t ∧
      t.pump.lasting = { s.pump.lasting with feedback := true, cooling := t.pump.cooling } ∧
      (s.now + dt ≤ w.closedAt + 40 → t.pump.state = .locked ∧ t.pump.lockCause = some .earlyProof ∧
        t.contactor = false ∧ t.screen = (s.elapse dt).screen ∧
        (s.report.interval.isSome → t.report.accumulated = { (s.elapse dt).report.accumulated with
          failedStarts := (s.elapse dt).report.accumulated.failedStarts.add 255 1 })) ∧
      (w.closedAt + 40 < s.now + dt → s.pump.state = .proving → s.staging.stopWish = false →
        s.floats.stop.presented ≠ .opened → t.pump.state = .running ∧ t.contactor = true ∧
          t.pump.window = none ∧ t.pump.provingRun = some (s.now + dt + 60000) ∧
          t.pump.minRun = (if s.general.minRun = 0 then none else some (s.now + dt + s.general.minRun * 1000)) ∧
          t.pump.stopDelay = none ∧ t.pump.minOff = s.pump.minOff) ∧
      (w.closedAt + 40 < s.now + dt → s.pump.state = .proving → State.RakedWithPump (s.elapse dt) t) ∧
      (w.closedAt + 40 < s.now + dt → s.pump.state = .hand → t.pump.state = .hand ∧ t.screen = (s.elapse dt).screen ∧
        t.pump.handPhase = some .proved ∧ t.contactor = true ∧ t.pump.window = none ∧ t.pump.cooling = none ∧
        t.pump.provingRun = some (s.now + dt + 60000) ∧ t.pump.minOff = s.pump.minOff)

/-- RUN_FEEDBACK_CHANGE outside a proving window (R87, R91, R92, R104, R108, R112): feedback that becomes present in
READY, OUT, CLAIMING or COOLING, or in HAND while HALTED, is timed for 2 s from its arrival and ends the timing of a
loss; within 2 s of a supply-loss opening or a move to Off it is timed from that moment (R104, R108), and 2 s or more after
it from its arrival (R92), the model's reading of the three rules together (log entry 39). A drop of feedback ends the
timing, and later feedback is timed from its arrival, the model's reading too (log entry 39). Feedback that drops from a proved motor is timed for 1 s, and
in STOPPING it brings READY with the min-off time started afresh. A value that is no change lets time pass only. -/
def Obligations.FeedbackOutsideTheWindow : Prop :=
  ∀ (s : State) (dt : Nat), s.pump.Sound →
    exec (.runFeedbackChange dt s.pump.feedback) s = .next (s.elapse dt) ∧
    (s.pump.feedback = false → s.pump.window = none → ∃ t, exec (.runFeedbackChange dt true) s = .next t ∧
      State.SelectedFrom { s.elapse dt with pump := { s.pump with
        feedback := true
        lossTimer := none
        strayTimer := t.pump.strayTimer } } t ∧
      (s.pump.watch = .off → t.pump.strayTimer = none) ∧
      (s.pump.watch ≠ .off → (∀ m ∈ s.pump.openedAt, m + 2000 ≤ s.now + dt) →
        t.pump.strayTimer = some (s.now + dt + 2000)) ∧
      (∀ m, s.pump.openedAt = some m → s.now + dt < m + 2000 →
        t.pump.strayTimer = some (m + 2000))) ∧
    (s.pump.feedback = true → s.pump.state ≠ .stopping → ∃ t, exec (.runFeedbackChange dt false) s = .next t ∧
      State.SelectedFrom { s.elapse dt with pump := { s.pump with
        feedback := false
        lossTimer := if s.pump.proved then some (s.now + dt + 1000) else none
        strayTimer := none
        openedAt := none } } t) ∧
    (s.pump.feedback = true → s.pump.state = .stopping → ∃ t, exec (.runFeedbackChange dt false) s = .next t ∧
      State.SameBut [.line, .peers, .staging, .pump, .alarms, .report] (s.elapse dt) t ∧
      State.AroundThePump [.a5] (s.elapse dt) t ∧ t.pump.lasting = { s.pump.lasting with feedback := false } ∧
      t.pump.state = .ready ∧ t.contactor = false ∧ t.pump.releaseTime = none ∧ t.pump.strayTimer = none ∧
      t.pump.minOff = (if s.general.minOff = 0 then none else some (s.now + dt + s.general.minOff * 1000)))

/-- A failure: PROOF_TIME_END with feedback absent, or FEEDBACK_LOST (R86, R87, R93, R96, R112). The
consecutive-failure count goes up by one and stops at 6; at 6 the pump is LOCKED for repeated failures, at 3 the 30
min cooling time starts and an Auto pump is COOLING, otherwise it is READY; in HAND it stays there HALTED unless it is
locked. The contactor opens and the min-off time starts. A3 or A4 turns abnormal and normal again at once, and is not
accepted; a failed start is counted when the proof time ends. -/
def Obligations.FailureCountsAndSetsTheState : Prop :=
  ∀ (s : State) (dt m : Nat) (c : Instr) (k : AlarmKind), s.pump.Sound →
    ((c = .proofTimeEnd dt ∧ k = .a3 ∧ s.pump.feedback = false ∧ ∃ w, s.pump.window = some w ∧ w.ends = m) ∨
      (c = .feedbackLost dt ∧ k = .a4 ∧ s.pump.lossTimer = some m)) →
    ∃ t, exec c s = .next t ∧
      State.SameBut [.line, .peers, .staging, .pump, .alarms, .report] (s.reach dt m) t ∧
      State.AroundThePump [k, .a5] (s.reach dt m) t ∧ t.pump.lasting = { s.pump.lasting with
        failures := min 6 (s.pump.failures + 1), cooling := t.pump.cooling } ∧
      t.contactor = false ∧ t.pump.window = none ∧
      t.pump.minOff = (if s.general.minOff = 0 then none else some (t.now + s.general.minOff * 1000)) ∧
      (5 ≤ s.pump.failures → t.pump.state = .locked ∧ t.pump.lockCause = some .repeatedFailures) ∧
      (s.pump.failures = 2 → t.pump.cooling = some (t.now + 1800000) ∧
        t.pump.state = if s.pump.state = .hand then .hand else .cooling) ∧
      (s.pump.failures < 5 → s.pump.failures ≠ 2 → t.pump.cooling = s.pump.cooling ∧
        t.pump.state = if s.pump.state = .hand then .hand else .ready) ∧
      (t.pump.state = .hand → t.pump.handPhase = some .halted) ∧
      (s.ended → (t.alarm k).abnormal = false ∧ ((s.alarm k).abnormal = false →
        (t.alarm k).accepted = false ∧ (t.alarm k).normalSince = some t.now)) ∧
      (s.report.interval.isSome → t.report.accumulated = if k = .a3 then { (s.reach dt m).report.accumulated with
        failedStarts := (s.reach dt m).report.accumulated.failedStarts.add 255 1 }
        else (s.reach dt m).report.accumulated)

/-! ### Running and stopping -/

/-- PROVING_RUN_END: 60 s of running return the consecutive-failure count to 0 (R88, R112). COOLING_TIME_END: the
cooling time becomes none, and in COOLING the pump is READY (R94). MIN_OFF_END: the min-off time has elapsed and
availability is formed again at once (R61, R96). -/
def Obligations.ProvingRunCoolingAndMinOffEnd : Prop :=
  (∀ (s : State) (dt m : Nat), s.pump.provingRun = some m →
      exec (.provingRunEnd dt) s = .next { s.reach dt m with pump := { s.pump with provingRun := none, failures := 0 } }) ∧
  (∀ (s : State) (dt m : Nat), s.pump.Sound →
      (s.pump.cooling = some m → s.pump.state ≠ .cooling → ∃ t, exec (.coolingTimeEnd dt) s = .next t ∧
        t = { s.reach dt m with pump := { s.pump with cooling := none } }) ∧
      (s.pump.cooling = some m → s.pump.state = .cooling → ∃ t, exec (.coolingTimeEnd dt) s = .next t ∧
        State.SameBut [.line, .peers, .staging, .pump, .alarms, .report] (s.reach dt m) t ∧
        State.AroundThePump [.a5] (s.reach dt m) t ∧ t.pump = { s.pump with state := .ready, cooling := none } ∧
        t.staging.available = t.startConditions) ∧
      (s.pump.minOff = some m → ∃ t, exec (.minOffEnd dt) s = .next t ∧
        State.SameBut [.line, .peers, .staging, .pump, .alarms, .report] (s.reach dt m) t ∧
        State.AroundThePump [.a5] (s.reach dt m) t ∧ t.pump.lasting = s.pump.lasting ∧ t.pump.minOff = none ∧
        t.staging.available = (decide (t.pump.state = .ready) && t.startConditions) ∧
        (s.pump.state ≠ .claiming → t.pump = { s.pump with minOff := none })))

/-- The stop wish through the stop delay (R89, R91). MIN_RUN_END with the wish held starts the delay, or with a
setting of 0 s stops the pump; STOP_DELAY_END with the wish held stops the pump: the contactor opens and the pump is
in STOPPING with the 2 s release time running, or READY at once if the feedback is absent. -/
def Obligations.StopWishActsThroughTheDelay : Prop :=
  ∀ (s : State) (dt m : Nat), s.pump.Sound → s.pump.state = .running →
    (s.pump.minRun = some m → s.staging.stopWish = true → s.pump.stopDelay = none → s.general.stopDelay ≠ 0 →
      ∃ t, exec (.minRunEnd dt) s = .next t ∧ State.SelectedFrom { s.reach dt m with pump := { s.pump with
        minRun := none, stopDelay := some (t.now + s.general.stopDelay * 1000) } } t) ∧
    (s.pump.minRun = some m → s.staging.stopWish = false → ∃ t, exec (.minRunEnd dt) s = .next t ∧
      State.SelectedFrom { s.reach dt m with pump := { s.pump with minRun := none, stopDelay := none } } t) ∧
    (s.pump.stopDelay = some m → s.staging.stopWish = false → ∃ t, exec (.stopDelayEnd dt) s = .next t ∧
      t = { s.reach dt m with pump := { s.pump with stopDelay := none } }) ∧
    (∀ c, ((c = .stopDelayEnd dt ∧ s.pump.stopDelay = some m) ∨
        (c = .minRunEnd dt ∧ s.pump.minRun = some m ∧ s.pump.stopDelay = none ∧ s.general.stopDelay = 0)) →
      s.staging.stopWish = true → ∃ t, exec c s = .next t ∧
        State.SameBut [.line, .peers, .staging, .pump, .alarms, .report] (s.reach dt m) t ∧
        State.AroundThePump [.a5] (s.reach dt m) t ∧ t.pump.lasting = s.pump.lasting ∧
        t.contactor = false ∧ t.pump.minRun = none ∧ t.pump.stopDelay = none ∧ t.pump.provingRun = none ∧
        t.pump.minOff = (if s.general.minOff = 0 then none else some (t.now + s.general.minOff * 1000)) ∧
        (s.pump.feedback = true → t.pump.state = .stopping ∧ t.pump.releaseTime = some (t.now + 2000)) ∧
        (s.pump.feedback = false → t.pump.state = .ready))

/-- The lockouts: RELEASE_TIME_END with feedback present is a contactor not releasing (R91); FEEDBACK_WITHOUT_COMMAND
locks the pump, in CLAIMING after its claim is withdrawn, and a committed claim is waited for (R92); with no pump fitted
the pump state is kept or locked, a free value of the model (R73; log entry 14). A lockout opens the contactor, is no
failure and makes A5 abnormal (R95). In LOCKED a further cause of lockout changes nothing, and feedback that comes or goes
leaves the state and the first cause as they are (R92, R95). -/
def Obligations.LockoutsLockThePump : Prop :=
  ∀ (s : State) (dt m : Nat), s.pump.Sound →
    (s.pump.releaseTime = some m → s.pump.feedback = true → ∃ t, exec (.releaseTimeEnd dt) s = .next t ∧
      State.SameBut [.line, .peers, .staging, .pump, .alarms, .report] (s.reach dt m) t ∧
      State.AroundThePump [.a5] (s.reach dt m) t ∧ t.pump.lasting = s.pump.lasting ∧
      t.pump.state = .locked ∧ t.pump.lockCause = some .notReleasing ∧ t.contactor = false ∧ (s.ended → (t.alarm .a5).abnormal = true)) ∧
    (s.pump.state = .locked → (∀ cause, s.lock cause = s) ∧
      exec (.releaseTimeEnd dt) s = .next (s.elapse dt) ∧ exec (.feedbackWithoutCommand dt) s = .next (s.elapse dt) ∧
      ∀ present, ∃ t, exec (.runFeedbackChange dt present) s = .next t ∧ t.pump.feedback = present ∧
        t.pump.state = .locked ∧ t.pump.lockCause = s.pump.lockCause ∧ t.contactor = false) ∧
    (s.pump.releaseTime = some m → s.pump.feedback = false →
      exec (.releaseTimeEnd dt) s = .next (s.reach dt m)) ∧
    (s.pump.strayTimer = some m → s.general.pumpFitted = true →
      (s.pump.state = .claiming → s.line.committed .claim = false ∧ s.pump.claimPhase ≠ some .withdrawing) →
      ∃ t, exec (.feedbackWithoutCommand dt) s = .next t ∧
        State.SameBut [.line, .peers, .staging, .pump, .alarms, .report] (s.reach dt m) t ∧
        State.AroundThePump [.a5] (s.reach dt m) t ∧ t.pump.lasting = s.pump.lasting ∧
        t.pump.state = .locked ∧ t.pump.lockCause = some .withoutCommand ∧ t.contactor = false ∧
        t.pump.lockPending = false ∧
        (s.pump.state = .claiming → t.line.claim = .empty) ∧ (s.ended → (t.alarm .a5).abnormal = true)) ∧
    (s.pump.strayTimer = some m → s.pump.state = .claiming → s.line.committed .claim = true →
      s.pump.claimPhase ≠ some .withdrawing → ∃ t, exec (.feedbackWithoutCommand dt) s = .next t ∧
        State.SameBut [.line, .peers, .staging, .pump, .alarms, .report] (s.reach dt m) t ∧
        State.AroundThePump [.a5] (s.reach dt m) t ∧ t.pump.lasting = s.pump.lasting ∧
        t.pump.state = .claiming ∧ t.pump.claimPhase = some .withdrawing ∧ t.pump.lockPending = true ∧
        t.line.claimWithdrawal = true ∧ t.line.claim.frame = s.line.claim.frame) ∧
    (s.pump.strayTimer = some m → s.general.pumpFitted = false → s.pump.state ≠ .claiming →
      ∃ t, exec (.feedbackWithoutCommand dt) s = .next t ∧
        State.SameBut [.line, .peers, .staging, .pump, .alarms, .report] (s.reach dt m) t ∧
        State.AroundThePump [.a5] (s.reach dt m) t ∧ t.pump.lasting = s.pump.lasting ∧ t.contactor = false ∧
        (t.pump.state = s.pump.state ∨ t.pump.state = .locked))

/-- RUN_CLOCK_SECOND (R68, R88, R166, R171): house time advances by one second, the second of day wrapping at 86,400
and the day at 65,535; the interval grows by one second up to 86,400; and a running pump counts one run second for the
interval and one in the credit ring, every sixtieth a minute in the newest bucket, which stops at 60. That a pump in HAND
counts only while its feedback is present (R68, R88), and so not within the 1 s of a drop in PROVED, which R113 and R169 can
be read to count, is the model's reading (log entry 47). CREDIT_HOUR
discards the oldest bucket and adds a new one holding 0 (R68). -/
def Obligations.SecondsAndHoursAreCounted : Prop :=
  ∀ (s : State) (dt m : Nat),
    (s.report.nextSecond = some m → ∃ t, exec (.runClockSecond dt) s = .next t ∧
      State.SameBut [.pump, .report] (s.reach dt m) t ∧
      t.report = { (s.reach dt m).report with
        house := t.report.house, nextSecond := some (m + 1000), interval := t.report.interval
        aside := t.report.aside } ∧
      t.report.house.sync = s.report.house.sync ∧
      (s.report.house.second < 86399 →
        t.report.house.second = s.report.house.second + 1 ∧ t.report.house.day = s.report.house.day) ∧
      (s.report.house.second = 86399 → t.report.house.second = 0 ∧
        t.report.house.day = (s.report.house.day + 1) % 65536) ∧
      t.report.interval = s.report.interval.map (fun i => { i with length := min 86400 (i.length + 1) }) ∧
      (s.pump.counting = false → t.pump = s.pump ∧ t.report.aside = (s.reach dt m).report.aside) ∧
      (s.pump.counting = true →
        (s.report.interval.isSome → t.report.accumulated = { (s.reach dt m).report.accumulated with
          runSeconds := (s.reach dt m).report.accumulated.runSeconds.add 65535 1 }) ∧
        (s.pump.runSeconds < 59 → t.pump = { s.pump with runSeconds := s.pump.runSeconds + 1 }) ∧
        (∀ older newest, s.pump.runSeconds = 59 → s.pump.buckets = older ++ [newest] →
          t.pump = { s.pump with runSeconds := 0, buckets := older ++ [min 60 (newest + 1)] }))) ∧
    (∀ oldest newer, s.pump.nextHour = some m → s.pump.buckets = oldest :: newer →
      exec (.creditHour dt) s = .next { s.reach dt m with
        pump := { s.pump with buckets := newer ++ [0], nextHour := some (m + 3600000) } })

/-! ### Supply and pump selector -/

/-- SUPPLY_STATE_CHANGE (R101 to R104, R106, R112, R118, R128). Before the end of start-up the change is only taken as
the supply state. A loss is pending and counted: PROVING and RUNNING become READY,
feedback that is present timed for 2 s from the opening, and HAND is HALTED with the
contactor open, CLAIMING loses its wish and with it its claim, no failure is counted, and a rake cycle is abandoned. A
return to HEALTHY is a restore when a loss is pending, with the hold under held recovery, and triggers the rake. A2 is
abnormal while the supply is LOST or held. -/
def Obligations.SupplyLossAndRestore : Prop :=
  ∀ (s : State) (dt : Nat), s.pump.Sound →
    exec (.supplyStateChange dt s.supply.healthy) s = .next (s.elapse dt) ∧
    (¬ s.ended → ∀ h, h ≠ s.supply.healthy → exec (.supplyStateChange dt h) s =
      .next { s.elapse dt with supply := { s.supply with healthy := h } }) ∧
    (s.ended → s.supply.healthy = true → ∃ t, exec (.supplyStateChange dt false) s = .next t ∧
      State.SameBut [.line, .peers, .staging, .pump, .supply, .screen, .alarms, .report] (s.elapse dt) t ∧
      t.supply = { s.supply with healthy := false, lossPending := true } ∧
      (s.report.interval.isSome → t.report.accumulated = { (s.elapse dt).report.accumulated with
        supplyLosses := (s.elapse dt).report.accumulated.supplyLosses.add 255 1 }) ∧
      State.AroundThePump [.a2, .a5] (s.elapse dt) t ∧ t.pump.lasting = s.pump.lasting ∧ t.contactor = false ∧
      t.pump.minOff = (if s.contactor = false then s.pump.minOff
        else if s.general.minOff = 0 then none else some (s.now + dt + s.general.minOff * 1000)) ∧
      (s.pump.state = .proving ∨ s.pump.state = .running → t.pump.state = .ready ∧
        t.pump.openedAt = some (s.now + dt) ∧
        t.pump.strayTimer = if s.pump.feedback then some (s.now + dt + 2000) else none) ∧
      (s.pump.state = .hand → t.pump.state = .hand ∧ t.pump.handPhase = some .halted) ∧
      (s.pump.state = .claiming → s.staging.startWish ≠ .notHeld → s.pump.mayLoseClaim = true →
        s.pump.lockPending = false → s.line.committed .claim = false →
          t.pump.state = .ready ∧ t.line.claim = .empty ∧ t.staging.startWish = .notHeld) ∧
      (s.pump.state ≠ .proving → s.pump.state ≠ .running → s.pump.state ≠ .claiming →
        t.pump.state = s.pump.state) ∧
      (s.screen.state = .forward ∨ s.screen.state = .reversing ∨ s.screen.state = .pause →
        t.screen = { (s.elapse dt).screen with
          state := .idle, rakeAgain := false, retries := 0, forwardMs := 0, camStage := none, stateTimer := none
          energiseAt := none, reverseOn := false, overcurrentSince := none }) ∧
      (s.screen.state = .idle ∨ s.screen.state = .jammed ∨ s.screen.state = .out →
        t.screen = (s.elapse dt).screen) ∧
      (t.alarm .a2).abnormal = true) ∧
    (s.ended → s.supply.healthy = false → s.staging.startWish = .notHeld →
      ∃ t, exec (.supplyStateChange dt true) s = .next t ∧
        State.SameBut [.line, .peers, .staging, .supply, .screen, .alarms, .report] (s.elapse dt) t ∧
        State.AroundThePump [.a2] (s.elapse dt) t ∧ t.supply.healthy = true ∧ t.supply.lossPending = false ∧
        t.supply.hold = (s.supply.hold || (s.supply.lossPending && s.general.heldRecovery)) ∧
        (s.screen.state = .idle → t.screen.state = .forward ∧ t.screen.retries = 0 ∧ t.screen.forwardMs = 0) ∧
        (s.screen.state = .jammed ∨ s.screen.state = .out → t.screen = (s.elapse dt).screen) ∧
        (t.supply.hold = false → (t.alarm .a2).abnormal = false) ∧
        (t.supply.hold = true → (t.alarm .a2).abnormal = true))

/-- PUMP_SELECTOR_MOVE to Off and to Auto (R72, R107 to R109, R114). The Hand and the Auto input are decoded to the
position: the one that is active alone, and Off for none or both. The same position lets time pass. During
start-up, or with no pump fitted, the position alone changes, with the own entry. A move to Off brings OUT with the
contactor open from every state but LOCKED, and a claim is withdrawn, or its withdrawal stands. A move to Auto from
OUT brings READY, or COOLING while the cooling time runs; from HAND a proved pump is taken over in RUNNING, stated
with no stop wish held and the STOP float not presenting OPEN, and any other is COOLING, STOPPING or READY; that entry
into RUNNING is a rake trigger under rake with pump (R118). Feedback present at a move to Off is timed for 2 s from the
move (R108), from READY, CLAIMING and COOLING too, the model's reading of R108 beside R92 (log entry 42). -/
def Obligations.SelectorMovesToOffAndAuto : Prop :=
  ∀ (s : State) (dt : Nat) (hand auto : Bool) (position : PumpPosition), s.pump.Sound →
    position = (if hand = auto then .off else if hand then .hand else .auto) →
    (position = s.pump.selector → exec (.pumpSelectorMove dt ⟨hand, auto⟩) s = .next (s.elapse dt)) ∧
    (position ≠ s.pump.selector → ∃ t, exec (.pumpSelectorMove dt ⟨hand, auto⟩) s = .next t ∧
      State.SameBut [.line, .peers, .staging, .pump, .screen, .alarms, .report] (s.elapse dt) t ∧
      State.AroundThePump [.a5, .a6] (s.elapse dt) t ∧
      t.pump.lasting = { s.pump.lasting with selector := position, starts := t.pump.starts } ∧
      (position ≠ .hand → t.pump.starts = s.pump.starts ∧ t.alarm .a6 = s.alarm .a6) ∧
      (¬ s.ended ∨ s.general.pumpFitted = false →
        t.pump = { s.pump with selector := position } ∧ t.staging = s.staging ∧ t.screen = (s.elapse dt).screen ∧
        t.alarms = s.alarms) ∧
      (s.ended → s.general.pumpFitted = true → position = .off →
        t.contactor = false ∧ t.screen = (s.elapse dt).screen ∧
        (s.pump.state = .startup ∨ s.pump.state = .locked → t.pump.state = s.pump.state) ∧
        (s.pump.state ≠ .startup → s.pump.state ≠ .locked → t.pump.state = .out) ∧
        (s.pump.state ≠ .startup → s.pump.state ≠ .locked → s.pump.state ≠ .out →
          t.pump.openedAt = some (s.now + dt) ∧
          t.pump.strayTimer = if s.pump.feedback then some (s.now + dt + 2000) else none) ∧
        (s.pump.state = .claiming → s.pump.mayLoseClaim = true → s.line.committed .claim = false →
          t.line.claim = .empty) ∧
        (s.pump.state = .claiming → s.pump.mayLoseClaim = true → s.line.committed .claim = true →
          t.line.claimWithdrawal = true ∧ t.line.claim.frame = s.line.claim.frame)) ∧
      (s.ended → s.general.pumpFitted = true → position = .auto →
        (s.pump.state = .hand → s.pump.handPhase = some .proved → State.RakedWithPump (s.elapse dt) t) ∧
        (s.pump.state ≠ .hand ∨ s.pump.handPhase ≠ some .proved → t.screen = (s.elapse dt).screen) ∧
        (s.pump.state = .out → t.pump.state = (if s.pump.cooling.isSome then .cooling else .ready)) ∧
        (s.pump.state = .locked → t.pump = { s.pump with selector := .auto }) ∧
        (s.pump.state = .hand → s.pump.handPhase = some .proved → s.floats.stop.presented ≠ .opened →
          s.staging.stopWish = false → t.pump.state = .running ∧ t.contactor = true ∧
            t.pump.provingRun = some (s.now + dt + 60000) ∧
            t.pump.minRun = (if s.general.minRun = 0 then none else some (s.now + dt + s.general.minRun * 1000))) ∧
        (s.pump.state = .hand → s.pump.handPhase ≠ some .proved → t.contactor = false ∧
          t.pump.state = if s.pump.cooling.isSome then .cooling else if s.pump.feedback then .stopping else .ready)))

/-- PUMP_SELECTOR_MOVE into Hand (R84 to R86, R110, R111). From OUT, READY, COOLING and CLAIMING it is a Hand start with the
supply HEALTHY: the start time joins the aged start list, whose oldest entry leaves it when it is full, with the A6 event
unless the limit-held indication stands (R84, R85). R64 clears the indication at once when the list loses an entry: here
ageing an entry out clears it, and with it A6, while the removal of the oldest entry of a list that stays full keeps both as
they are, the model's reading of R64 (log entry 21). A start is counted, the contactor closes with a window opened and
the hand claim due, and feedback that is there already is early proof. With the supply LOST the pump is in HAND,
HALTED, and nothing starts. From PROVING the window goes on, and from RUNNING and STOPPING the pump is proved, with no
hand claim and no start; that STOPPING closes its contactor again with the supply LOST too is the model's reading (log entry
44). In LOCKED only the position changes. -/
def Obligations.SelectorMovesToHand : Prop :=
  ∀ (s : State) (dt : Nat), s.pump.Sound → s.ended → s.general.pumpFitted = true → s.pump.selector ≠ .hand →
    ∃ t, exec (.pumpSelectorMove dt ⟨true, false⟩) s = .next t ∧
      State.SameBut [.line, .peers, .staging, .pump, .alarms, .report] (s.elapse dt) t ∧
      State.AroundThePump [.a5, .a6] (s.elapse dt) t ∧
      t.pump.lasting = { s.pump.lasting with selector := .hand, starts := t.pump.starts } ∧
      (s.pump.state = .out ∨ s.pump.state = .ready ∨ s.pump.state = .cooling ∨ s.pump.state = .claiming →
        (s.pump.state = .claiming → s.pump.mayLoseClaim = true → s.line.committed .claim = false →
          t.line.claim = .empty) ∧
        (s.supply.healthy = true → (∃ aged, aged = s.pump.starts.filter
              (fun x => decide ((s.elapse dt).startUp.runClock - x < 3600)) ∧
            t.pump.starts = (if s.general.startsPerHour ≤ aged.length then aged.tail else aged) ++
              [(s.elapse dt).startUp.runClock] ∧
            (1 ≤ s.general.startsPerHour → s.pump.starts.length ≤ s.general.startsPerHour →
              t.pump.starts.length ≤ s.general.startsPerHour) ∧
            (s.general.startsPerHour ≤ aged.length → s.staging.limitHeld = false ∨ aged ≠ s.pump.starts →
              (t.alarm .a6).abnormal = false ∧
              ((s.alarm .a6).abnormal = false → (t.alarm .a6).normalSince = some t.now ∧
                (t.alarm .a6).accepted = false ∧
                ((s.alarmSetting .a6).report = true → (s.alarm .a6).armed = true → (t.alarm .a6).raise.isSome))) ∧
            (aged ≠ s.pump.starts → (t.alarm .a6).abnormal = false ∧ t.staging.limitHeld = false) ∧
            (aged = s.pump.starts → aged.length < s.general.startsPerHour ∨ s.staging.limitHeld = true →
              t.alarm .a6 = s.alarm .a6)) ∧
          (s.report.interval.isSome → t.report.accumulated.starts =
            (s.elapse dt).report.accumulated.starts.add 255 1) ∧
          (s.pump.feedback = false → t.pump.state = .hand ∧ t.pump.handPhase = some .window ∧
            t.contactor = true ∧ t.pump.handClaim = some .due ∧ t.pump.handStart = some t.now ∧
            t.pump.window = some ⟨t.now, t.now + s.general.proofTime * 1000⟩) ∧
          (s.pump.feedback = true → t.pump.state = .locked ∧ t.pump.lockCause = some .earlyProof ∧
            t.contactor = false)) ∧
        (s.supply.healthy = false → t.pump.state = .hand ∧ t.pump.handPhase = some .halted ∧
          t.contactor = false ∧ t.pump.handClaim = some .noClaim ∧ t.pump.starts = s.pump.starts)) ∧
      (s.pump.state = .proving → t.pump.state = .hand ∧ t.pump.handPhase = some .window ∧ t.contactor = true ∧
        t.pump.window = s.pump.window ∧ t.pump.handClaim = some .noClaim ∧ t.pump.starts = s.pump.starts) ∧
      (s.pump.state = .running ∨ s.pump.state = .stopping → t.pump.state = .hand ∧
        t.pump.handPhase = some .proved ∧ t.contactor = true ∧ t.pump.handClaim = some .noClaim ∧
        t.pump.minRun = none ∧ t.pump.stopDelay = none ∧ t.pump.starts = s.pump.starts) ∧
      (s.pump.state = .locked → t.pump = { s.pump with selector := .hand })

/-! ### Screen -/

/-- The rake triggers RAKE_NOW, DIFFERENTIAL_TRIGGER and INTERVAL_TRIGGER (R117 to R121): in IDLE with the supply
HEALTHY a cycle starts; in FORWARD, REVERSING and PAUSE the rake-again mark is set; in JAMMED and OUT, in IDLE with
the supply LOST and before the end of start-up the trigger is lost. The press is taken, the differential timer starts
again, and the interval timer restarts, in either case. A press with the last taken value active lets time pass. -/
def Obligations.TriggersStartOrMarkACycle : Prop :=
  ∀ (s u : State) (dt m : Nat) (c : Instr),
    (s.panel.rakeNow = true → exec (.rakeNow dt) s = .next (s.elapse dt)) ∧
    ((c = .rakeNow dt ∧ s.panel.rakeNow = false ∧
          u = { s.elapse dt with panel := { s.panel with rakeNow := true } }) ∨
        (c = .differentialTrigger dt ∧ s.screen.differentialSince = some m ∧
          u = { s.reach dt (m + 10000) with screen := { (s.reach dt (m + 10000)).screen with
            differentialSince := some (s.reach dt (m + 10000)).now } }) ∨
        (c = .intervalTrigger dt ∧ s.screen.intervalAt = some m ∧
          u = { s.reach dt m with screen := { (s.reach dt m).screen with
            intervalAt := s.rakeInterval.map fun minutes => (s.reach dt m).now + minutes * 60000 } }) →
      (s.ended → s.screen.state = .idle → s.supply.healthy = true → exec c s = .next { u with screen := { u.screen with
        state := .forward
        retries := 0
        forwardMs := 0
        overcurrentSince := if s.screen.overcurrentInput then some u.now else none
        camStage := some (if s.screen.camClosed then .waitOpen else .waitClose) } }) ∧
      (s.ended → s.screen.state = .forward ∨ s.screen.state = .reversing ∨ s.screen.state = .pause →
        exec c s = .next { u with screen := { u.screen with rakeAgain := true } }) ∧
      (¬ s.ended ∨ s.screen.state = .jammed ∨ s.screen.state = .out ∨
        (s.screen.state = .idle ∧ s.supply.healthy = false) → exec c s = .next u))

/-- CAM_CHANGE (R122): the cam is taken; in FORWARD an opening in WAIT-OPEN brings WAIT-CLOSE and a closing in
WAIT-CLOSE completes the cycle, counted as a rake cycle with the interval timer restarted: IDLE with the outputs off,
or a new cycle at once with the rake-again mark set. SCREEN_SELECTOR_MOVE (R129): Off abandons a cycle and takes IDLE
to OUT, JAMMED stays; Auto takes OUT to IDLE. -/
def Obligations.CamAndScreenSelector : Prop :=
  ∀ (s : State) (dt : Nat),
    exec (.camChange dt s.screen.camClosed) s = .next (s.elapse dt) ∧
    (∀ closed, closed ≠ s.screen.camClosed → (s.screen.state ≠ .forward ∨
        s.screen.camStage ≠ some (if closed then .waitClose else .waitOpen)) →
      exec (.camChange dt closed) s = .next { s.elapse dt with
        screen := { (s.elapse dt).screen with camClosed := closed } }) ∧
    (s.screen.state = .forward → s.screen.camStage = some .waitOpen → s.screen.camClosed = true →
      exec (.camChange dt false) s = .next { s.elapse dt with
        screen := { (s.elapse dt).screen with camClosed := false, camStage := some .waitClose } }) ∧
    (s.screen.state = .forward → s.screen.camStage = some .waitClose → s.screen.camClosed = false →
      ∃ t, exec (.camChange dt true) s = .next t ∧ State.SameBut [.screen, .report] (s.elapse dt) t ∧
        (s.report.interval.isSome → t.report.accumulated = { (s.elapse dt).report.accumulated with
          rakeCycles := (s.elapse dt).report.accumulated.rakeCycles.add 255 1 }) ∧
        t.screen = { (s.elapse dt).screen with
          camClosed := true
          state := if s.screen.rakeAgain then .forward else .idle
          rakeAgain := false
          retries := if s.screen.rakeAgain then 0 else s.screen.retries
          forwardMs := if s.screen.rakeAgain then 0 else (s.elapse dt).screen.forwardMs
          camStage := if s.screen.rakeAgain then some .waitOpen else none
          stateTimer := if s.screen.rakeAgain then s.screen.stateTimer else none
          energiseAt := if s.screen.rakeAgain then s.screen.energiseAt else none
          reverseOn := s.screen.rakeAgain && s.screen.reverseOn
          overcurrentSince := if s.screen.rakeAgain ∧ s.screen.overcurrentInput then some t.now else none
          intervalAt := s.rakeInterval.map fun minutes => t.now + minutes * 60000 }) ∧
    exec (.screenSelectorMove dt s.screen.selector) s = .next (s.elapse dt) ∧
    (∀ position, position ≠ s.screen.selector → ∃ t, exec (.screenSelectorMove dt position) s = .next t ∧
      State.SameBut [.screen] (s.elapse dt) t ∧ t.screen.selector = position ∧
      (¬ s.ended → t.screen = { (s.elapse dt).screen with selector := position }) ∧
      (s.ended → position = .auto → t.screen = { (s.elapse dt).screen with
        selector := .auto, state := if s.screen.state = .out then .idle else s.screen.state }) ∧
      (s.ended → position = .off → s.screen.state = .idle ∨ s.screen.state = .jammed ∨ s.screen.state = .out →
        t.screen = { (s.elapse dt).screen with
          selector := .off, state := if s.screen.state = .idle then .out else s.screen.state }) ∧
      (s.ended → position = .off → s.screen.state = .forward ∨ s.screen.state = .reversing ∨ s.screen.state = .pause →
        t.screen = { (s.elapse dt).screen with
          selector := .off, state := .out, rakeAgain := false, retries := 0, forwardMs := 0, camStage := none
          stateTimer := none, energiseAt := none, reverseOn := false, overcurrentSince := none }))

/-- OVERCURRENT and FORWARD_TIME_LIMIT (R123, R125, R126): overcurrent in FORWARD with fewer than 3 retries made
brings REVERSING for 3 s, its output to be energised after 200 ms; with 3 made, or in REVERSING, the rake is JAMMED,
as it is when the forward time reaches 120 s. A jam puts the outputs off, clears the rake-again mark, is counted, and
makes A8 abnormal. Two clauses are the model's choice: with no overcurrent timed OVERCURRENT lets only time pass (log
entry 3), and FORWARD_TIME_LIMIT in any state but FORWARD lets only time pass (log entry 3), in REVERSING after an
overcurrent of the same moment too (log entry 41). -/
def Obligations.OvercurrentAndForwardLimit : Prop :=
  ∀ (s : State) (dt m : Nat),
    (s.screen.overcurrentSince = none → exec (.overcurrent dt) s = .next (s.elapse dt)) ∧
    (s.screen.state ≠ .forward → exec (.forwardTimeLimit dt) s = .next (s.elapse dt)) ∧
    (s.screen.overcurrentSince = some m → s.screen.state = .forward → s.screen.retries < 3 →
      ∃ t, exec (.overcurrent dt) s = .next t ∧
        State.SelectedFrom { s.reach dt (m + 500) with screen := { (s.reach dt (m + 500)).screen with
          state := .reversing, stateTimer := some (t.now + 3000), energiseAt := some (t.now + 200), camStage := none
          reverseOn := false, overcurrentSince := none } } t) ∧
    (∀ c u cause,
      ((c = .forwardTimeLimit dt ∧ s.screen.state = .forward ∧ cause = .noCycleProof ∧
          u = s.elapse (max dt (120000 - s.screen.forwardMs))) ∨
        (c = .overcurrent dt ∧ s.screen.overcurrentSince = some m ∧ u = s.reach dt (m + 500) ∧
          ((s.screen.state = .forward ∧ 3 ≤ s.screen.retries ∧ cause = .overcurrent) ∨
            (s.screen.state = .reversing ∧ cause = .jammedInReverse)))) →
      ∃ t, exec c s = .next t ∧ State.SameBut [.line, .screen, .alarms, .report] u t ∧
        t.screen = { u.screen with
          state := .jammed, jamCause := some cause, rakeAgain := false, camStage := none, stateTimer := none
          energiseAt := none, reverseOn := false, overcurrentSince := none } ∧
        t.rakeForward = false ∧ t.rakeReverse = false ∧
        (s.report.interval.isSome → t.report.accumulated = { u.report.accumulated with
          jamEvents := u.report.accumulated.jamEvents.add 255 1 }) ∧
        (∀ k, k ≠ .a8 → t.alarm k = s.alarm k) ∧ (s.ended → (t.alarm .a8).abnormal = true))

/-- RAKE_OVERCURRENT_INPUT times an active input only while an output is energised, from its first moment (R124).
REVERSE_ENERGISE energises the reverse output 200 ms into REVERSING (R116), REVERSING_END brings PAUSE for 2 s with
the outputs off, and PAUSE_END brings FORWARD again with one retry more, the forward time going on, and a cam stage
from the cam as it reads (R122, R125). -/
def Obligations.JamRecoverySteps : Prop :=
  ∀ (s : State) (dt m : Nat),
    (∀ active, exec (.rakeOvercurrentInput dt active) s = .next { s.elapse dt with
      screen := { (s.elapse dt).screen with
        overcurrentInput := active
        overcurrentSince := if active ∧ (s.rakeForward ∨ s.rakeReverse) then
          some (s.screen.overcurrentSince.getD (s.now + dt)) else none } }) ∧
    (s.screen.energiseAt = some m → s.screen.state = .reversing →
      exec (.reverseEnergise dt) s = .next { s.reach dt m with screen := { s.screen with
        reverseOn := true
        energiseAt := none
        overcurrentSince := if s.screen.overcurrentInput then some (s.reach dt m).now else none } }) ∧
    (s.screen.state = .reversing → s.screen.stateTimer = some m →
      exec (.reversingEnd dt) s = .next { s.reach dt m with screen := { s.screen with
        state := .pause
        stateTimer := some ((s.reach dt m).now + 2000)
        energiseAt := none
        reverseOn := false
        overcurrentSince := none
        camStage := none } }) ∧
    (s.screen.state = .pause → s.screen.stateTimer = some m →
      exec (.pauseEnd dt) s = .next { s.reach dt m with screen := { s.screen with
        state := .forward
        stateTimer := none
        energiseAt := none
        reverseOn := false
        retries := s.screen.retries + 1
        camStage := some (if s.screen.camClosed then .waitOpen else .waitClose)
        overcurrentSince := if s.screen.overcurrentInput then some (s.reach dt m).now else none } })

/-- BLIND_SET and BLIND_CLEAR (R45, R61, R130, R132): a timer that has run 30 s sets or clears the blinded flag, and
with it the own entry's restricted flag, availability and A7; with the flag so already it has no effect. A station
that is blinded is not available. -/
def Obligations.BlindingSetsAndClears : Prop :=
  ∀ (s : State) (dt m : Nat) (v : Bool), s.pump.Sound →
    (if v then s.screen.blindSetSince else s.screen.blindClearSince) = some m →
    (s.screen.blinded = v →
      exec (if v then .blindSet dt else .blindClear dt) s = .next (s.reach dt (m + 30000))) ∧
    (s.screen.blinded = !v → ∃ t, exec (if v then .blindSet dt else .blindClear dt) s = .next t ∧
      State.SameBut [.line, .peers, .staging, .pump, .screen, .alarms, .report] (s.reach dt (m + 30000)) t ∧
      t.screen = { (s.reach dt (m + 30000)).screen with blinded := v } ∧
      State.AroundThePump [.a5, .a7] (s.reach dt (m + 30000)) t ∧ t.pump.lasting = s.pump.lasting ∧
      (s.pump.state ≠ .claiming → t.pump = s.pump) ∧
      (v = true → t.staging.available = false) ∧
      (∀ own, s.startUp.address = some own → (t.peers.get own).restricted = v) ∧
      (s.ended → (t.alarm .a7).abnormal = v))

/-! ### Outputs -/

/-- The outputs are formed from the state: the contactor (R72, R110), the RUN and FAULT lamps (R98, R99), the SCREEN
lamp (R133), the rake outputs (R116), the horn (R164) and the beacon (R165). A flashing output is lit for a whole half
second and dark for the next (R98, R133, R165). That all of them share one phase, at all times, is the model's choice, and
which phase it is stays a free value (log entry 23). -/
def Obligations.OutputsFollowTheState : Prop :=
  (∀ s : State,
    (s.contactor = true ↔ s.pump.state = .proving ∨ s.pump.state = .running ∨
      (s.pump.state = .hand ∧ (s.pump.handPhase = some .window ∨ s.pump.handPhase = some .proved))) ∧
    (s.runLamp = .steady ↔ s.pump.state = .running ∨
      (s.pump.state = .hand ∧ s.pump.handPhase = some .proved)) ∧
    (s.runLamp = .flashing ↔ s.pump.state = .proving ∨
      (s.pump.state = .hand ∧ s.pump.handPhase = some .window)) ∧
    (s.faultLamp = .steady ↔ s.pump.state = .locked) ∧ (s.faultLamp = .flashing ↔ s.pump.state = .cooling) ∧
    (s.screenLamp = .steady ↔ s.screen.state = .jammed) ∧
    (s.screenLamp = .flashing ↔ s.screen.blinded = true ∧ s.screen.state ≠ .jammed) ∧
    (s.rakeForward = true ↔ s.screen.state = .forward) ∧
    (s.rakeReverse = true ↔ s.screen.state = .reversing ∧ s.screen.reverseOn = true) ∧
    ¬ (s.rakeForward = true ∧ s.rakeReverse = true) ∧
    (s.horn = true ↔ ∃ k, (s.alarmSetting k).horn = true ∧ (s.alarm k).accepted = false) ∧
    (s.beacon = .flashing ↔ ∃ k, (s.alarm k).accepted = false) ∧
    (s.beacon = .steady ↔ (∀ k, (s.alarm k).accepted = true) ∧ ∃ k, (s.alarm k).abnormal = true) ∧
    s.lit .steady = true ∧ s.lit .dark = false) ∧
  ∃ phase : Nat, ∀ s : State, s.lit .flashing = true ↔ (s.now + phase) / 500 % 2 = 0

/-! ### Weir -/

/-- The Weir Unit's step at a probe-cycle completion, by the last NO_REPLY of a cycle with the weir function on: the head
is the weir level over the crest (R137), the flow the rating table's (R138), and a head above its last point is beyond
rating (R139). With a head: DRY to ONSET at the onset head (R141), an onset given up below it, gathered, or opened at the
onset persistence (R142, R143); in OPEN the record gathers and the close head divides OPEN from CLOSING (R144); CLOSING
counts to the close persistence and closes the record with the house time (R145, R148). With none, the gap count goes up
and the persistences stand (R146), and at 1,800 an onset is given up or a record closed by fault (R147); DRY does
nothing. An opening and a close place a SPILL NOTICE (R150), each completion of a spill counts its seconds and litres
(R151), and a full log of 8 drops its oldest record, or the next oldest behind a committed frame, counted on the newest
(R153). -/
def Obligations.WeirStepsAtTheCompletion : Prop :=
  ∀ (s : State) (dt : Nat) (p : ProbeId) (repeats closes : Nat) (c : WeirSettings),
    s.probes.exchange = some ⟨p, false, repeats, .window closes⟩ → s.probes.queue = [] → s.ended →
    s.weir.on = true → s.settings.weir = some c → s.weir.log.length ≤ 8 →
    let logged := fun (r : SpillData) =>
      match s.weir.log with
      | [r1, r2, r3, r4, r5, r6, r7, r8] =>
        if s.carriesSpill ∧ s.line.committed .report then
          [r1, r3, r4, r5, r6, r7, r8, { r with lost := min 255 (1 + r2.lost) }]
        else [r2, r3, r4, r5, r6, r7, r8, { r with lost := min 255 (1 + r1.lost) }]
      | log => log ++ [r]
    ∃ t u, exec (.noReply dt) s = .next t ∧ u = s.reach dt closes ∧ t.weir.on = true ∧
      t.weir.head = t.probes.weir.level.map (fun w => w - c.crest) ∧
      t.weir.flow = t.weir.head.map (ratedFlow c.rating) ∧
      let noticed := fun (f : Frame) =>
        (s.line.onLine .notice = false → t.line.notice = ⟨some f, none⟩) ∧
        (s.line.committed .notice = true → t.line.notice = ⟨s.line.notice.frame, some f⟩) ∧
        (t.line.notice.frame = some f ∨ t.line.notice.next = some f)
      let counted := fun (seconds litres : Nat) => s.report.interval.isSome →
        t.report.accumulated.spillSeconds = u.report.accumulated.spillSeconds.add 65535 seconds ∧
        t.report.accumulated.spillLitres = u.report.accumulated.spillLitres.add 4294967295 litres
      let uncounted := t.report.accumulated.spillSeconds = u.report.accumulated.spillSeconds ∧
        t.report.accumulated.spillLitres = u.report.accumulated.spillLitres
      (∀ h q beyond, t.weir.head = some h → t.weir.flow = some q → beyondRating c.rating h = beyond →
        (s.weir.spill = .dry → t.weir.gapCount = 0 ∧ t.weir.log = s.weir.log ∧ t.line.notice = s.line.notice ∧
          uncounted ∧
          t.weir.spill = if c.onsetHead ≤ h then .onset ⟨s.report.house, q, 1, h, beyond, false, false⟩ else .dry) ∧
        (∀ r, s.weir.spill = .onset r → t.weir.gapCount = 0 ∧ t.weir.log = s.weir.log ∧
          (h < c.onsetHead → t.weir.spill = .dry) ∧
          (c.onsetHead ≤ h → r.count + 1 < c.onsetPersistence → t.weir.spill = .onset { r with
              litres := r.litres + q, count := r.count + 1, peak := max r.peak h
              beyondRating := r.beyondRating || beyond }) ∧
          (h < c.onsetHead ∨ r.count + 1 < c.onsetPersistence → uncounted ∧ t.line.notice = s.line.notice) ∧
          (c.onsetHead ≤ h → c.onsetPersistence ≤ r.count + 1 →
            t.weir.spill = .opened ⟨r.start, none, c.onsetPersistence, max r.peak h, r.litres + q, false,
              r.beyondRating || beyond, r.probeGap, false, r.timeSet, 0⟩ ∧
            noticed (.noticeOpen r.start) ∧ counted c.onsetPersistence (r.litres + q))) ∧
        (∀ r n, s.weir.spill = .opened r ∧ n = 0 ∨ s.weir.spill = .closing r n →
          let r' := { r with
            duration := min 4294967295 (r.duration + 1)
            volume := min 4294967295 (r.volume + q)
            volumeSaturated := r.volumeSaturated || decide (4294967295 < r.volume + q)
            peak := max r.peak h
            beyondRating := r.beyondRating || beyond }
          t.weir.gapCount = 0 ∧ counted 1 q ∧
          (c.closeHead ≤ h → t.weir.spill = .opened r' ∧ t.weir.log = s.weir.log ∧ t.line.notice = s.line.notice) ∧
          (h < c.closeHead → s.weir.spill = .opened r ∨ n + 1 < c.closePersistence →
            t.weir.spill = .closing r' (n + 1) ∧ t.weir.log = s.weir.log ∧ t.line.notice = s.line.notice) ∧
          (h < c.closeHead → s.weir.spill = .closing r n → c.closePersistence ≤ n + 1 →
            t.weir.spill = .dry ∧ t.weir.log = logged { r' with endTime := some s.report.house } ∧
            noticed (.noticeClose { r' with endTime := some s.report.house })))) ∧
      (t.weir.head = none →
        (s.weir.spill = .dry → t.weir.spill = .dry ∧ t.weir.gapCount = s.weir.gapCount ∧
          t.weir.log = s.weir.log ∧ t.line.notice = s.line.notice ∧ uncounted) ∧
        (∀ r, s.weir.spill = .onset r →
          t.weir.spill = (if s.weir.gapCount + 1 < 1800 then .onset { r with probeGap := true } else .dry) ∧
          t.weir.gapCount = (if s.weir.gapCount + 1 < 1800 then s.weir.gapCount + 1 else 0) ∧
          t.weir.log = s.weir.log ∧ t.line.notice = s.line.notice ∧ uncounted) ∧
        (∀ r, (s.weir.spill = .opened r ∨ ∃ n, s.weir.spill = .closing r n) →
          let r' := { r with duration := min 4294967295 (r.duration + 1), probeGap := true }
          counted 1 0 ∧
          (s.weir.gapCount + 1 < 1800 → t.weir.gapCount = s.weir.gapCount + 1 ∧ t.weir.log = s.weir.log ∧
            t.line.notice = s.line.notice ∧
            (s.weir.spill = .opened r → t.weir.spill = .opened r') ∧
            (∀ n, s.weir.spill = .closing r n → t.weir.spill = .closing r' n)) ∧
          (1800 ≤ s.weir.gapCount + 1 → t.weir.gapCount = 0 ∧ t.weir.spill = .dry ∧
            t.weir.log = logged { r' with endTime := some s.report.house, closedByFault := true } ∧
            noticed (.noticeClose { r' with endTime := some s.report.house, closedByFault := true }))))

/-! ### The evaluation and the rank -/

/-- The picture that an evaluation forms, first by an ISOLATED_START_DELAY_END with the pump in OUT, so that no wish acts:
the house level is the median of the FRESH levels, the higher middle one of an even count (R50); the level source and
float mode (R51); each stage latch against its applied levels (R52, R53); D, 12 in all-out (R57); and D_auto, less the
pumps in HAND (R58). Then, in any pump state, by that command or at a completion with the weir function off and no bay
cut-out: the rank (R60); the stop wish, in RUNNING only, for a rank at or above D_auto (R63), on an isolated station for a
D below its address (R66), in float mode for a STOP float not closed (R66, R67); the start wish of a READY or CLAIMING
station whose start conditions hold, for a rank below D_auto (R62) or in float mode for a closed START float (R67), and on
an isolated READY station whose guard runs, for a start delay that is DONE (R66); and, while the pump state stands, the
limit-held indication: a READY station with a full start list, every other start condition and that demand, by the rank it
would take if it were available (R64). -/
def Obligations.EvaluationFormsThePicture : Prop :=
  (∀ (s : State) (dt m : Nat), s.ended → s.staging.startDelay = .running m → s.pump.Sound → s.pump.state = .out →
    s.OwnPublished →
    ∃ t, exec (.isolatedStartDelayEnd dt) s = .next t ∧
      State.SameBut [.line, .peers, .staging, .pump, .alarms, .report] (s.reach dt m) t ∧
      t.pump = { s.pump with starts := t.pump.starts } ∧ t.staging.startWish = .notHeld ∧
      (∀ k, k ∉ [.a1, .a6] → t.alarm k = s.alarm k) ∧
      (t.staging.houseLevel = none ↔ ∀ a, (s.peers.get a).presence = .fresh → (s.peers.get a).level = none) ∧
      (∀ x, t.staging.houseLevel = some x →
        let levels := (twelvePlaces.filter fun a => decide ((s.peers.get a).presence = .fresh)).filterMap
          fun a => (s.peers.get a).level
        x ∈ levels ∧ 2 * levels.countP (fun y => decide (y < x)) ≤ levels.length ∧
          2 * levels.countP (fun y => decide (x < y)) < levels.length) ∧
      t.staging.levelSource = (if s.startUp.address = none then none
        else if s.isolated then s.bayLevel else t.staging.houseLevel) ∧
      (t.staging.floatMode = true ↔ s.startUp.address = none ∨ s.settings.stages = none ∨ s.settings.levels = none ∨
        t.staging.levelSource = none) ∧
      (t.staging.levelSource = none → t.staging.latches = s.staging.latches) ∧
      (∀ l c, t.staging.levelSource = some l → s.settings.stages = some c →
        t.staging.latches.length = c.levels.length ∧
        ∀ i start stop, c.levels[i]? = some (start, stop) →
          let floor := s.cutOut + 300
          let start' := max floor (start - s.staging.drawdownOffset)
          let stop' := max floor (stop - s.staging.drawdownOffset)
          (start' ≤ l → t.staging.latches[i]? = some true) ∧
          (l ≤ stop' → l < start' → t.staging.latches[i]? = some false) ∧
          (stop' < l → l < start' → t.staging.latches[i]? = some (s.staging.latches.getD i false))) ∧
      t.staging.d = (if (∃ a, (s.peers.get a).presence = .fresh ∧ (s.peers.get a).spillOpen = true) ∨
          (∃ a, s.staging.noticeMarks.get a = true) ∨
          (s.startUp.address = none ∧ s.weir.spill.isOpen = true) ∨ s.floats.high.presented = .closed
        then 12 else t.staging.latches.count true) ∧
      t.staging.dAuto = t.staging.d - (twelvePlaces.filter fun a =>
        decide ((s.peers.get a).presence = .fresh) && decide ((s.peers.get a).summary = .hand)).length) ∧
  (∀ (s : State) (dt m : Nat) (q : ProbeId) (repeats : Nat) (c : Instr), s.ended → s.pump.Sound → s.OwnPublished →
    ((c = .isolatedStartDelayEnd dt ∧ s.staging.startDelay = .running m) ∨
      (c = .noReply dt ∧ s.probes.exchange = some ⟨q, false, repeats, .window m⟩ ∧ s.probes.queue = [] ∧
        s.weir.on = false)) →
    ∃ t, exec c s = .next t ∧ t.isolated = s.isolated ∧ ((c = .noReply dt → t.atCutOut t.bayLevel = false) →
      let wanted := fun (rank : Option Nat) =>
        if s.isolated then t.staging.startDelay = .done
        else if t.staging.floatMode then s.floats.start.presented = .closed
        else ∃ r, rank = some r ∧ r < t.staging.dAuto
      (t.pump.state = s.pump.state → t.staging.rank = t.rankNow) ∧
      (s.pump.state ≠ .running → t.staging.stopWish = false) ∧
      (s.pump.state = .running → (t.staging.stopWish = true ↔
        if t.staging.floatMode then s.floats.stop.presented ≠ .closed
        else if s.isolated then ∃ own, s.startUp.address = some own ∧ t.staging.d < own.number
        else ∃ r, t.staging.rank = some r ∧ t.staging.dAuto ≤ r)) ∧
      (s.pump.state ≠ .ready → s.pump.state ≠ .claiming → t.staging.startWish = .notHeld) ∧
      (s.isolated = false → s.pump.state = .ready ∨ s.pump.state = .claiming →
        t.staging.startWish ≠ .unclaimed ∧
        (t.staging.startWish = .claimed ↔ t.startConditions = true ∧ wanted t.staging.rank)) ∧
      (s.isolated = true → s.pump.state = .ready → s.pump.guard.isSome →
        t.staging.startWish ≠ .claimed ∧
        (t.staging.startWish = .unclaimed ↔ t.startConditions = true ∧ wanted t.staging.rank)) ∧
      (t.pump.state = s.pump.state → (t.staging.limitHeld = true ↔
        s.pump.state = .ready ∧ t.startLimited = true ∧ t.otherStartConditions = true ∧
          wanted t.rankIfAvailable))))

/-- The eligible set holds the FRESH entries that are auto and are running or available: running by a pump summary of
STARTING or RUNNING, or by a claim mark, which also makes the entry auto, unless the entry shows HAND (R59, R60). Its three
groups are running and not restricted, running and restricted, and not running; the credit that orders an entry is the one
recorded with its claim mark, or else its own (R59, R60). A station has a rank exactly when its own entry is eligible, and
without an address it has none. Two stations that hold the same table and the same claim marks take different ranks, below
the size of the eligible set: the order of the set, by group, credit and address, is one order for all (R59, R60). -/
def Obligations.RanksAreDistinct : Prop :=
  (∀ (s : State) (c : BayAddress) (e : PeerEntry) (m : Option Nat) (claims running : Bool),
    e = s.peers.get c → m = s.staging.claimMarks.get c → claims = (m.isSome && decide (e.summary ≠ .hand)) →
    running = (decide (e.summary = .starting) || decide (e.summary = .running) || claims) →
    (s.eligible c = true ↔
      e.presence = .fresh ∧ (e.auto = true ∨ claims = true) ∧ (running = true ∨ e.available = true)) ∧
    (running = true → e.restricted = false → s.group c = 1) ∧
    (running = true → e.restricted = true → s.group c = 2) ∧ (running = false → s.group c = 3) ∧
    (m = none → s.rankCredit c = e.credit) ∧ (∀ x, m = some x → s.rankCredit c = x) ∧
    (s.startUp.address = none → s.rankNow = none)) ∧
  ∀ (s t : State) (a b : BayAddress), s.startUp.address = some a → t.startUp.address = some b → a ≠ b →
    t.peers = s.peers → t.staging.claimMarks = s.staging.claimMarks →
    (s.rankNow.isSome = s.eligible a) ∧
    (∀ i, s.rankNow = some i → i < (twelvePlaces.filter s.eligible).length) ∧
    (∀ i j, s.rankNow = some i → t.rankNow = some j →
      i ≠ j ∧ (i < j ↔ s.group a < s.group b ∨ (s.group a = s.group b ∧ (s.rankCredit a < s.rankCredit b ∨
        (s.rankCredit a = s.rankCredit b ∧ a < b)))))

/-! ### Alarms and reports -/

/-- A condition that turns abnormal, and one that turns normal, of every kind, and A8's by its commands: the jam at
FORWARD_TIME_LIMIT and LATCH_RESET (R157 to R159). With report enable yes a turn to abnormal latches a raise with the
snapshot and the cause its owner hands, counts a repeat behind a pending raise, or counts as chatter on a kind that is
not armed, and drops a pending clear, whose frame in the REPORT slot then carries an item that is pending no more (R162);
a turn to normal latches a clear with the house time, in raise-and-clear mode, when the raise is outstanding. A condition
that stands already turns nothing, and what a block hands over is the condition as it stands (R156): A9 is abnormal while a
fitted probe has quality FAULT, a float is in WIRE FAULT or the contradiction flag is set (R19), A12 while an entry other
than the own one is FRESH, has a STATUS held and holds a digest other than the station's own (R47), A10 while the station
is isolated after start-up (R40), A5 in LOCKED (R95), A8 in JAMMED (R126), and A2 without a healthy supply or under the
hold, after start-up (R102). -/
def Obligations.AlarmTurnsAreLatched : Prop :=
  (∀ (s t : State) (k : AlarmKind) (n : Snapshot), s.ended → t = s.turnAbnormal k n →
    ((s.alarm k).abnormal = true → t = s) ∧
    ((s.alarm k).abnormal = false → State.SameBut [.alarms, .report] s t ∧ (∀ j, j ≠ k → t.alarm j = s.alarm j) ∧
      t.report = { s.report with itemGone := s.report.itemGone || ((s.alarmSetting k).report &&
        (s.alarm k).clear.isSome && decide (s.line.report.frame.bind Frame.item = some (.clear k))) } ∧
      ((s.alarmSetting k).report = false → t.alarm k = { s.alarm k with
        abnormal := true, normalSince := none, accepted := false }) ∧
      ((s.alarmSetting k).report = true → t.alarm k = { s.alarm k with
        abnormal := true
        normalSince := none
        accepted := false
        clear := none
        outstanding := (s.alarm k).outstanding || (s.alarm k).clear.isSome ||
          ((s.alarm k).raise.isNone && (s.alarm k).armed)
        raise := if (s.alarm k).raise = none ∧ (s.alarm k).armed = true then some ⟨n, s.cause k⟩
          else (s.alarm k).raise
        repeats := if (s.alarm k).raise.isSome then min 255 ((s.alarm k).repeats + 1) else (s.alarm k).repeats
        chatter := if (s.alarm k).raise = none ∧ (s.alarm k).armed = false then min 255 ((s.alarm k).chatter + 1)
          else (s.alarm k).chatter }))) ∧
  (∀ (s t : State) (k : AlarmKind), s.ended → t = s.turnNormal k →
    ((s.alarm k).abnormal = false → t = s) ∧
    ((s.alarm k).abnormal = true → State.SameBut [.alarms] s t ∧ (∀ j, j ≠ k → t.alarm j = s.alarm j) ∧
      t.alarm k = { s.alarm k with
        abnormal := false
        normalSince := some s.now
        clear := if (s.alarmSetting k).report ∧ (s.alarmSetting k).raiseAndClear ∧ (s.alarm k).outstanding
          then some s.report.house else (s.alarm k).clear
        outstanding := (s.alarm k).outstanding && !((s.alarmSetting k).report &&
          (s.alarmSetting k).raiseAndClear) })) ∧
  (∀ (s : State) (l : List Snapshot) (k : AlarmKind), s.ended →
    ((s.handOver l k).alarm k).abnormal = s.condition k) ∧
  (∀ s : State,
    (s.condition .a9 = false ↔ (∀ p, (s.probes.record p).fitted = true → (s.probes.record p).quality ≠ .fault) ∧
      (∀ f, (s.floats.record f).state ≠ .wireFault) ∧ s.floats.contradiction = false) ∧
    (s.condition .a12 = false ↔ ∀ a, s.startUp.address ≠ some a → (s.peers.get a).presence = .fresh →
      (s.peers.get a).statusHeld = true → (s.peers.get a).digest = s.startUp.digest) ∧
    (s.condition .a10 = true ↔ s.ended ∧ (s.line.txEnabled = false ∨ s.line.lineHeld = true)) ∧
    (s.condition .a5 = true ↔ s.pump.state = .locked) ∧ (s.condition .a8 = true ↔ s.screen.state = .jammed) ∧
    (s.condition .a2 = true ↔ s.ended ∧ (s.supply.healthy = false ∨ s.supply.hold = true))) ∧
  ∀ (s : State) (dt since : Nat), s.ended →
    (s.screen.state = .forward → (s.alarm .a8).abnormal = false → ∃ t, exec (.forwardTimeLimit dt) s = .next t ∧
      (t.alarm .a8).abnormal = true ∧ (t.alarm .a8).normalSince = none ∧ (t.alarm .a8).accepted = false ∧
      (t.alarm .a8).armed = (s.alarm .a8).armed ∧
      ((s.alarmSetting .a8).report = false → t.alarm .a8 = { s.alarm .a8 with
        abnormal := true, normalSince := none, accepted := false }) ∧
      ((s.alarmSetting .a8).report = true → (t.alarm .a8).clear = none ∧
        (t.alarm .a8).outstanding = ((s.alarm .a8).outstanding || (s.alarm .a8).clear.isSome ||
          ((s.alarm .a8).raise.isNone && (s.alarm .a8).armed)) ∧
        ((s.alarm .a8).raise.isSome → (t.alarm .a8).raise = (s.alarm .a8).raise ∧
          (t.alarm .a8).repeats = min 255 ((s.alarm .a8).repeats + 1) ∧
          (t.alarm .a8).chatter = (s.alarm .a8).chatter) ∧
        ((s.alarm .a8).raise = none → (s.alarm .a8).armed = true →
          (t.alarm .a8).raise = some ⟨t.snapshot, .jam .noCycleProof⟩ ∧
          (t.alarm .a8).repeats = (s.alarm .a8).repeats ∧ (t.alarm .a8).chatter = (s.alarm .a8).chatter) ∧
        ((s.alarm .a8).raise = none → (s.alarm .a8).armed = false → (t.alarm .a8).raise = none ∧
          (t.alarm .a8).repeats = (s.alarm .a8).repeats ∧
          (t.alarm .a8).chatter = min 255 ((s.alarm .a8).chatter + 1)))) ∧
    (s.startUp.resetButton = .pressed since → s.now + dt < since + 5000 → s.screen.state = .jammed →
      (s.alarm .a8).abnormal = true → ∃ t, exec (.latchReset dt) s = .next t ∧
        t.alarm .a8 = { s.alarm .a8 with
          abnormal := false
          accepted := true
          normalSince := some t.now
          clear := if (s.alarmSetting .a8).report ∧ (s.alarmSetting .a8).raiseAndClear ∧ (s.alarm .a8).outstanding
            then some t.report.house else (s.alarm .a8).clear
          outstanding := (s.alarm .a8).outstanding && !((s.alarmSetting .a8).report &&
            (s.alarmSetting .a8).raiseAndClear) })

/-- The selection of a report item (R176 to R178): the kinds in order, a kind's raise before its clear, then the
oldest spill record, then the oldest closed interval; placed in an empty slot while the town is present, put in the
place of a frame carrying another item unless that is committed, when the withdrawal stands, and left alone while the
slot carries it already, the town is absent or a withdrawal stands. Every command makes the selection that its effect on
the pending items, on the town's presence or on the slot calls for: where nothing was left to select before it and the
slot had no next frame, the same holds after it. -/
def Obligations.SelectionPlacesTheFirstItem : Prop :=
  (∀ (c : Instr) (s t : State), s.SelectionSettled → exec c s = .next t → t.SelectionSettled) ∧
  ∀ s : State,
    (∀ k, (s.alarm k).raise.isSome → (∀ j, j.number < k.number → (s.alarm j).raise = none ∧ (s.alarm j).clear = none) →
      s.selected = some (.raise k)) ∧
    (∀ k, (s.alarm k).raise = none → (s.alarm k).clear.isSome →
      (∀ j, j.number < k.number → (s.alarm j).raise = none ∧ (s.alarm j).clear = none) →
      s.selected = some (.clear k)) ∧
    ((∀ j, (s.alarm j).raise = none ∧ (s.alarm j).clear = none) →
      s.selected = if s.weir.log ≠ [] then some .spill else if s.report.queue ≠ [] then some .interval else none) ∧
    (s.line.reportWithdrawal = true → s.select = s) ∧
    (s.line.reportWithdrawal = false → s.line.report.frame = none → s.report.townPresent = false → s.select = s) ∧
    (s.line.reportWithdrawal = false → s.line.onLine .report = false → s.report.townPresent = true →
      (s.line.report.frame = none ∨ s.carried ≠ s.selected ∨ s.selected = none) →
      s.select.line.report.frame = s.selected.bind s.itemFrame) ∧
    (s.line.reportWithdrawal = false → s.line.report.frame.isSome → s.selected.isSome → s.carried = s.selected →
      s.select = s) ∧
    (s.line.reportWithdrawal = false → s.line.report.frame.isSome → s.report.itemGone = false →
      s.report.townPresent = false → s.select = s) ∧
    (s.line.reportWithdrawal = false → s.line.report.frame.isSome → s.line.committed .report = true →
      s.report.townPresent = true → s.carried ≠ s.selected →
      s.select = { s with line := { s.line with report := ⟨s.line.report.frame, none⟩, reportWithdrawal := true } })

/-! ### The whole machine -/

/-- After the end of start-up the settings, the address, the digest and the validity of the configuration stand until
a power-up or restart (R180, R181), and only a latch reset, a power-up or a restart unlatches a line fault (R41),
clears the supply hold (R106) or takes a pump out of LOCKED (R95, R97) or a screen out of JAMMED (R127). -/
def Obligations.OnlyResetsUndoLatches : Prop :=
  ∀ (c : Instr) (s t : State), s.ended → s.PumpSound → exec c s = .next t → c ≠ .powerUp → (∀ dt, c ≠ .restart dt) →
    t.ended ∧ t.startUp.settings = s.startUp.settings ∧ t.startUp.address = s.startUp.address ∧
    t.startUp.digest = s.startUp.digest ∧ t.startUp.memory = s.startUp.memory ∧
    t.startUp.checksum = s.startUp.checksum ∧ t.startUp.valid = s.startUp.valid ∧
    ((∀ dt, c ≠ .latchReset dt) →
      (s.line.txHeld = true → t.line.txHeld = true) ∧ (s.line.notFollowing = true → t.line.notFollowing = true) ∧
      (s.line.addressConflict = true → t.line.addressConflict = true) ∧
      (s.line.txEnabled = false → t.line.txEnabled = false) ∧
      (s.supply.hold = true → t.supply.hold = true) ∧
      (s.pump.state = .locked → t.pump.state = .locked ∧ t.pump.lockCause = s.pump.lockCause) ∧
      (s.screen.state = .jammed → t.screen.state = .jammed ∧ t.screen.jamCause = s.screen.jamCause))

/-- Whatever frame passes the checks of R31 is received as it was sent: its bits on the line, with their stuff bits
and their check, are read back to its class, sender and payload (R22 to R24, R31). Its payload carries its values as 12.2
to 12.4 lay them out, each number most significant byte first (R191): a STATUS, a CLAIM and a SPILL NOTICE that a bay
station sends pass the checks, and a receiver reads their values from them (R44, R56, R59); an ALARM REPORT, a SPILL
RECORD and an INTERVAL REPORT hold theirs in the bytes the tables name. -/
def Obligations.FramesAreHeardAsSent : Prop :=
  (∀ (cls sender : Nat) (payload : List Byte), sender < 16 → frameFault cls sender payload = none →
    hear (lineBits cls sender payload) = .frame cls sender payload) ∧
  (∀ f : Frame, (f.cls, f.payload.length) ∈ [(0, 3), (1, 19), (3, 9), (4, 22), (5, 21), (6, 24)]) ∧
  (∀ (e : PeerEntry) (bay channel weir : AtLimit) (sender : BayAddress) (p : List Byte) (limit : AtLimit → Nat),
    p = (Frame.status e bay channel weir).payload → LevelInRange e.level → e.credit ≤ 1440 → e.digest < 65536 →
    limit .clear = 0 → limit .over = 1 → limit .under = 2 →
    p.map BitVec.toNat = [(e.level.getD 65535) / 256, (e.level.getD 65535) % 256, e.summary.code,
      e.auto.toNat + 2 * e.available.toNat + 4 * e.restricted.toNat + 8 * e.startLimited.toNat +
        16 * e.isolated.toNat + 32 * e.spillOpen.toNat,
      e.credit / 256, e.credit % 256, e.digest / 256, e.digest % 256,
      limit bay + 4 * limit channel + 16 * limit weir] ∧
    [.startup, .out, .hand, .ready, .starting, .running, .stopping, .cooling, .locked][e.summary.code]? =
      some e.summary ∧
    frameFault 3 sender.number p = none ∧
    readStatus p = ⟨e.level, e.summary, e.auto, e.available, e.restricted, e.spillOpen, e.credit, e.digest⟩) ∧
  (∀ (dAuto credit : Nat) (sender : BayAddress) (p : List Byte), p = (Frame.claim dAuto credit).payload → dAuto ≤ 12 →
    credit ≤ 1440 → p.map BitVec.toNat = [dAuto, credit / 256, credit % 256] ∧
    frameFault 0 sender.number p = none ∧ claimCredit p = credit) ∧
  (∀ (start finish : HouseTime) (r : SpillData) (sender : BayAddress) (p q : List Byte),
    p = (Frame.noticeOpen start).payload → q = (Frame.noticeClose r).payload → r.endTime = some finish →
    start.InRange → r.start.InRange → finish.InRange → r.duration ≤ 4294967295 → r.volume ≤ 4294967295 →
    frameFault 1 sender.number p = none ∧ frameFault 1 sender.number q = none ∧
    noticeIsOpen p = true ∧ noticeIsOpen q = false ∧
    p.map BitVec.toNat = [0, start.day / 256, start.day % 256, 128 * start.sync.toNat + start.second / 65536,
      start.second / 256 % 256, start.second % 256, 0, 0, 0, 0, 0, 0, 0, 0, 0, 0, 0, 0, 0] ∧
    field q 0 1 = 1 ∧ field q 1 2 = r.start.day ∧ field q 3 3 = 8388608 * r.start.sync.toNat + r.start.second ∧
    field q 6 2 = finish.day ∧ field q 8 3 = 8388608 * finish.sync.toNat + finish.second ∧
    field q 11 4 = r.duration ∧ field q 15 3 = (r.volume + 500) / 1000 ∧
    field q 18 1 = r.beyondRating.toNat + 2 * r.probeGap.toNat + 4 * r.closedByFault.toNat + 8 * r.timeSet.toNat) ∧
  (∀ (k : AlarmKind) (r : PendingRaise) (repeats chatter : Nat) (m : HouseTime) (p q : List Byte),
    p = (Frame.alarmRaise k r repeats chatter).payload → q = (Frame.alarmClear k m).payload → repeats ≤ 255 →
    chatter ≤ 255 → m.InRange → r.snapshot.house.InRange → LevelInRange r.snapshot.houseLevel →
    LevelInRange r.snapshot.bayLevel → LevelInRange r.snapshot.channelLevel → LevelInRange r.snapshot.weirHead →
    r.snapshot.d ≤ 12 → r.snapshot.dAuto ≤ 12 → (∀ x ∈ r.snapshot.rank, x ≤ 11) → r.snapshot.freshPeers ≤ 12 →
    field p 0 1 = k.number ∧ field p 1 2 = r.snapshot.house.day ∧
    field p 3 3 = 8388608 * r.snapshot.house.sync.toNat + r.snapshot.house.second ∧
    field p 6 2 = r.snapshot.houseLevel.getD 65535 ∧ field p 8 2 = r.snapshot.bayLevel.getD 65535 ∧
    field p 10 2 = r.snapshot.channelLevel.getD 65535 ∧ field p 12 2 = r.snapshot.weirHead.getD 65535 ∧
    field p 14 1 = r.snapshot.d ∧ field p 15 1 = r.snapshot.dAuto ∧ field p 16 1 = r.snapshot.rank.getD 255 ∧
    field p 17 1 = 16 * r.snapshot.pump.code + r.snapshot.screen.code ∧
    [.idle, .forward, .reversing, .pause, .jammed, .out][r.snapshot.screen.code]? = some r.snapshot.screen ∧
    field p 18 1 = r.snapshot.freshPeers ∧
    (r.cause = .noCause → field p 19 1 = 0) ∧
    (∀ c, r.cause = .lock c →
      [.earlyProof, .notReleasing, .withoutCommand, .repeatedFailures][field p 19 1 - 1]? = some c ∧
      1 ≤ field p 19 1) ∧
    (∀ c, r.cause = .jam c →
      [.noCycleProof, .overcurrent, .jammedInReverse][field p 19 1 - 1]? = some c ∧ 1 ≤ field p 19 1) ∧
    field p 20 1 = repeats ∧ field p 21 1 = chatter ∧
    field q 0 1 = 128 + k.number ∧ field q 1 2 = m.day ∧ field q 3 3 = 8388608 * m.sync.toNat + m.second ∧
    ∀ b ∈ q.drop 6, b = 0) ∧
  (∀ (r : SpillData) (finish : HouseTime) (p : List Byte), p = (Frame.spillRecord r).payload →
    r.endTime = some finish → r.start.InRange → finish.InRange → r.duration ≤ 4294967295 → r.peak ≤ 9999 →
    r.volume ≤ 4294967295 → r.lost ≤ 255 →
    field p 0 2 = r.start.day ∧ field p 2 3 = 8388608 * r.start.sync.toNat + r.start.second ∧
    field p 5 2 = finish.day ∧ field p 7 3 = 8388608 * finish.sync.toNat + finish.second ∧
    field p 10 4 = r.duration ∧ field p 14 2 = r.peak ∧ field p 16 3 = (r.volume + 500) / 1000 ∧
    field p 19 1 = r.beyondRating.toNat + 2 * r.probeGap.toNat + 4 * r.closedByFault.toNat + 8 * r.timeSet.toNat +
      16 * r.volumeSaturated.toNat ∧
    field p 20 1 = r.lost) ∧
  (∀ (r : IntervalRecord) (p : List Byte), p = (Frame.intervalReport r).payload → r.start.InRange →
    r.length ≤ 86400 → r.counts.InRange → LevelInRange r.counts.peak → r.lost ≤ 255 →
    field p 0 2 = r.start.day ∧
    field p 2 3 = r.start.second + 131072 * (64 * r.counts.runSeconds.saturated.toNat +
      32 * r.counts.starts.saturated.toNat + 16 * r.counts.failedStarts.saturated.toNat +
      8 * r.counts.rakeCycles.saturated.toNat + 4 * r.counts.jamEvents.saturated.toNat +
      2 * r.counts.spillSeconds.saturated.toNat + r.counts.supplyLosses.saturated.toNat) ∧
    field p 5 4 = 2147483648 * r.unsync.toNat + 1073741824 * r.timeSet.toNat +
      (r.counts.peak.getD 10000 * 86401 + r.length) ∧
    field p 9 2 = r.counts.runSeconds.value ∧ field p 11 1 = r.counts.starts.value ∧
    field p 12 1 = r.counts.failedStarts.value ∧ field p 13 1 = r.counts.rakeCycles.value ∧
    field p 14 1 = r.counts.jamEvents.value ∧ field p 15 2 = r.counts.spillSeconds.value ∧
    field p 17 3 = 8388608 * r.counts.lineErrors.saturated.toNat +
      (if r.counts.spillLitres.saturated then 8388607 else (r.counts.spillLitres.value + 500) / 1000) ∧
    field p 20 1 = r.counts.supplyLosses.value ∧ field p 21 2 = r.counts.lineErrors.value ∧ field p 23 1 = r.lost)

/-- Each item and each running time of the pump stands only in the states it belongs to, whatever command a step takes
(R71, R76, R87 to R92, R110). -/
def Obligations.PumpStaysSound : Prop :=
  ∀ s t : State, s.PumpSound → step s = .next t → t.PumpSound

/-- The screen's items stand only in the states they belong to (R115, R116, R124), and an attempt stands only on a
line that is not idle with the transmitter enabled, which no latched line fault allows (R26, R30, R41), whatever
command a step takes. -/
def Obligations.ScreenAndLineStaySound : Prop :=
  ∀ s t : State, s.screen.Sound → s.LineSound → step s = .next t → t.screen.Sound ∧ t.LineSound

/-- The own entry goes on showing the station's pump summary, flags and spill-open field, whatever command a step
takes (R45). -/
def Obligations.OwnEntryStaysPublished : Prop :=
  ∀ s t : State, s.OwnPublished → s.PumpSound → step s = .next t → t.OwnPublished

/-- Counts, logs, queues, house time and levels stay in their ranges, whatever command a step takes (R9, R43, R68,
R93, R123, R125, R153, R166, R169, R171, R175). -/
def Obligations.CountsAndLevelsStayInRange : Prop :=
  ∀ s t : State, s.CountsInRange → s.LevelsInRange → step s = .next t → t.CountsInRange ∧ t.LevelsInRange

/-- The machine right after power-up satisfies every invariant (R190). The reset values that the manual does not give
are the model's choice (log entry 17). -/
def Obligations.InvariantsHoldAtReset : Prop :=
  State.reset.PumpSound ∧ State.reset.screen.Sound ∧ State.reset.LineSound ∧ State.reset.OwnPublished ∧
    State.reset.SelectionSettled ∧ State.reset.CountsInRange ∧ State.reset.LevelsInRange
end

