-- ==== Sys2Proof/Laws/State.lean ====
section
/-! SUPPORT. One lemma per field per update of the state, each true by unfolding, so that no proof unfolds a record
update. -/

namespace Sys2Proof.Machine

variable (s : State)

/-! ### onStartUp -/

@[simp] theorem State.onStartUp_now (f : StartUp → StartUp) : (s.onStartUp f).now = s.now := rfl
@[simp] theorem State.onStartUp_startUp (f : StartUp → StartUp) : (s.onStartUp f).startUp = f s.startUp := rfl
@[simp] theorem State.onStartUp_probes (f : StartUp → StartUp) : (s.onStartUp f).probes = s.probes := rfl
@[simp] theorem State.onStartUp_floats (f : StartUp → StartUp) : (s.onStartUp f).floats = s.floats := rfl
@[simp] theorem State.onStartUp_line (f : StartUp → StartUp) : (s.onStartUp f).line = s.line := rfl
@[simp] theorem State.onStartUp_peers (f : StartUp → StartUp) : (s.onStartUp f).peers = s.peers := rfl
@[simp] theorem State.onStartUp_staging (f : StartUp → StartUp) : (s.onStartUp f).staging = s.staging := rfl
@[simp] theorem State.onStartUp_pump (f : StartUp → StartUp) : (s.onStartUp f).pump = s.pump := rfl
@[simp] theorem State.onStartUp_supply (f : StartUp → StartUp) : (s.onStartUp f).supply = s.supply := rfl
@[simp] theorem State.onStartUp_screen (f : StartUp → StartUp) : (s.onStartUp f).screen = s.screen := rfl
@[simp] theorem State.onStartUp_weir (f : StartUp → StartUp) : (s.onStartUp f).weir = s.weir := rfl
@[simp] theorem State.onStartUp_alarms (f : StartUp → StartUp) : (s.onStartUp f).alarms = s.alarms := rfl
@[simp] theorem State.onStartUp_report (f : StartUp → StartUp) : (s.onStartUp f).report = s.report := rfl
@[simp] theorem State.onStartUp_panel (f : StartUp → StartUp) : (s.onStartUp f).panel = s.panel := rfl
@[simp] theorem State.onStartUp_draws (f : StartUp → StartUp) : (s.onStartUp f).draws = s.draws := rfl
@[simp] theorem State.onStartUp_pending (f : StartUp → StartUp) : (s.onStartUp f).pending = s.pending := rfl

/-! ### onProbes -/

@[simp] theorem State.onProbes_now (f : ProbeUnit → ProbeUnit) : (s.onProbes f).now = s.now := rfl
@[simp] theorem State.onProbes_startUp (f : ProbeUnit → ProbeUnit) : (s.onProbes f).startUp = s.startUp := rfl
@[simp] theorem State.onProbes_probes (f : ProbeUnit → ProbeUnit) : (s.onProbes f).probes = f s.probes := rfl
@[simp] theorem State.onProbes_floats (f : ProbeUnit → ProbeUnit) : (s.onProbes f).floats = s.floats := rfl
@[simp] theorem State.onProbes_line (f : ProbeUnit → ProbeUnit) : (s.onProbes f).line = s.line := rfl
@[simp] theorem State.onProbes_peers (f : ProbeUnit → ProbeUnit) : (s.onProbes f).peers = s.peers := rfl
@[simp] theorem State.onProbes_staging (f : ProbeUnit → ProbeUnit) : (s.onProbes f).staging = s.staging := rfl
@[simp] theorem State.onProbes_pump (f : ProbeUnit → ProbeUnit) : (s.onProbes f).pump = s.pump := rfl
@[simp] theorem State.onProbes_supply (f : ProbeUnit → ProbeUnit) : (s.onProbes f).supply = s.supply := rfl
@[simp] theorem State.onProbes_screen (f : ProbeUnit → ProbeUnit) : (s.onProbes f).screen = s.screen := rfl
@[simp] theorem State.onProbes_weir (f : ProbeUnit → ProbeUnit) : (s.onProbes f).weir = s.weir := rfl
@[simp] theorem State.onProbes_alarms (f : ProbeUnit → ProbeUnit) : (s.onProbes f).alarms = s.alarms := rfl
@[simp] theorem State.onProbes_report (f : ProbeUnit → ProbeUnit) : (s.onProbes f).report = s.report := rfl
@[simp] theorem State.onProbes_panel (f : ProbeUnit → ProbeUnit) : (s.onProbes f).panel = s.panel := rfl
@[simp] theorem State.onProbes_draws (f : ProbeUnit → ProbeUnit) : (s.onProbes f).draws = s.draws := rfl
@[simp] theorem State.onProbes_pending (f : ProbeUnit → ProbeUnit) : (s.onProbes f).pending = s.pending := rfl

/-! ### onFloats -/

@[simp] theorem State.onFloats_now (f : FloatUnit → FloatUnit) : (s.onFloats f).now = s.now := rfl
@[simp] theorem State.onFloats_startUp (f : FloatUnit → FloatUnit) : (s.onFloats f).startUp = s.startUp := rfl
@[simp] theorem State.onFloats_probes (f : FloatUnit → FloatUnit) : (s.onFloats f).probes = s.probes := rfl
@[simp] theorem State.onFloats_floats (f : FloatUnit → FloatUnit) : (s.onFloats f).floats = f s.floats := rfl
@[simp] theorem State.onFloats_line (f : FloatUnit → FloatUnit) : (s.onFloats f).line = s.line := rfl
@[simp] theorem State.onFloats_peers (f : FloatUnit → FloatUnit) : (s.onFloats f).peers = s.peers := rfl
@[simp] theorem State.onFloats_staging (f : FloatUnit → FloatUnit) : (s.onFloats f).staging = s.staging := rfl
@[simp] theorem State.onFloats_pump (f : FloatUnit → FloatUnit) : (s.onFloats f).pump = s.pump := rfl
@[simp] theorem State.onFloats_supply (f : FloatUnit → FloatUnit) : (s.onFloats f).supply = s.supply := rfl
@[simp] theorem State.onFloats_screen (f : FloatUnit → FloatUnit) : (s.onFloats f).screen = s.screen := rfl
@[simp] theorem State.onFloats_weir (f : FloatUnit → FloatUnit) : (s.onFloats f).weir = s.weir := rfl
@[simp] theorem State.onFloats_alarms (f : FloatUnit → FloatUnit) : (s.onFloats f).alarms = s.alarms := rfl
@[simp] theorem State.onFloats_report (f : FloatUnit → FloatUnit) : (s.onFloats f).report = s.report := rfl
@[simp] theorem State.onFloats_panel (f : FloatUnit → FloatUnit) : (s.onFloats f).panel = s.panel := rfl
@[simp] theorem State.onFloats_draws (f : FloatUnit → FloatUnit) : (s.onFloats f).draws = s.draws := rfl
@[simp] theorem State.onFloats_pending (f : FloatUnit → FloatUnit) : (s.onFloats f).pending = s.pending := rfl

/-! ### onLine -/

@[simp] theorem State.onLine_now (f : LineUnit → LineUnit) : (s.onLine f).now = s.now := rfl
@[simp] theorem State.onLine_startUp (f : LineUnit → LineUnit) : (s.onLine f).startUp = s.startUp := rfl
@[simp] theorem State.onLine_probes (f : LineUnit → LineUnit) : (s.onLine f).probes = s.probes := rfl
@[simp] theorem State.onLine_floats (f : LineUnit → LineUnit) : (s.onLine f).floats = s.floats := rfl
@[simp] theorem State.onLine_line (f : LineUnit → LineUnit) : (s.onLine f).line = f s.line := rfl
@[simp] theorem State.onLine_peers (f : LineUnit → LineUnit) : (s.onLine f).peers = s.peers := rfl
@[simp] theorem State.onLine_staging (f : LineUnit → LineUnit) : (s.onLine f).staging = s.staging := rfl
@[simp] theorem State.onLine_pump (f : LineUnit → LineUnit) : (s.onLine f).pump = s.pump := rfl
@[simp] theorem State.onLine_supply (f : LineUnit → LineUnit) : (s.onLine f).supply = s.supply := rfl
@[simp] theorem State.onLine_screen (f : LineUnit → LineUnit) : (s.onLine f).screen = s.screen := rfl
@[simp] theorem State.onLine_weir (f : LineUnit → LineUnit) : (s.onLine f).weir = s.weir := rfl
@[simp] theorem State.onLine_alarms (f : LineUnit → LineUnit) : (s.onLine f).alarms = s.alarms := rfl
@[simp] theorem State.onLine_report (f : LineUnit → LineUnit) : (s.onLine f).report = s.report := rfl
@[simp] theorem State.onLine_panel (f : LineUnit → LineUnit) : (s.onLine f).panel = s.panel := rfl
@[simp] theorem State.onLine_draws (f : LineUnit → LineUnit) : (s.onLine f).draws = s.draws := rfl
@[simp] theorem State.onLine_pending (f : LineUnit → LineUnit) : (s.onLine f).pending = s.pending := rfl

/-! ### onPeers -/

@[simp] theorem State.onPeers_now (f : Twelve PeerEntry → Twelve PeerEntry) : (s.onPeers f).now = s.now := rfl
@[simp] theorem State.onPeers_startUp (f : Twelve PeerEntry → Twelve PeerEntry) : (s.onPeers f).startUp = s.startUp := rfl
@[simp] theorem State.onPeers_probes (f : Twelve PeerEntry → Twelve PeerEntry) : (s.onPeers f).probes = s.probes := rfl
@[simp] theorem State.onPeers_floats (f : Twelve PeerEntry → Twelve PeerEntry) : (s.onPeers f).floats = s.floats := rfl
@[simp] theorem State.onPeers_line (f : Twelve PeerEntry → Twelve PeerEntry) : (s.onPeers f).line = s.line := rfl
@[simp] theorem State.onPeers_peers (f : Twelve PeerEntry → Twelve PeerEntry) : (s.onPeers f).peers = f s.peers := rfl
@[simp] theorem State.onPeers_staging (f : Twelve PeerEntry → Twelve PeerEntry) : (s.onPeers f).staging = s.staging := rfl
@[simp] theorem State.onPeers_pump (f : Twelve PeerEntry → Twelve PeerEntry) : (s.onPeers f).pump = s.pump := rfl
@[simp] theorem State.onPeers_supply (f : Twelve PeerEntry → Twelve PeerEntry) : (s.onPeers f).supply = s.supply := rfl
@[simp] theorem State.onPeers_screen (f : Twelve PeerEntry → Twelve PeerEntry) : (s.onPeers f).screen = s.screen := rfl
@[simp] theorem State.onPeers_weir (f : Twelve PeerEntry → Twelve PeerEntry) : (s.onPeers f).weir = s.weir := rfl
@[simp] theorem State.onPeers_alarms (f : Twelve PeerEntry → Twelve PeerEntry) : (s.onPeers f).alarms = s.alarms := rfl
@[simp] theorem State.onPeers_report (f : Twelve PeerEntry → Twelve PeerEntry) : (s.onPeers f).report = s.report := rfl
@[simp] theorem State.onPeers_panel (f : Twelve PeerEntry → Twelve PeerEntry) : (s.onPeers f).panel = s.panel := rfl
@[simp] theorem State.onPeers_draws (f : Twelve PeerEntry → Twelve PeerEntry) : (s.onPeers f).draws = s.draws := rfl
@[simp] theorem State.onPeers_pending (f : Twelve PeerEntry → Twelve PeerEntry) : (s.onPeers f).pending = s.pending := rfl

/-! ### onStaging -/

@[simp] theorem State.onStaging_now (f : Staging → Staging) : (s.onStaging f).now = s.now := rfl
@[simp] theorem State.onStaging_startUp (f : Staging → Staging) : (s.onStaging f).startUp = s.startUp := rfl
@[simp] theorem State.onStaging_probes (f : Staging → Staging) : (s.onStaging f).probes = s.probes := rfl
@[simp] theorem State.onStaging_floats (f : Staging → Staging) : (s.onStaging f).floats = s.floats := rfl
@[simp] theorem State.onStaging_line (f : Staging → Staging) : (s.onStaging f).line = s.line := rfl
@[simp] theorem State.onStaging_peers (f : Staging → Staging) : (s.onStaging f).peers = s.peers := rfl
@[simp] theorem State.onStaging_staging (f : Staging → Staging) : (s.onStaging f).staging = f s.staging := rfl
@[simp] theorem State.onStaging_pump (f : Staging → Staging) : (s.onStaging f).pump = s.pump := rfl
@[simp] theorem State.onStaging_supply (f : Staging → Staging) : (s.onStaging f).supply = s.supply := rfl
@[simp] theorem State.onStaging_screen (f : Staging → Staging) : (s.onStaging f).screen = s.screen := rfl
@[simp] theorem State.onStaging_weir (f : Staging → Staging) : (s.onStaging f).weir = s.weir := rfl
@[simp] theorem State.onStaging_alarms (f : Staging → Staging) : (s.onStaging f).alarms = s.alarms := rfl
@[simp] theorem State.onStaging_report (f : Staging → Staging) : (s.onStaging f).report = s.report := rfl
@[simp] theorem State.onStaging_panel (f : Staging → Staging) : (s.onStaging f).panel = s.panel := rfl
@[simp] theorem State.onStaging_draws (f : Staging → Staging) : (s.onStaging f).draws = s.draws := rfl
@[simp] theorem State.onStaging_pending (f : Staging → Staging) : (s.onStaging f).pending = s.pending := rfl

/-! ### onPump -/

@[simp] theorem State.onPump_now (f : Pump → Pump) : (s.onPump f).now = s.now := rfl
@[simp] theorem State.onPump_startUp (f : Pump → Pump) : (s.onPump f).startUp = s.startUp := rfl
@[simp] theorem State.onPump_probes (f : Pump → Pump) : (s.onPump f).probes = s.probes := rfl
@[simp] theorem State.onPump_floats (f : Pump → Pump) : (s.onPump f).floats = s.floats := rfl
@[simp] theorem State.onPump_line (f : Pump → Pump) : (s.onPump f).line = s.line := rfl
@[simp] theorem State.onPump_peers (f : Pump → Pump) : (s.onPump f).peers = s.peers := rfl
@[simp] theorem State.onPump_staging (f : Pump → Pump) : (s.onPump f).staging = s.staging := rfl
@[simp] theorem State.onPump_pump (f : Pump → Pump) : (s.onPump f).pump = f s.pump := rfl
@[simp] theorem State.onPump_supply (f : Pump → Pump) : (s.onPump f).supply = s.supply := rfl
@[simp] theorem State.onPump_screen (f : Pump → Pump) : (s.onPump f).screen = s.screen := rfl
@[simp] theorem State.onPump_weir (f : Pump → Pump) : (s.onPump f).weir = s.weir := rfl
@[simp] theorem State.onPump_alarms (f : Pump → Pump) : (s.onPump f).alarms = s.alarms := rfl
@[simp] theorem State.onPump_report (f : Pump → Pump) : (s.onPump f).report = s.report := rfl
@[simp] theorem State.onPump_panel (f : Pump → Pump) : (s.onPump f).panel = s.panel := rfl
@[simp] theorem State.onPump_draws (f : Pump → Pump) : (s.onPump f).draws = s.draws := rfl
@[simp] theorem State.onPump_pending (f : Pump → Pump) : (s.onPump f).pending = s.pending := rfl

/-! ### onSupply -/

@[simp] theorem State.onSupply_now (f : Supply → Supply) : (s.onSupply f).now = s.now := rfl
@[simp] theorem State.onSupply_startUp (f : Supply → Supply) : (s.onSupply f).startUp = s.startUp := rfl
@[simp] theorem State.onSupply_probes (f : Supply → Supply) : (s.onSupply f).probes = s.probes := rfl
@[simp] theorem State.onSupply_floats (f : Supply → Supply) : (s.onSupply f).floats = s.floats := rfl
@[simp] theorem State.onSupply_line (f : Supply → Supply) : (s.onSupply f).line = s.line := rfl
@[simp] theorem State.onSupply_peers (f : Supply → Supply) : (s.onSupply f).peers = s.peers := rfl
@[simp] theorem State.onSupply_staging (f : Supply → Supply) : (s.onSupply f).staging = s.staging := rfl
@[simp] theorem State.onSupply_pump (f : Supply → Supply) : (s.onSupply f).pump = s.pump := rfl
@[simp] theorem State.onSupply_supply (f : Supply → Supply) : (s.onSupply f).supply = f s.supply := rfl
@[simp] theorem State.onSupply_screen (f : Supply → Supply) : (s.onSupply f).screen = s.screen := rfl
@[simp] theorem State.onSupply_weir (f : Supply → Supply) : (s.onSupply f).weir = s.weir := rfl
@[simp] theorem State.onSupply_alarms (f : Supply → Supply) : (s.onSupply f).alarms = s.alarms := rfl
@[simp] theorem State.onSupply_report (f : Supply → Supply) : (s.onSupply f).report = s.report := rfl
@[simp] theorem State.onSupply_panel (f : Supply → Supply) : (s.onSupply f).panel = s.panel := rfl
@[simp] theorem State.onSupply_draws (f : Supply → Supply) : (s.onSupply f).draws = s.draws := rfl
@[simp] theorem State.onSupply_pending (f : Supply → Supply) : (s.onSupply f).pending = s.pending := rfl

/-! ### onScreen -/

@[simp] theorem State.onScreen_now (f : Screen → Screen) : (s.onScreen f).now = s.now := rfl
@[simp] theorem State.onScreen_startUp (f : Screen → Screen) : (s.onScreen f).startUp = s.startUp := rfl
@[simp] theorem State.onScreen_probes (f : Screen → Screen) : (s.onScreen f).probes = s.probes := rfl
@[simp] theorem State.onScreen_floats (f : Screen → Screen) : (s.onScreen f).floats = s.floats := rfl
@[simp] theorem State.onScreen_line (f : Screen → Screen) : (s.onScreen f).line = s.line := rfl
@[simp] theorem State.onScreen_peers (f : Screen → Screen) : (s.onScreen f).peers = s.peers := rfl
@[simp] theorem State.onScreen_staging (f : Screen → Screen) : (s.onScreen f).staging = s.staging := rfl
@[simp] theorem State.onScreen_pump (f : Screen → Screen) : (s.onScreen f).pump = s.pump := rfl
@[simp] theorem State.onScreen_supply (f : Screen → Screen) : (s.onScreen f).supply = s.supply := rfl
@[simp] theorem State.onScreen_screen (f : Screen → Screen) : (s.onScreen f).screen = f s.screen := rfl
@[simp] theorem State.onScreen_weir (f : Screen → Screen) : (s.onScreen f).weir = s.weir := rfl
@[simp] theorem State.onScreen_alarms (f : Screen → Screen) : (s.onScreen f).alarms = s.alarms := rfl
@[simp] theorem State.onScreen_report (f : Screen → Screen) : (s.onScreen f).report = s.report := rfl
@[simp] theorem State.onScreen_panel (f : Screen → Screen) : (s.onScreen f).panel = s.panel := rfl
@[simp] theorem State.onScreen_draws (f : Screen → Screen) : (s.onScreen f).draws = s.draws := rfl
@[simp] theorem State.onScreen_pending (f : Screen → Screen) : (s.onScreen f).pending = s.pending := rfl

/-! ### onWeir -/

@[simp] theorem State.onWeir_now (f : Weir → Weir) : (s.onWeir f).now = s.now := rfl
@[simp] theorem State.onWeir_startUp (f : Weir → Weir) : (s.onWeir f).startUp = s.startUp := rfl
@[simp] theorem State.onWeir_probes (f : Weir → Weir) : (s.onWeir f).probes = s.probes := rfl
@[simp] theorem State.onWeir_floats (f : Weir → Weir) : (s.onWeir f).floats = s.floats := rfl
@[simp] theorem State.onWeir_line (f : Weir → Weir) : (s.onWeir f).line = s.line := rfl
@[simp] theorem State.onWeir_peers (f : Weir → Weir) : (s.onWeir f).peers = s.peers := rfl
@[simp] theorem State.onWeir_staging (f : Weir → Weir) : (s.onWeir f).staging = s.staging := rfl
@[simp] theorem State.onWeir_pump (f : Weir → Weir) : (s.onWeir f).pump = s.pump := rfl
@[simp] theorem State.onWeir_supply (f : Weir → Weir) : (s.onWeir f).supply = s.supply := rfl
@[simp] theorem State.onWeir_screen (f : Weir → Weir) : (s.onWeir f).screen = s.screen := rfl
@[simp] theorem State.onWeir_weir (f : Weir → Weir) : (s.onWeir f).weir = f s.weir := rfl
@[simp] theorem State.onWeir_alarms (f : Weir → Weir) : (s.onWeir f).alarms = s.alarms := rfl
@[simp] theorem State.onWeir_report (f : Weir → Weir) : (s.onWeir f).report = s.report := rfl
@[simp] theorem State.onWeir_panel (f : Weir → Weir) : (s.onWeir f).panel = s.panel := rfl
@[simp] theorem State.onWeir_draws (f : Weir → Weir) : (s.onWeir f).draws = s.draws := rfl
@[simp] theorem State.onWeir_pending (f : Weir → Weir) : (s.onWeir f).pending = s.pending := rfl

/-! ### onAlarms -/

@[simp] theorem State.onAlarms_now (f : Twelve AlarmRecord → Twelve AlarmRecord) : (s.onAlarms f).now = s.now := rfl
@[simp] theorem State.onAlarms_startUp (f : Twelve AlarmRecord → Twelve AlarmRecord) : (s.onAlarms f).startUp = s.startUp := rfl
@[simp] theorem State.onAlarms_probes (f : Twelve AlarmRecord → Twelve AlarmRecord) : (s.onAlarms f).probes = s.probes := rfl
@[simp] theorem State.onAlarms_floats (f : Twelve AlarmRecord → Twelve AlarmRecord) : (s.onAlarms f).floats = s.floats := rfl
@[simp] theorem State.onAlarms_line (f : Twelve AlarmRecord → Twelve AlarmRecord) : (s.onAlarms f).line = s.line := rfl
@[simp] theorem State.onAlarms_peers (f : Twelve AlarmRecord → Twelve AlarmRecord) : (s.onAlarms f).peers = s.peers := rfl
@[simp] theorem State.onAlarms_staging (f : Twelve AlarmRecord → Twelve AlarmRecord) : (s.onAlarms f).staging = s.staging := rfl
@[simp] theorem State.onAlarms_pump (f : Twelve AlarmRecord → Twelve AlarmRecord) : (s.onAlarms f).pump = s.pump := rfl
@[simp] theorem State.onAlarms_supply (f : Twelve AlarmRecord → Twelve AlarmRecord) : (s.onAlarms f).supply = s.supply := rfl
@[simp] theorem State.onAlarms_screen (f : Twelve AlarmRecord → Twelve AlarmRecord) : (s.onAlarms f).screen = s.screen := rfl
@[simp] theorem State.onAlarms_weir (f : Twelve AlarmRecord → Twelve AlarmRecord) : (s.onAlarms f).weir = s.weir := rfl
@[simp] theorem State.onAlarms_alarms (f : Twelve AlarmRecord → Twelve AlarmRecord) : (s.onAlarms f).alarms = f s.alarms := rfl
@[simp] theorem State.onAlarms_report (f : Twelve AlarmRecord → Twelve AlarmRecord) : (s.onAlarms f).report = s.report := rfl
@[simp] theorem State.onAlarms_panel (f : Twelve AlarmRecord → Twelve AlarmRecord) : (s.onAlarms f).panel = s.panel := rfl
@[simp] theorem State.onAlarms_draws (f : Twelve AlarmRecord → Twelve AlarmRecord) : (s.onAlarms f).draws = s.draws := rfl
@[simp] theorem State.onAlarms_pending (f : Twelve AlarmRecord → Twelve AlarmRecord) : (s.onAlarms f).pending = s.pending := rfl

/-! ### onReport -/

@[simp] theorem State.onReport_now (f : ReportUnit → ReportUnit) : (s.onReport f).now = s.now := rfl
@[simp] theorem State.onReport_startUp (f : ReportUnit → ReportUnit) : (s.onReport f).startUp = s.startUp := rfl
@[simp] theorem State.onReport_probes (f : ReportUnit → ReportUnit) : (s.onReport f).probes = s.probes := rfl
@[simp] theorem State.onReport_floats (f : ReportUnit → ReportUnit) : (s.onReport f).floats = s.floats := rfl
@[simp] theorem State.onReport_line (f : ReportUnit → ReportUnit) : (s.onReport f).line = s.line := rfl
@[simp] theorem State.onReport_peers (f : ReportUnit → ReportUnit) : (s.onReport f).peers = s.peers := rfl
@[simp] theorem State.onReport_staging (f : ReportUnit → ReportUnit) : (s.onReport f).staging = s.staging := rfl
@[simp] theorem State.onReport_pump (f : ReportUnit → ReportUnit) : (s.onReport f).pump = s.pump := rfl
@[simp] theorem State.onReport_supply (f : ReportUnit → ReportUnit) : (s.onReport f).supply = s.supply := rfl
@[simp] theorem State.onReport_screen (f : ReportUnit → ReportUnit) : (s.onReport f).screen = s.screen := rfl
@[simp] theorem State.onReport_weir (f : ReportUnit → ReportUnit) : (s.onReport f).weir = s.weir := rfl
@[simp] theorem State.onReport_alarms (f : ReportUnit → ReportUnit) : (s.onReport f).alarms = s.alarms := rfl
@[simp] theorem State.onReport_report (f : ReportUnit → ReportUnit) : (s.onReport f).report = f s.report := rfl
@[simp] theorem State.onReport_panel (f : ReportUnit → ReportUnit) : (s.onReport f).panel = s.panel := rfl
@[simp] theorem State.onReport_draws (f : ReportUnit → ReportUnit) : (s.onReport f).draws = s.draws := rfl
@[simp] theorem State.onReport_pending (f : ReportUnit → ReportUnit) : (s.onReport f).pending = s.pending := rfl

/-! ### onPanel -/

@[simp] theorem State.onPanel_now (f : Panel → Panel) : (s.onPanel f).now = s.now := rfl
@[simp] theorem State.onPanel_startUp (f : Panel → Panel) : (s.onPanel f).startUp = s.startUp := rfl
@[simp] theorem State.onPanel_probes (f : Panel → Panel) : (s.onPanel f).probes = s.probes := rfl
@[simp] theorem State.onPanel_floats (f : Panel → Panel) : (s.onPanel f).floats = s.floats := rfl
@[simp] theorem State.onPanel_line (f : Panel → Panel) : (s.onPanel f).line = s.line := rfl
@[simp] theorem State.onPanel_peers (f : Panel → Panel) : (s.onPanel f).peers = s.peers := rfl
@[simp] theorem State.onPanel_staging (f : Panel → Panel) : (s.onPanel f).staging = s.staging := rfl
@[simp] theorem State.onPanel_pump (f : Panel → Panel) : (s.onPanel f).pump = s.pump := rfl
@[simp] theorem State.onPanel_supply (f : Panel → Panel) : (s.onPanel f).supply = s.supply := rfl
@[simp] theorem State.onPanel_screen (f : Panel → Panel) : (s.onPanel f).screen = s.screen := rfl
@[simp] theorem State.onPanel_weir (f : Panel → Panel) : (s.onPanel f).weir = s.weir := rfl
@[simp] theorem State.onPanel_alarms (f : Panel → Panel) : (s.onPanel f).alarms = s.alarms := rfl
@[simp] theorem State.onPanel_report (f : Panel → Panel) : (s.onPanel f).report = s.report := rfl
@[simp] theorem State.onPanel_panel (f : Panel → Panel) : (s.onPanel f).panel = f s.panel := rfl
@[simp] theorem State.onPanel_draws (f : Panel → Panel) : (s.onPanel f).draws = s.draws := rfl
@[simp] theorem State.onPanel_pending (f : Panel → Panel) : (s.onPanel f).pending = s.pending := rfl

/-! ### drawn -/

@[simp] theorem State.drawn_now : s.drawn.now = s.now := rfl
@[simp] theorem State.drawn_startUp : s.drawn.startUp = s.startUp := rfl
@[simp] theorem State.drawn_probes : s.drawn.probes = s.probes := rfl
@[simp] theorem State.drawn_floats : s.drawn.floats = s.floats := rfl
@[simp] theorem State.drawn_line : s.drawn.line = s.line := rfl
@[simp] theorem State.drawn_peers : s.drawn.peers = s.peers := rfl
@[simp] theorem State.drawn_staging : s.drawn.staging = s.staging := rfl
@[simp] theorem State.drawn_pump : s.drawn.pump = s.pump := rfl
@[simp] theorem State.drawn_supply : s.drawn.supply = s.supply := rfl
@[simp] theorem State.drawn_screen : s.drawn.screen = s.screen := rfl
@[simp] theorem State.drawn_weir : s.drawn.weir = s.weir := rfl
@[simp] theorem State.drawn_alarms : s.drawn.alarms = s.alarms := rfl
@[simp] theorem State.drawn_report : s.drawn.report = s.report := rfl
@[simp] theorem State.drawn_panel : s.drawn.panel = s.panel := rfl
@[simp] theorem State.drawn_draws : s.drawn.draws = s.draws + 1 := rfl
@[simp] theorem State.drawn_pending : s.drawn.pending = s.pending := rfl

/-! ### dequeued -/

@[simp] theorem State.dequeued_now : s.dequeued.now = s.now := rfl
@[simp] theorem State.dequeued_startUp : s.dequeued.startUp = s.startUp := rfl
@[simp] theorem State.dequeued_probes : s.dequeued.probes = s.probes := rfl
@[simp] theorem State.dequeued_floats : s.dequeued.floats = s.floats := rfl
@[simp] theorem State.dequeued_line : s.dequeued.line = s.line := rfl
@[simp] theorem State.dequeued_peers : s.dequeued.peers = s.peers := rfl
@[simp] theorem State.dequeued_staging : s.dequeued.staging = s.staging := rfl
@[simp] theorem State.dequeued_pump : s.dequeued.pump = s.pump := rfl
@[simp] theorem State.dequeued_supply : s.dequeued.supply = s.supply := rfl
@[simp] theorem State.dequeued_screen : s.dequeued.screen = s.screen := rfl
@[simp] theorem State.dequeued_weir : s.dequeued.weir = s.weir := rfl
@[simp] theorem State.dequeued_alarms : s.dequeued.alarms = s.alarms := rfl
@[simp] theorem State.dequeued_report : s.dequeued.report = s.report := rfl
@[simp] theorem State.dequeued_panel : s.dequeued.panel = s.panel := rfl
@[simp] theorem State.dequeued_draws : s.dequeued.draws = s.draws := rfl
@[simp] theorem State.dequeued_pending : s.dequeued.pending = s.pending.tail := rfl

/-! ### queueFront -/

@[simp] theorem State.queueFront_now (i : Instr) : (s.queueFront i).now = s.now := rfl
@[simp] theorem State.queueFront_startUp (i : Instr) : (s.queueFront i).startUp = s.startUp := rfl
@[simp] theorem State.queueFront_probes (i : Instr) : (s.queueFront i).probes = s.probes := rfl
@[simp] theorem State.queueFront_floats (i : Instr) : (s.queueFront i).floats = s.floats := rfl
@[simp] theorem State.queueFront_line (i : Instr) : (s.queueFront i).line = s.line := rfl
@[simp] theorem State.queueFront_peers (i : Instr) : (s.queueFront i).peers = s.peers := rfl
@[simp] theorem State.queueFront_staging (i : Instr) : (s.queueFront i).staging = s.staging := rfl
@[simp] theorem State.queueFront_pump (i : Instr) : (s.queueFront i).pump = s.pump := rfl
@[simp] theorem State.queueFront_supply (i : Instr) : (s.queueFront i).supply = s.supply := rfl
@[simp] theorem State.queueFront_screen (i : Instr) : (s.queueFront i).screen = s.screen := rfl
@[simp] theorem State.queueFront_weir (i : Instr) : (s.queueFront i).weir = s.weir := rfl
@[simp] theorem State.queueFront_alarms (i : Instr) : (s.queueFront i).alarms = s.alarms := rfl
@[simp] theorem State.queueFront_report (i : Instr) : (s.queueFront i).report = s.report := rfl
@[simp] theorem State.queueFront_panel (i : Instr) : (s.queueFront i).panel = s.panel := rfl
@[simp] theorem State.queueFront_draws (i : Instr) : (s.queueFront i).draws = s.draws := rfl
@[simp] theorem State.queueFront_pending (i : Instr) : (s.queueFront i).pending = i :: s.pending := rfl

/-! ### setAlarm -/

@[simp] theorem State.setAlarm_now (k : AlarmKind) (r : AlarmRecord) : (s.setAlarm k r).now = s.now := rfl
@[simp] theorem State.setAlarm_startUp (k : AlarmKind) (r : AlarmRecord) : (s.setAlarm k r).startUp = s.startUp := rfl
@[simp] theorem State.setAlarm_probes (k : AlarmKind) (r : AlarmRecord) : (s.setAlarm k r).probes = s.probes := rfl
@[simp] theorem State.setAlarm_floats (k : AlarmKind) (r : AlarmRecord) : (s.setAlarm k r).floats = s.floats := rfl
@[simp] theorem State.setAlarm_line (k : AlarmKind) (r : AlarmRecord) : (s.setAlarm k r).line = s.line := rfl
@[simp] theorem State.setAlarm_peers (k : AlarmKind) (r : AlarmRecord) : (s.setAlarm k r).peers = s.peers := rfl
@[simp] theorem State.setAlarm_staging (k : AlarmKind) (r : AlarmRecord) : (s.setAlarm k r).staging = s.staging := rfl
@[simp] theorem State.setAlarm_pump (k : AlarmKind) (r : AlarmRecord) : (s.setAlarm k r).pump = s.pump := rfl
@[simp] theorem State.setAlarm_supply (k : AlarmKind) (r : AlarmRecord) : (s.setAlarm k r).supply = s.supply := rfl
@[simp] theorem State.setAlarm_screen (k : AlarmKind) (r : AlarmRecord) : (s.setAlarm k r).screen = s.screen := rfl
@[simp] theorem State.setAlarm_weir (k : AlarmKind) (r : AlarmRecord) : (s.setAlarm k r).weir = s.weir := rfl
@[simp] theorem State.setAlarm_alarms (k : AlarmKind) (r : AlarmRecord) : (s.setAlarm k r).alarms = s.alarms.set k.index r := rfl
@[simp] theorem State.setAlarm_report (k : AlarmKind) (r : AlarmRecord) : (s.setAlarm k r).report = s.report := rfl
@[simp] theorem State.setAlarm_panel (k : AlarmKind) (r : AlarmRecord) : (s.setAlarm k r).panel = s.panel := rfl
@[simp] theorem State.setAlarm_draws (k : AlarmKind) (r : AlarmRecord) : (s.setAlarm k r).draws = s.draws := rfl
@[simp] theorem State.setAlarm_pending (k : AlarmKind) (r : AlarmRecord) : (s.setAlarm k r).pending = s.pending := rfl

/-! ### onEntry -/

@[simp] theorem State.onEntry_now (a : BayAddress) (f : PeerEntry → PeerEntry) : (s.onEntry a f).now = s.now := rfl
@[simp] theorem State.onEntry_startUp (a : BayAddress) (f : PeerEntry → PeerEntry) : (s.onEntry a f).startUp = s.startUp := rfl
@[simp] theorem State.onEntry_probes (a : BayAddress) (f : PeerEntry → PeerEntry) : (s.onEntry a f).probes = s.probes := rfl
@[simp] theorem State.onEntry_floats (a : BayAddress) (f : PeerEntry → PeerEntry) : (s.onEntry a f).floats = s.floats := rfl
@[simp] theorem State.onEntry_line (a : BayAddress) (f : PeerEntry → PeerEntry) : (s.onEntry a f).line = s.line := rfl
@[simp] theorem State.onEntry_peers (a : BayAddress) (f : PeerEntry → PeerEntry) : (s.onEntry a f).peers = s.peers.set a (f (s.peers.get a)) := rfl
@[simp] theorem State.onEntry_staging (a : BayAddress) (f : PeerEntry → PeerEntry) : (s.onEntry a f).staging = s.staging := rfl
@[simp] theorem State.onEntry_pump (a : BayAddress) (f : PeerEntry → PeerEntry) : (s.onEntry a f).pump = s.pump := rfl
@[simp] theorem State.onEntry_supply (a : BayAddress) (f : PeerEntry → PeerEntry) : (s.onEntry a f).supply = s.supply := rfl
@[simp] theorem State.onEntry_screen (a : BayAddress) (f : PeerEntry → PeerEntry) : (s.onEntry a f).screen = s.screen := rfl
@[simp] theorem State.onEntry_weir (a : BayAddress) (f : PeerEntry → PeerEntry) : (s.onEntry a f).weir = s.weir := rfl
@[simp] theorem State.onEntry_alarms (a : BayAddress) (f : PeerEntry → PeerEntry) : (s.onEntry a f).alarms = s.alarms := rfl
@[simp] theorem State.onEntry_report (a : BayAddress) (f : PeerEntry → PeerEntry) : (s.onEntry a f).report = s.report := rfl
@[simp] theorem State.onEntry_panel (a : BayAddress) (f : PeerEntry → PeerEntry) : (s.onEntry a f).panel = s.panel := rfl
@[simp] theorem State.onEntry_draws (a : BayAddress) (f : PeerEntry → PeerEntry) : (s.onEntry a f).draws = s.draws := rfl
@[simp] theorem State.onEntry_pending (a : BayAddress) (f : PeerEntry → PeerEntry) : (s.onEntry a f).pending = s.pending := rfl

/-! ### elapse -/

@[simp] theorem State.elapse_now (dt : Nat) : (s.elapse dt).now = s.now + dt := rfl
@[simp] theorem State.elapse_probes (dt : Nat) : (s.elapse dt).probes = s.probes := rfl
@[simp] theorem State.elapse_floats (dt : Nat) : (s.elapse dt).floats = s.floats := rfl
@[simp] theorem State.elapse_line (dt : Nat) : (s.elapse dt).line = s.line := rfl
@[simp] theorem State.elapse_staging (dt : Nat) : (s.elapse dt).staging = s.staging := rfl
@[simp] theorem State.elapse_pump (dt : Nat) : (s.elapse dt).pump = s.pump := rfl
@[simp] theorem State.elapse_supply (dt : Nat) : (s.elapse dt).supply = s.supply := rfl
@[simp] theorem State.elapse_weir (dt : Nat) : (s.elapse dt).weir = s.weir := rfl
@[simp] theorem State.elapse_alarms (dt : Nat) : (s.elapse dt).alarms = s.alarms := rfl
@[simp] theorem State.elapse_panel (dt : Nat) : (s.elapse dt).panel = s.panel := rfl
@[simp] theorem State.elapse_draws (dt : Nat) : (s.elapse dt).draws = s.draws := rfl
@[simp] theorem State.elapse_pending (dt : Nat) : (s.elapse dt).pending = s.pending := rfl

@[simp] theorem State.reach_eq (dt m : Nat) : s.reach dt m = s.elapse (max dt (m - s.now)) := rfl

end Sys2Proof.Machine
end

