-- ==== Sys2Proof/Laws/Keeps.lean ====
section
/-! SUPPORT. What each shared operation leaves as it was: one lemma per operation, naming every block of the state that
the operation does not touch. -/

namespace Sys2Proof.Machine

variable (s : State)

/-! ### Slots -/

@[simp] theorem State.place_keeps (i : SlotId) (f : Frame) :
    (s.place i f).now = s.now ∧ (s.place i f).startUp = s.startUp ∧ (s.place i f).probes = s.probes ∧
    (s.place i f).floats = s.floats ∧ (s.place i f).peers = s.peers ∧ (s.place i f).staging = s.staging ∧
    (s.place i f).pump = s.pump ∧ (s.place i f).supply = s.supply ∧ (s.place i f).screen = s.screen ∧
    (s.place i f).weir = s.weir ∧ (s.place i f).alarms = s.alarms ∧ (s.place i f).report = s.report ∧
    (s.place i f).panel = s.panel ∧ (s.place i f).pending = s.pending := by
  unfold State.place
  (repeat' split) <;> simp

@[simp] theorem State.leaveField_keeps :
    s.leaveField.now = s.now ∧ s.leaveField.startUp = s.startUp ∧ s.leaveField.probes = s.probes ∧
    s.leaveField.floats = s.floats ∧ s.leaveField.peers = s.peers ∧ s.leaveField.staging = s.staging ∧
    s.leaveField.pump = s.pump ∧ s.leaveField.supply = s.supply ∧ s.leaveField.screen = s.screen ∧
    s.leaveField.weir = s.weir ∧ s.leaveField.alarms = s.alarms ∧ s.leaveField.report = s.report ∧
    s.leaveField.panel = s.panel ∧ s.leaveField.pending = s.pending := by
  unfold State.leaveField
  (repeat' split) <;> simp

@[simp] theorem State.withdraw_keeps (i : SlotId) :
    (s.withdraw i).now = s.now ∧ (s.withdraw i).startUp = s.startUp ∧ (s.withdraw i).probes = s.probes ∧
    (s.withdraw i).floats = s.floats ∧ (s.withdraw i).peers = s.peers ∧ (s.withdraw i).staging = s.staging ∧
    (s.withdraw i).pump = s.pump ∧ (s.withdraw i).supply = s.supply ∧ (s.withdraw i).screen = s.screen ∧
    (s.withdraw i).weir = s.weir ∧ (s.withdraw i).alarms = s.alarms ∧ (s.withdraw i).report = s.report ∧
    (s.withdraw i).panel = s.panel ∧ (s.withdraw i).pending = s.pending := by
  unfold State.withdraw
  (repeat' split) <;> simp

@[simp] theorem State.withdrawClaim_keeps :
    s.withdrawClaim.now = s.now ∧ s.withdrawClaim.startUp = s.startUp ∧ s.withdrawClaim.probes = s.probes ∧
    s.withdrawClaim.floats = s.floats ∧ s.withdrawClaim.peers = s.peers ∧ s.withdrawClaim.staging = s.staging ∧
    s.withdrawClaim.pump = s.pump ∧ s.withdrawClaim.supply = s.supply ∧ s.withdrawClaim.screen = s.screen ∧
    s.withdrawClaim.weir = s.weir ∧ s.withdrawClaim.alarms = s.alarms ∧ s.withdrawClaim.report = s.report ∧
    s.withdrawClaim.panel = s.panel ∧ s.withdrawClaim.pending = s.pending := by
  unfold State.withdrawClaim
  (repeat' split) <;> simp

@[simp] theorem State.offer_keeps :
    s.offer.now = s.now ∧ s.offer.startUp = s.startUp ∧ s.offer.probes = s.probes ∧ s.offer.floats = s.floats ∧
    s.offer.peers = s.peers ∧ s.offer.staging = s.staging ∧ s.offer.pump = s.pump ∧ s.offer.supply = s.supply ∧
    s.offer.screen = s.screen ∧ s.offer.weir = s.weir ∧ s.offer.alarms = s.alarms ∧ s.offer.report = s.report ∧
    s.offer.panel = s.panel ∧ s.offer.draws = s.draws ∧ s.offer.pending = s.pending := by
  unfold State.offer
  (repeat' split) <;> simp

@[simp] theorem State.dropAttempt_keeps :
    s.dropAttempt.now = s.now ∧ s.dropAttempt.startUp = s.startUp ∧ s.dropAttempt.probes = s.probes ∧
    s.dropAttempt.floats = s.floats ∧ s.dropAttempt.peers = s.peers ∧ s.dropAttempt.staging = s.staging ∧
    s.dropAttempt.pump = s.pump ∧ s.dropAttempt.supply = s.supply ∧ s.dropAttempt.screen = s.screen ∧
    s.dropAttempt.weir = s.weir ∧ s.dropAttempt.alarms = s.alarms ∧ s.dropAttempt.report = s.report ∧
    s.dropAttempt.panel = s.panel ∧ s.dropAttempt.draws = s.draws ∧ s.dropAttempt.pending = s.pending := by
  unfold State.dropAttempt
  (repeat' split) <;> simp

@[simp] theorem State.completeAttempt_keeps (i : SlotId) :
    (s.completeAttempt i).now = s.now ∧ (s.completeAttempt i).startUp = s.startUp ∧
    (s.completeAttempt i).probes = s.probes ∧ (s.completeAttempt i).floats = s.floats ∧
    (s.completeAttempt i).peers = s.peers ∧ (s.completeAttempt i).staging = s.staging ∧
    (s.completeAttempt i).pump = s.pump ∧ (s.completeAttempt i).supply = s.supply ∧
    (s.completeAttempt i).screen = s.screen ∧ (s.completeAttempt i).weir = s.weir ∧
    (s.completeAttempt i).alarms = s.alarms ∧ (s.completeAttempt i).report = s.report ∧
    (s.completeAttempt i).panel = s.panel ∧ (s.completeAttempt i).draws = s.draws ∧
    (s.completeAttempt i).pending = s.pending := by
  simp [State.completeAttempt]

/-! ### Alarm table -/

@[simp] theorem State.turnAbnormal_keeps (k : AlarmKind) (n : Snapshot) :
    (s.turnAbnormal k n).now = s.now ∧ (s.turnAbnormal k n).startUp = s.startUp ∧
    (s.turnAbnormal k n).probes = s.probes ∧ (s.turnAbnormal k n).floats = s.floats ∧
    (s.turnAbnormal k n).line = s.line ∧ (s.turnAbnormal k n).peers = s.peers ∧
    (s.turnAbnormal k n).staging = s.staging ∧ (s.turnAbnormal k n).pump = s.pump ∧
    (s.turnAbnormal k n).supply = s.supply ∧ (s.turnAbnormal k n).screen = s.screen ∧
    (s.turnAbnormal k n).weir = s.weir ∧ (s.turnAbnormal k n).panel = s.panel ∧
    (s.turnAbnormal k n).draws = s.draws ∧ (s.turnAbnormal k n).pending = s.pending := by
  unfold State.turnAbnormal
  dsimp only
  (repeat' split) <;> simp

@[simp] theorem State.turnNormal_keeps (k : AlarmKind) :
    (s.turnNormal k).now = s.now ∧ (s.turnNormal k).startUp = s.startUp ∧ (s.turnNormal k).probes = s.probes ∧
    (s.turnNormal k).floats = s.floats ∧ (s.turnNormal k).line = s.line ∧ (s.turnNormal k).peers = s.peers ∧
    (s.turnNormal k).staging = s.staging ∧ (s.turnNormal k).pump = s.pump ∧
    (s.turnNormal k).supply = s.supply ∧ (s.turnNormal k).screen = s.screen ∧ (s.turnNormal k).weir = s.weir ∧
    (s.turnNormal k).report = s.report ∧ (s.turnNormal k).panel = s.panel ∧ (s.turnNormal k).draws = s.draws ∧
    (s.turnNormal k).pending = s.pending := by
  unfold State.turnNormal
  dsimp only
  (repeat' split) <;> simp

@[simp] theorem State.chooseSnapshot_keeps (l : List Snapshot) :
    (s.chooseSnapshot l).2.now = s.now ∧ (s.chooseSnapshot l).2.startUp = s.startUp ∧
    (s.chooseSnapshot l).2.probes = s.probes ∧ (s.chooseSnapshot l).2.floats = s.floats ∧
    (s.chooseSnapshot l).2.line = s.line ∧ (s.chooseSnapshot l).2.peers = s.peers ∧
    (s.chooseSnapshot l).2.staging = s.staging ∧ (s.chooseSnapshot l).2.pump = s.pump ∧
    (s.chooseSnapshot l).2.supply = s.supply ∧ (s.chooseSnapshot l).2.screen = s.screen ∧
    (s.chooseSnapshot l).2.weir = s.weir ∧ (s.chooseSnapshot l).2.alarms = s.alarms ∧
    (s.chooseSnapshot l).2.report = s.report ∧ (s.chooseSnapshot l).2.panel = s.panel ∧
    (s.chooseSnapshot l).2.pending = s.pending := by
  induction l generalizing s with
  | nil => simp [State.chooseSnapshot]
  | cons b l ih =>
    unfold State.chooseSnapshot
    split
    · exact ih s
    · split
      · simp
      · simpa using ih s.drawn

@[simp] theorem State.retaken_keeps (was : State) (k : AlarmKind) :
    (s.retaken was k).now = s.now ∧ (s.retaken was k).startUp = s.startUp ∧
    (s.retaken was k).probes = s.probes ∧ (s.retaken was k).floats = s.floats ∧
    (s.retaken was k).line = s.line ∧ (s.retaken was k).peers = s.peers ∧
    (s.retaken was k).staging = s.staging ∧ (s.retaken was k).pump = s.pump ∧
    (s.retaken was k).supply = s.supply ∧ (s.retaken was k).screen = s.screen ∧
    (s.retaken was k).weir = s.weir ∧ (s.retaken was k).report = s.report ∧
    (s.retaken was k).panel = s.panel ∧ (s.retaken was k).pending = s.pending := by
  unfold State.retaken
  dsimp only
  split <;> simp

@[simp] theorem State.turnAbnormalSince_keeps (l : List Snapshot) (k : AlarmKind) :
    (s.turnAbnormalSince l k).now = s.now ∧ (s.turnAbnormalSince l k).startUp = s.startUp ∧
    (s.turnAbnormalSince l k).probes = s.probes ∧ (s.turnAbnormalSince l k).floats = s.floats ∧
    (s.turnAbnormalSince l k).line = s.line ∧ (s.turnAbnormalSince l k).peers = s.peers ∧
    (s.turnAbnormalSince l k).staging = s.staging ∧ (s.turnAbnormalSince l k).pump = s.pump ∧
    (s.turnAbnormalSince l k).supply = s.supply ∧ (s.turnAbnormalSince l k).screen = s.screen ∧
    (s.turnAbnormalSince l k).weir = s.weir ∧ (s.turnAbnormalSince l k).panel = s.panel ∧
    (s.turnAbnormalSince l k).pending = s.pending := by
  unfold State.turnAbnormalSince
  (repeat' split) <;> simp

@[simp] theorem State.handOver_keeps (l : List Snapshot) (k : AlarmKind) :
    (s.handOver l k).now = s.now ∧ (s.handOver l k).startUp = s.startUp ∧ (s.handOver l k).probes = s.probes ∧
    (s.handOver l k).floats = s.floats ∧ (s.handOver l k).line = s.line ∧ (s.handOver l k).peers = s.peers ∧
    (s.handOver l k).staging = s.staging ∧ (s.handOver l k).pump = s.pump ∧
    (s.handOver l k).supply = s.supply ∧ (s.handOver l k).screen = s.screen ∧ (s.handOver l k).weir = s.weir ∧
    (s.handOver l k).panel = s.panel ∧ (s.handOver l k).pending = s.pending := by
  unfold State.handOver
  (repeat' split) <;> simp

@[simp] theorem State.alarmEvent_keeps (l : List Snapshot) (k : AlarmKind) :
    (s.alarmEvent l k).now = s.now ∧ (s.alarmEvent l k).startUp = s.startUp ∧
    (s.alarmEvent l k).probes = s.probes ∧ (s.alarmEvent l k).floats = s.floats ∧
    (s.alarmEvent l k).line = s.line ∧ (s.alarmEvent l k).peers = s.peers ∧
    (s.alarmEvent l k).staging = s.staging ∧ (s.alarmEvent l k).pump = s.pump ∧
    (s.alarmEvent l k).supply = s.supply ∧ (s.alarmEvent l k).screen = s.screen ∧
    (s.alarmEvent l k).weir = s.weir ∧ (s.alarmEvent l k).panel = s.panel ∧
    (s.alarmEvent l k).pending = s.pending := by
  simp [State.alarmEvent]

@[simp] theorem State.acceptAll_keeps :
    s.acceptAll.now = s.now ∧ s.acceptAll.startUp = s.startUp ∧ s.acceptAll.probes = s.probes ∧
    s.acceptAll.floats = s.floats ∧ s.acceptAll.line = s.line ∧ s.acceptAll.peers = s.peers ∧
    s.acceptAll.staging = s.staging ∧ s.acceptAll.pump = s.pump ∧ s.acceptAll.supply = s.supply ∧
    s.acceptAll.screen = s.screen ∧ s.acceptAll.weir = s.weir ∧ s.acceptAll.report = s.report ∧
    s.acceptAll.panel = s.panel ∧ s.acceptAll.draws = s.draws ∧ s.acceptAll.pending = s.pending := by
  simp [State.acceptAll]

theorem State.readCondition_keeps (k : AlarmKind) :
    (if s.condition k then s.turnAbnormal k s.snapshot else s).now = s.now ∧
    (if s.condition k then s.turnAbnormal k s.snapshot else s).startUp = s.startUp ∧
    (if s.condition k then s.turnAbnormal k s.snapshot else s).probes = s.probes ∧
    (if s.condition k then s.turnAbnormal k s.snapshot else s).floats = s.floats ∧
    (if s.condition k then s.turnAbnormal k s.snapshot else s).line = s.line ∧
    (if s.condition k then s.turnAbnormal k s.snapshot else s).peers = s.peers ∧
    (if s.condition k then s.turnAbnormal k s.snapshot else s).staging = s.staging ∧
    (if s.condition k then s.turnAbnormal k s.snapshot else s).pump = s.pump ∧
    (if s.condition k then s.turnAbnormal k s.snapshot else s).supply = s.supply ∧
    (if s.condition k then s.turnAbnormal k s.snapshot else s).screen = s.screen ∧
    (if s.condition k then s.turnAbnormal k s.snapshot else s).weir = s.weir ∧
    (if s.condition k then s.turnAbnormal k s.snapshot else s).panel = s.panel ∧
    (if s.condition k then s.turnAbnormal k s.snapshot else s).draws = s.draws ∧
    (if s.condition k then s.turnAbnormal k s.snapshot else s).pending = s.pending := by
  split <;> simp

@[simp] theorem State.readConditions_keeps :
    s.readConditions.now = s.now ∧ s.readConditions.startUp = s.startUp ∧ s.readConditions.probes = s.probes ∧
    s.readConditions.floats = s.floats ∧ s.readConditions.line = s.line ∧ s.readConditions.peers = s.peers ∧
    s.readConditions.staging = s.staging ∧ s.readConditions.pump = s.pump ∧
    s.readConditions.supply = s.supply ∧ s.readConditions.screen = s.screen ∧ s.readConditions.weir = s.weir ∧
    s.readConditions.panel = s.panel ∧ s.readConditions.draws = s.draws ∧ s.readConditions.pending = s.pending := by
  simp [State.readConditions, AlarmKind.inOrder, State.readCondition_keeps]

@[simp] theorem State.raiseSent_keeps (k : AlarmKind) (m n : Nat) :
    (s.raiseSent k m n).now = s.now ∧ (s.raiseSent k m n).startUp = s.startUp ∧
    (s.raiseSent k m n).probes = s.probes ∧ (s.raiseSent k m n).floats = s.floats ∧
    (s.raiseSent k m n).line = s.line ∧ (s.raiseSent k m n).peers = s.peers ∧
    (s.raiseSent k m n).staging = s.staging ∧ (s.raiseSent k m n).pump = s.pump ∧
    (s.raiseSent k m n).supply = s.supply ∧ (s.raiseSent k m n).screen = s.screen ∧
    (s.raiseSent k m n).weir = s.weir ∧ (s.raiseSent k m n).report = s.report ∧
    (s.raiseSent k m n).panel = s.panel ∧ (s.raiseSent k m n).draws = s.draws ∧
    (s.raiseSent k m n).pending = s.pending := by
  simp [State.raiseSent]

@[simp] theorem State.clearSent_keeps (k : AlarmKind) :
    (s.clearSent k).now = s.now ∧ (s.clearSent k).startUp = s.startUp ∧ (s.clearSent k).probes = s.probes ∧
    (s.clearSent k).floats = s.floats ∧ (s.clearSent k).line = s.line ∧ (s.clearSent k).peers = s.peers ∧
    (s.clearSent k).staging = s.staging ∧ (s.clearSent k).pump = s.pump ∧ (s.clearSent k).supply = s.supply ∧
    (s.clearSent k).screen = s.screen ∧ (s.clearSent k).weir = s.weir ∧ (s.clearSent k).report = s.report ∧
    (s.clearSent k).panel = s.panel ∧ (s.clearSent k).draws = s.draws ∧ (s.clearSent k).pending = s.pending := by
  simp [State.clearSent]

/-! ### Report Unit -/

@[simp] theorem State.count_keeps (i : CountId) (n : Nat) :
    (s.count i n).now = s.now ∧ (s.count i n).startUp = s.startUp ∧ (s.count i n).probes = s.probes ∧
    (s.count i n).floats = s.floats ∧ (s.count i n).line = s.line ∧ (s.count i n).peers = s.peers ∧
    (s.count i n).staging = s.staging ∧ (s.count i n).pump = s.pump ∧ (s.count i n).supply = s.supply ∧
    (s.count i n).screen = s.screen ∧ (s.count i n).weir = s.weir ∧ (s.count i n).alarms = s.alarms ∧
    (s.count i n).panel = s.panel ∧ (s.count i n).draws = s.draws ∧ (s.count i n).pending = s.pending := by
  simp [State.count]

@[simp] theorem State.beginInterval_keeps :
    s.beginInterval.now = s.now ∧ s.beginInterval.startUp = s.startUp ∧ s.beginInterval.probes = s.probes ∧
    s.beginInterval.floats = s.floats ∧ s.beginInterval.line = s.line ∧ s.beginInterval.peers = s.peers ∧
    s.beginInterval.staging = s.staging ∧ s.beginInterval.pump = s.pump ∧ s.beginInterval.supply = s.supply ∧
    s.beginInterval.screen = s.screen ∧ s.beginInterval.weir = s.weir ∧ s.beginInterval.alarms = s.alarms ∧
    s.beginInterval.panel = s.panel ∧ s.beginInterval.draws = s.draws ∧ s.beginInterval.pending = s.pending := by
  simp [State.beginInterval]

@[simp] theorem State.emptyReport_keeps :
    s.emptyReport.now = s.now ∧ s.emptyReport.startUp = s.startUp ∧ s.emptyReport.probes = s.probes ∧
    s.emptyReport.floats = s.floats ∧ s.emptyReport.peers = s.peers ∧ s.emptyReport.staging = s.staging ∧
    s.emptyReport.pump = s.pump ∧ s.emptyReport.supply = s.supply ∧ s.emptyReport.screen = s.screen ∧
    s.emptyReport.weir = s.weir ∧ s.emptyReport.alarms = s.alarms ∧ s.emptyReport.panel = s.panel ∧
    s.emptyReport.pending = s.pending := by
  simp [State.emptyReport]

@[simp] theorem State.joinQueue_keeps (r : IntervalRecord) :
    (s.joinQueue r).now = s.now ∧ (s.joinQueue r).startUp = s.startUp ∧ (s.joinQueue r).probes = s.probes ∧
    (s.joinQueue r).floats = s.floats ∧ (s.joinQueue r).peers = s.peers ∧ (s.joinQueue r).staging = s.staging ∧
    (s.joinQueue r).pump = s.pump ∧ (s.joinQueue r).supply = s.supply ∧ (s.joinQueue r).screen = s.screen ∧
    (s.joinQueue r).weir = s.weir ∧ (s.joinQueue r).alarms = s.alarms ∧ (s.joinQueue r).panel = s.panel ∧
    (s.joinQueue r).pending = s.pending := by
  unfold State.joinQueue
  (repeat' split) <;> simp

@[simp] theorem State.closeInProgress_keeps :
    s.closeInProgress.now = s.now ∧ s.closeInProgress.startUp = s.startUp ∧
    s.closeInProgress.probes = s.probes ∧ s.closeInProgress.floats = s.floats ∧
    s.closeInProgress.peers = s.peers ∧ s.closeInProgress.staging = s.staging ∧
    s.closeInProgress.pump = s.pump ∧ s.closeInProgress.supply = s.supply ∧
    s.closeInProgress.screen = s.screen ∧ s.closeInProgress.weir = s.weir ∧
    s.closeInProgress.alarms = s.alarms ∧ s.closeInProgress.panel = s.panel ∧
    s.closeInProgress.pending = s.pending := by
  unfold State.closeInProgress
  (repeat' split) <;> simp

@[simp] theorem State.fillReport_keeps :
    s.fillReport.now = s.now ∧ s.fillReport.startUp = s.startUp ∧ s.fillReport.probes = s.probes ∧
    s.fillReport.floats = s.floats ∧ s.fillReport.peers = s.peers ∧ s.fillReport.staging = s.staging ∧
    s.fillReport.pump = s.pump ∧ s.fillReport.supply = s.supply ∧ s.fillReport.screen = s.screen ∧
    s.fillReport.weir = s.weir ∧ s.fillReport.alarms = s.alarms ∧ s.fillReport.panel = s.panel ∧
    s.fillReport.pending = s.pending := by
  unfold State.fillReport
  (repeat' split) <;> simp

@[simp] theorem State.withdrawReport_keeps :
    s.withdrawReport.now = s.now ∧ s.withdrawReport.startUp = s.startUp ∧ s.withdrawReport.probes = s.probes ∧
    s.withdrawReport.floats = s.floats ∧ s.withdrawReport.peers = s.peers ∧
    s.withdrawReport.staging = s.staging ∧ s.withdrawReport.pump = s.pump ∧
    s.withdrawReport.supply = s.supply ∧ s.withdrawReport.screen = s.screen ∧ s.withdrawReport.weir = s.weir ∧
    s.withdrawReport.alarms = s.alarms ∧ s.withdrawReport.panel = s.panel ∧ s.withdrawReport.pending = s.pending := by
  unfold State.withdrawReport
  (repeat' split) <;> simp

@[simp] theorem State.select_keeps :
    s.select.now = s.now ∧ s.select.startUp = s.startUp ∧ s.select.probes = s.probes ∧
    s.select.floats = s.floats ∧ s.select.peers = s.peers ∧ s.select.staging = s.staging ∧
    s.select.pump = s.pump ∧ s.select.supply = s.supply ∧ s.select.screen = s.screen ∧ s.select.weir = s.weir ∧
    s.select.alarms = s.alarms ∧ s.select.panel = s.panel ∧ s.select.pending = s.pending := by
  unfold State.select
  (repeat' split) <;> simp

@[simp] theorem State.reportBack_keeps :
    s.reportBack.now = s.now ∧ s.reportBack.startUp = s.startUp ∧ s.reportBack.probes = s.probes ∧
    s.reportBack.floats = s.floats ∧ s.reportBack.peers = s.peers ∧ s.reportBack.staging = s.staging ∧
    s.reportBack.pump = s.pump ∧ s.reportBack.supply = s.supply ∧ s.reportBack.screen = s.screen ∧
    s.reportBack.weir = s.weir ∧ s.reportBack.alarms = s.alarms ∧ s.reportBack.panel = s.panel ∧
    s.reportBack.draws = s.draws ∧ s.reportBack.pending = s.pending := by
  unfold State.reportBack
  (repeat' split) <;> simp

@[simp] theorem State.finish_keeps :
    s.finish.now = s.now ∧ s.finish.startUp = s.startUp ∧ s.finish.probes = s.probes ∧
    s.finish.floats = s.floats ∧ s.finish.peers = s.peers ∧ s.finish.staging = s.staging ∧
    s.finish.pump = s.pump ∧ s.finish.supply = s.supply ∧ s.finish.screen = s.screen ∧ s.finish.weir = s.weir ∧
    s.finish.alarms = s.alarms ∧ s.finish.panel = s.panel ∧ s.finish.pending = s.pending := by
  simp [State.finish]

@[simp] theorem State.reportSent_keeps (f : Frame) :
    (s.reportSent f).now = s.now ∧ (s.reportSent f).startUp = s.startUp ∧ (s.reportSent f).probes = s.probes ∧
    (s.reportSent f).floats = s.floats ∧ (s.reportSent f).peers = s.peers ∧
    (s.reportSent f).staging = s.staging ∧ (s.reportSent f).pump = s.pump ∧
    (s.reportSent f).supply = s.supply ∧ (s.reportSent f).screen = s.screen ∧
    (s.reportSent f).panel = s.panel ∧ (s.reportSent f).draws = s.draws ∧ (s.reportSent f).pending = s.pending := by
  unfold State.reportSent
  (repeat' split) <;> simp

/-! ### Peer Table -/

@[simp] theorem State.placeStatus_keeps :
    s.placeStatus.now = s.now ∧ s.placeStatus.startUp = s.startUp ∧ s.placeStatus.probes = s.probes ∧
    s.placeStatus.floats = s.floats ∧ s.placeStatus.peers = s.peers ∧ s.placeStatus.staging = s.staging ∧
    s.placeStatus.pump = s.pump ∧ s.placeStatus.supply = s.supply ∧ s.placeStatus.screen = s.screen ∧
    s.placeStatus.weir = s.weir ∧ s.placeStatus.alarms = s.alarms ∧ s.placeStatus.report = s.report ∧
    s.placeStatus.panel = s.panel ∧ s.placeStatus.pending = s.pending := by
  unfold State.placeStatus
  (repeat' split) <;> simp

@[simp] theorem State.publish_keeps :
    s.publish.now = s.now ∧ s.publish.startUp = s.startUp ∧ s.publish.probes = s.probes ∧
    s.publish.floats = s.floats ∧ s.publish.staging = s.staging ∧ s.publish.pump = s.pump ∧
    s.publish.supply = s.supply ∧ s.publish.screen = s.screen ∧ s.publish.weir = s.weir ∧
    s.publish.alarms = s.alarms ∧ s.publish.report = s.report ∧ s.publish.panel = s.panel ∧
    s.publish.pending = s.pending := by
  unfold State.publish
  (repeat' split) <;> simp

@[simp] theorem State.setIsolatedFlag_keeps (v : Bool) :
    (s.setIsolatedFlag v).now = s.now ∧ (s.setIsolatedFlag v).startUp = s.startUp ∧
    (s.setIsolatedFlag v).probes = s.probes ∧ (s.setIsolatedFlag v).floats = s.floats ∧
    (s.setIsolatedFlag v).staging = s.staging ∧ (s.setIsolatedFlag v).pump = s.pump ∧
    (s.setIsolatedFlag v).supply = s.supply ∧ (s.setIsolatedFlag v).screen = s.screen ∧
    (s.setIsolatedFlag v).weir = s.weir ∧ (s.setIsolatedFlag v).alarms = s.alarms ∧
    (s.setIsolatedFlag v).report = s.report ∧ (s.setIsolatedFlag v).panel = s.panel ∧
    (s.setIsolatedFlag v).pending = s.pending := by
  unfold State.setIsolatedFlag
  (repeat' split) <;> simp

@[simp] theorem State.rewriteOwn_keeps :
    s.rewriteOwn.now = s.now ∧ s.rewriteOwn.startUp = s.startUp ∧ s.rewriteOwn.probes = s.probes ∧
    s.rewriteOwn.floats = s.floats ∧ s.rewriteOwn.line = s.line ∧ s.rewriteOwn.staging = s.staging ∧
    s.rewriteOwn.pump = s.pump ∧ s.rewriteOwn.supply = s.supply ∧ s.rewriteOwn.screen = s.screen ∧
    s.rewriteOwn.weir = s.weir ∧ s.rewriteOwn.alarms = s.alarms ∧ s.rewriteOwn.report = s.report ∧
    s.rewriteOwn.panel = s.panel ∧ s.rewriteOwn.draws = s.draws ∧ s.rewriteOwn.pending = s.pending := by
  unfold State.rewriteOwn
  (repeat' split) <;> simp

@[simp] theorem State.clearClaimMark_keeps (a : BayAddress) :
    (s.clearClaimMark a).now = s.now ∧ (s.clearClaimMark a).startUp = s.startUp ∧
    (s.clearClaimMark a).probes = s.probes ∧ (s.clearClaimMark a).floats = s.floats ∧
    (s.clearClaimMark a).line = s.line ∧ (s.clearClaimMark a).peers = s.peers ∧
    (s.clearClaimMark a).pump = s.pump ∧ (s.clearClaimMark a).supply = s.supply ∧
    (s.clearClaimMark a).screen = s.screen ∧ (s.clearClaimMark a).weir = s.weir ∧
    (s.clearClaimMark a).alarms = s.alarms ∧ (s.clearClaimMark a).report = s.report ∧
    (s.clearClaimMark a).panel = s.panel ∧ (s.clearClaimMark a).draws = s.draws ∧
    (s.clearClaimMark a).pending = s.pending := by
  simp [State.clearClaimMark]

@[simp] theorem State.formA12_keeps :
    s.formA12.now = s.now ∧ s.formA12.startUp = s.startUp ∧ s.formA12.probes = s.probes ∧
    s.formA12.floats = s.floats ∧ s.formA12.line = s.line ∧ s.formA12.peers = s.peers ∧
    s.formA12.staging = s.staging ∧ s.formA12.pump = s.pump ∧ s.formA12.supply = s.supply ∧
    s.formA12.screen = s.screen ∧ s.formA12.weir = s.weir ∧ s.formA12.panel = s.panel ∧
    s.formA12.pending = s.pending := by
  simp [State.formA12]

@[simp] theorem State.refreshPeer_keeps (a : BayAddress) :
    (s.refreshPeer a).now = s.now ∧ (s.refreshPeer a).startUp = s.startUp ∧
    (s.refreshPeer a).probes = s.probes ∧ (s.refreshPeer a).floats = s.floats ∧
    (s.refreshPeer a).line = s.line ∧ (s.refreshPeer a).staging = s.staging ∧ (s.refreshPeer a).pump = s.pump ∧
    (s.refreshPeer a).supply = s.supply ∧ (s.refreshPeer a).screen = s.screen ∧
    (s.refreshPeer a).weir = s.weir ∧ (s.refreshPeer a).panel = s.panel ∧ (s.refreshPeer a).pending = s.pending := by
  unfold State.refreshPeer
  (repeat' split) <;> simp

/-! ### Screen Controller -/

@[simp] theorem State.trigger_keeps :
    s.trigger.now = s.now ∧ s.trigger.startUp = s.startUp ∧ s.trigger.probes = s.probes ∧
    s.trigger.floats = s.floats ∧ s.trigger.line = s.line ∧ s.trigger.peers = s.peers ∧
    s.trigger.staging = s.staging ∧ s.trigger.pump = s.pump ∧ s.trigger.supply = s.supply ∧
    s.trigger.weir = s.weir ∧ s.trigger.alarms = s.alarms ∧ s.trigger.report = s.report ∧
    s.trigger.panel = s.panel ∧ s.trigger.draws = s.draws ∧ s.trigger.pending = s.pending := by
  unfold State.trigger
  (repeat' split) <;> simp

@[simp] theorem State.jam_keeps (c : JamCause) :
    (s.jam c).now = s.now ∧ (s.jam c).startUp = s.startUp ∧ (s.jam c).probes = s.probes ∧
    (s.jam c).floats = s.floats ∧ (s.jam c).line = s.line ∧ (s.jam c).peers = s.peers ∧
    (s.jam c).staging = s.staging ∧ (s.jam c).pump = s.pump ∧ (s.jam c).supply = s.supply ∧
    (s.jam c).weir = s.weir ∧ (s.jam c).panel = s.panel ∧ (s.jam c).pending = s.pending := by
  simp [State.jam]

@[simp] theorem State.rakeSupplyLost_keeps :
    s.rakeSupplyLost.now = s.now ∧ s.rakeSupplyLost.startUp = s.startUp ∧ s.rakeSupplyLost.probes = s.probes ∧
    s.rakeSupplyLost.floats = s.floats ∧ s.rakeSupplyLost.line = s.line ∧ s.rakeSupplyLost.peers = s.peers ∧
    s.rakeSupplyLost.staging = s.staging ∧ s.rakeSupplyLost.pump = s.pump ∧
    s.rakeSupplyLost.supply = s.supply ∧ s.rakeSupplyLost.weir = s.weir ∧ s.rakeSupplyLost.alarms = s.alarms ∧
    s.rakeSupplyLost.report = s.report ∧ s.rakeSupplyLost.panel = s.panel ∧ s.rakeSupplyLost.draws = s.draws ∧
    s.rakeSupplyLost.pending = s.pending := by
  unfold State.rakeSupplyLost
  (repeat' split) <;> simp

@[simp] theorem State.restartInterval_keeps :
    s.restartInterval.now = s.now ∧ s.restartInterval.startUp = s.startUp ∧
    s.restartInterval.probes = s.probes ∧ s.restartInterval.floats = s.floats ∧
    s.restartInterval.line = s.line ∧ s.restartInterval.peers = s.peers ∧
    s.restartInterval.staging = s.staging ∧ s.restartInterval.pump = s.pump ∧
    s.restartInterval.supply = s.supply ∧ s.restartInterval.weir = s.weir ∧
    s.restartInterval.alarms = s.alarms ∧ s.restartInterval.report = s.report ∧
    s.restartInterval.panel = s.panel ∧ s.restartInterval.draws = s.draws ∧
    s.restartInterval.pending = s.pending := by
  simp [State.restartInterval]

@[simp] theorem State.completeCycle_keeps :
    s.completeCycle.now = s.now ∧ s.completeCycle.startUp = s.startUp ∧ s.completeCycle.probes = s.probes ∧
    s.completeCycle.floats = s.floats ∧ s.completeCycle.line = s.line ∧ s.completeCycle.peers = s.peers ∧
    s.completeCycle.staging = s.staging ∧ s.completeCycle.pump = s.pump ∧ s.completeCycle.supply = s.supply ∧
    s.completeCycle.weir = s.weir ∧ s.completeCycle.alarms = s.alarms ∧ s.completeCycle.panel = s.panel ∧
    s.completeCycle.draws = s.draws ∧ s.completeCycle.pending = s.pending := by
  simp [State.completeCycle]

@[simp] theorem State.screenCompletion_keeps :
    s.screenCompletion.now = s.now ∧ s.screenCompletion.startUp = s.startUp ∧
    s.screenCompletion.probes = s.probes ∧ s.screenCompletion.floats = s.floats ∧
    s.screenCompletion.line = s.line ∧ s.screenCompletion.peers = s.peers ∧
    s.screenCompletion.staging = s.staging ∧ s.screenCompletion.pump = s.pump ∧
    s.screenCompletion.supply = s.supply ∧ s.screenCompletion.weir = s.weir ∧
    s.screenCompletion.alarms = s.alarms ∧ s.screenCompletion.report = s.report ∧
    s.screenCompletion.panel = s.panel ∧ s.screenCompletion.draws = s.draws ∧
    s.screenCompletion.pending = s.pending := by
  simp [State.screenCompletion]

/-! ### Weir Unit -/

@[simp] theorem State.joinLog_keeps (r : SpillData) :
    (s.joinLog r).now = s.now ∧ (s.joinLog r).startUp = s.startUp ∧ (s.joinLog r).probes = s.probes ∧
    (s.joinLog r).floats = s.floats ∧ (s.joinLog r).peers = s.peers ∧ (s.joinLog r).staging = s.staging ∧
    (s.joinLog r).pump = s.pump ∧ (s.joinLog r).supply = s.supply ∧ (s.joinLog r).screen = s.screen ∧
    (s.joinLog r).alarms = s.alarms ∧ (s.joinLog r).panel = s.panel ∧ (s.joinLog r).pending = s.pending := by
  unfold State.joinLog
  (repeat' split) <;> simp

@[simp] theorem State.setSpill_keeps (x : Spill) :
    (s.setSpill x).now = s.now ∧ (s.setSpill x).startUp = s.startUp ∧ (s.setSpill x).probes = s.probes ∧
    (s.setSpill x).floats = s.floats ∧ (s.setSpill x).staging = s.staging ∧ (s.setSpill x).pump = s.pump ∧
    (s.setSpill x).supply = s.supply ∧ (s.setSpill x).screen = s.screen ∧ (s.setSpill x).alarms = s.alarms ∧
    (s.setSpill x).report = s.report ∧ (s.setSpill x).panel = s.panel ∧ (s.setSpill x).pending = s.pending := by
  simp [State.setSpill]

@[simp] theorem State.setGap_keeps (n : Nat) :
    (s.setGap n).now = s.now ∧ (s.setGap n).startUp = s.startUp ∧ (s.setGap n).probes = s.probes ∧
    (s.setGap n).floats = s.floats ∧ (s.setGap n).line = s.line ∧ (s.setGap n).peers = s.peers ∧
    (s.setGap n).staging = s.staging ∧ (s.setGap n).pump = s.pump ∧ (s.setGap n).supply = s.supply ∧
    (s.setGap n).screen = s.screen ∧ (s.setGap n).alarms = s.alarms ∧ (s.setGap n).report = s.report ∧
    (s.setGap n).panel = s.panel ∧ (s.setGap n).draws = s.draws ∧ (s.setGap n).pending = s.pending := by
  simp [State.setGap]

@[simp] theorem State.countSpill_keeps (m n : Nat) :
    (s.countSpill m n).now = s.now ∧ (s.countSpill m n).startUp = s.startUp ∧
    (s.countSpill m n).probes = s.probes ∧ (s.countSpill m n).floats = s.floats ∧
    (s.countSpill m n).line = s.line ∧ (s.countSpill m n).peers = s.peers ∧
    (s.countSpill m n).staging = s.staging ∧ (s.countSpill m n).pump = s.pump ∧
    (s.countSpill m n).supply = s.supply ∧ (s.countSpill m n).screen = s.screen ∧
    (s.countSpill m n).weir = s.weir ∧ (s.countSpill m n).alarms = s.alarms ∧
    (s.countSpill m n).panel = s.panel ∧ (s.countSpill m n).draws = s.draws ∧
    (s.countSpill m n).pending = s.pending := by
  simp [State.countSpill]

@[simp] theorem State.openSpill_keeps (r : OnsetRecord) (n : Nat) :
    (s.openSpill r n).now = s.now ∧ (s.openSpill r n).startUp = s.startUp ∧
    (s.openSpill r n).probes = s.probes ∧ (s.openSpill r n).floats = s.floats ∧
    (s.openSpill r n).staging = s.staging ∧ (s.openSpill r n).pump = s.pump ∧
    (s.openSpill r n).supply = s.supply ∧ (s.openSpill r n).screen = s.screen ∧
    (s.openSpill r n).alarms = s.alarms ∧ (s.openSpill r n).panel = s.panel ∧
    (s.openSpill r n).pending = s.pending := by
  simp [State.openSpill]

@[simp] theorem State.closeSpill_keeps (r : SpillData) :
    (s.closeSpill r).now = s.now ∧ (s.closeSpill r).startUp = s.startUp ∧ (s.closeSpill r).probes = s.probes ∧
    (s.closeSpill r).floats = s.floats ∧ (s.closeSpill r).staging = s.staging ∧
    (s.closeSpill r).pump = s.pump ∧ (s.closeSpill r).supply = s.supply ∧ (s.closeSpill r).screen = s.screen ∧
    (s.closeSpill r).alarms = s.alarms ∧ (s.closeSpill r).panel = s.panel ∧ (s.closeSpill r).pending = s.pending := by
  simp [State.closeSpill]

@[simp] theorem State.weirHead_keeps (c : WeirSettings) (h q : Nat) :
    (s.weirHead c h q).now = s.now ∧ (s.weirHead c h q).startUp = s.startUp ∧
    (s.weirHead c h q).probes = s.probes ∧ (s.weirHead c h q).floats = s.floats ∧
    (s.weirHead c h q).staging = s.staging ∧ (s.weirHead c h q).pump = s.pump ∧
    (s.weirHead c h q).supply = s.supply ∧ (s.weirHead c h q).screen = s.screen ∧
    (s.weirHead c h q).alarms = s.alarms ∧ (s.weirHead c h q).panel = s.panel ∧
    (s.weirHead c h q).pending = s.pending := by
  unfold State.weirHead
  dsimp only
  (repeat' split) <;> simp

@[simp] theorem State.weirGap_keeps :
    s.weirGap.now = s.now ∧ s.weirGap.startUp = s.startUp ∧ s.weirGap.probes = s.probes ∧
    s.weirGap.floats = s.floats ∧ s.weirGap.staging = s.staging ∧ s.weirGap.pump = s.pump ∧
    s.weirGap.supply = s.supply ∧ s.weirGap.screen = s.screen ∧ s.weirGap.alarms = s.alarms ∧
    s.weirGap.panel = s.panel ∧ s.weirGap.pending = s.pending := by
  unfold State.weirGap
  (repeat' split) <;> simp

@[simp] theorem State.weirStep_keeps :
    s.weirStep.now = s.now ∧ s.weirStep.startUp = s.startUp ∧ s.weirStep.probes = s.probes ∧
    s.weirStep.floats = s.floats ∧ s.weirStep.staging = s.staging ∧ s.weirStep.pump = s.pump ∧
    s.weirStep.supply = s.supply ∧ s.weirStep.screen = s.screen ∧ s.weirStep.alarms = s.alarms ∧
    s.weirStep.panel = s.panel ∧ s.weirStep.pending = s.pending := by
  unfold State.weirStep
  (repeat' split) <;> simp

/-! ### Pump Sequencer -/

@[simp] theorem State.formAvailable_keeps :
    s.formAvailable.now = s.now ∧ s.formAvailable.startUp = s.startUp ∧ s.formAvailable.probes = s.probes ∧
    s.formAvailable.floats = s.floats ∧ s.formAvailable.pump = s.pump ∧ s.formAvailable.supply = s.supply ∧
    s.formAvailable.screen = s.screen ∧ s.formAvailable.weir = s.weir ∧ s.formAvailable.alarms = s.alarms ∧
    s.formAvailable.report = s.report ∧ s.formAvailable.panel = s.panel ∧ s.formAvailable.pending = s.pending := by
  simp [State.formAvailable]

@[simp] theorem State.endHandClaim_keeps :
    s.endHandClaim.now = s.now ∧ s.endHandClaim.startUp = s.startUp ∧ s.endHandClaim.probes = s.probes ∧
    s.endHandClaim.floats = s.floats ∧ s.endHandClaim.peers = s.peers ∧ s.endHandClaim.staging = s.staging ∧
    s.endHandClaim.supply = s.supply ∧ s.endHandClaim.screen = s.screen ∧ s.endHandClaim.weir = s.weir ∧
    s.endHandClaim.alarms = s.alarms ∧ s.endHandClaim.report = s.report ∧ s.endHandClaim.panel = s.panel ∧
    s.endHandClaim.pending = s.pending := by
  unfold State.endHandClaim
  (repeat' split) <;> simp

@[simp] theorem State.changePump_keeps (f : Pump → Pump) :
    (s.changePump f).now = s.now ∧ (s.changePump f).startUp = s.startUp ∧ (s.changePump f).probes = s.probes ∧
    (s.changePump f).floats = s.floats ∧ (s.changePump f).peers = s.peers ∧
    (s.changePump f).staging = s.staging ∧ (s.changePump f).supply = s.supply ∧
    (s.changePump f).screen = s.screen ∧ (s.changePump f).weir = s.weir ∧ (s.changePump f).alarms = s.alarms ∧
    (s.changePump f).report = s.report ∧ (s.changePump f).panel = s.panel ∧ (s.changePump f).pending = s.pending := by
  simp [State.changePump]

@[simp] theorem State.limitWish_keeps :
    s.limitWish.now = s.now ∧ s.limitWish.startUp = s.startUp ∧ s.limitWish.probes = s.probes ∧
    s.limitWish.floats = s.floats ∧ s.limitWish.line = s.line ∧ s.limitWish.peers = s.peers ∧
    s.limitWish.pump = s.pump ∧ s.limitWish.supply = s.supply ∧ s.limitWish.screen = s.screen ∧
    s.limitWish.weir = s.weir ∧ s.limitWish.alarms = s.alarms ∧ s.limitWish.report = s.report ∧
    s.limitWish.panel = s.panel ∧ s.limitWish.draws = s.draws ∧ s.limitWish.pending = s.pending := by
  simp [State.limitWish]

@[simp] theorem State.pumpSource_keeps (x : PumpState) :
    (s.pumpSource x).now = s.now ∧ (s.pumpSource x).startUp = s.startUp ∧ (s.pumpSource x).probes = s.probes ∧
    (s.pumpSource x).floats = s.floats ∧ (s.pumpSource x).line = s.line ∧ (s.pumpSource x).peers = s.peers ∧
    (s.pumpSource x).staging = s.staging ∧ (s.pumpSource x).pump = s.pump ∧
    (s.pumpSource x).supply = s.supply ∧ (s.pumpSource x).weir = s.weir ∧ (s.pumpSource x).alarms = s.alarms ∧
    (s.pumpSource x).report = s.report ∧ (s.pumpSource x).panel = s.panel ∧ (s.pumpSource x).draws = s.draws ∧
    (s.pumpSource x).pending = s.pending := by
  unfold State.pumpSource
  split <;> simp

@[simp] theorem State.movePump_keeps (f : Pump → Pump) :
    (s.movePump f).now = s.now ∧ (s.movePump f).startUp = s.startUp ∧ (s.movePump f).probes = s.probes ∧
    (s.movePump f).floats = s.floats ∧ (s.movePump f).supply = s.supply ∧ (s.movePump f).weir = s.weir ∧
    (s.movePump f).panel = s.panel ∧ (s.movePump f).pending = s.pending := by
  simp [State.movePump]

@[simp] theorem State.lock_keeps (c : LockCause) :
    (s.lock c).now = s.now ∧ (s.lock c).startUp = s.startUp ∧ (s.lock c).probes = s.probes ∧
    (s.lock c).floats = s.floats ∧ (s.lock c).supply = s.supply ∧ (s.lock c).weir = s.weir ∧
    (s.lock c).panel = s.panel ∧ (s.lock c).pending = s.pending := by
  unfold State.lock
  (repeat' split) <;> simp

@[simp] theorem State.setGuard_keeps :
    s.setGuard.now = s.now ∧ s.setGuard.startUp = s.startUp ∧ s.setGuard.probes = s.probes ∧
    s.setGuard.floats = s.floats ∧ s.setGuard.line = s.line ∧ s.setGuard.peers = s.peers ∧
    s.setGuard.staging = s.staging ∧ s.setGuard.supply = s.supply ∧ s.setGuard.screen = s.screen ∧
    s.setGuard.weir = s.weir ∧ s.setGuard.alarms = s.alarms ∧ s.setGuard.report = s.report ∧
    s.setGuard.panel = s.panel ∧ s.setGuard.draws = s.draws ∧ s.setGuard.pending = s.pending := by
  simp [State.setGuard]

@[simp] theorem State.claimResolved_keeps :
    s.claimResolved.now = s.now ∧ s.claimResolved.startUp = s.startUp ∧ s.claimResolved.probes = s.probes ∧
    s.claimResolved.floats = s.floats ∧ s.claimResolved.supply = s.supply ∧ s.claimResolved.weir = s.weir ∧
    s.claimResolved.panel = s.panel ∧ s.claimResolved.pending = s.pending := by
  unfold State.claimResolved
  (repeat' split) <;> simp

@[simp] theorem State.loseClaim_keeps :
    s.loseClaim.now = s.now ∧ s.loseClaim.startUp = s.startUp ∧ s.loseClaim.probes = s.probes ∧
    s.loseClaim.floats = s.floats ∧ s.loseClaim.supply = s.supply ∧ s.loseClaim.weir = s.weir ∧
    s.loseClaim.panel = s.panel ∧ s.loseClaim.pending = s.pending := by
  unfold State.loseClaim
  (repeat' split) <;> simp

@[simp] theorem State.dropWish_keeps :
    s.dropWish.now = s.now ∧ s.dropWish.startUp = s.startUp ∧ s.dropWish.probes = s.probes ∧
    s.dropWish.floats = s.floats ∧ s.dropWish.supply = s.supply ∧ s.dropWish.weir = s.weir ∧
    s.dropWish.panel = s.panel ∧ s.dropWish.pending = s.pending := by
  unfold State.dropWish
  dsimp only
  (repeat' split) <;> simp

@[simp] theorem State.reformAvailability_keeps :
    s.reformAvailability.now = s.now ∧ s.reformAvailability.startUp = s.startUp ∧
    s.reformAvailability.probes = s.probes ∧ s.reformAvailability.floats = s.floats ∧
    s.reformAvailability.supply = s.supply ∧ s.reformAvailability.weir = s.weir ∧
    s.reformAvailability.panel = s.panel ∧ s.reformAvailability.pending = s.pending := by
  unfold State.reformAvailability
  dsimp only
  (repeat' split) <;> simp

@[simp] theorem State.placeClaim_keeps :
    s.placeClaim.now = s.now ∧ s.placeClaim.startUp = s.startUp ∧ s.placeClaim.probes = s.probes ∧
    s.placeClaim.floats = s.floats ∧ s.placeClaim.peers = s.peers ∧ s.placeClaim.staging = s.staging ∧
    s.placeClaim.pump = s.pump ∧ s.placeClaim.supply = s.supply ∧ s.placeClaim.screen = s.screen ∧
    s.placeClaim.weir = s.weir ∧ s.placeClaim.alarms = s.alarms ∧ s.placeClaim.report = s.report ∧
    s.placeClaim.panel = s.panel ∧ s.placeClaim.pending = s.pending := by
  simp [State.placeClaim]

@[simp] theorem State.beginClaim_keeps :
    s.beginClaim.now = s.now ∧ s.beginClaim.startUp = s.startUp ∧ s.beginClaim.probes = s.probes ∧
    s.beginClaim.floats = s.floats ∧ s.beginClaim.supply = s.supply ∧ s.beginClaim.weir = s.weir ∧
    s.beginClaim.panel = s.panel ∧ s.beginClaim.pending = s.pending := by
  simp [State.beginClaim]

@[simp] theorem State.ageStarts_keeps :
    s.ageStarts.now = s.now ∧ s.ageStarts.startUp = s.startUp ∧ s.ageStarts.probes = s.probes ∧
    s.ageStarts.floats = s.floats ∧ s.ageStarts.supply = s.supply ∧ s.ageStarts.screen = s.screen ∧
    s.ageStarts.weir = s.weir ∧ s.ageStarts.panel = s.panel ∧ s.ageStarts.pending = s.pending := by
  unfold State.ageStarts
  dsimp only
  (repeat' split) <;> simp

@[simp] theorem State.addStart_keeps :
    s.addStart.now = s.now ∧ s.addStart.startUp = s.startUp ∧ s.addStart.probes = s.probes ∧
    s.addStart.floats = s.floats ∧ s.addStart.line = s.line ∧ s.addStart.peers = s.peers ∧
    s.addStart.staging = s.staging ∧ s.addStart.supply = s.supply ∧ s.addStart.screen = s.screen ∧
    s.addStart.weir = s.weir ∧ s.addStart.alarms = s.alarms ∧ s.addStart.report = s.report ∧
    s.addStart.panel = s.panel ∧ s.addStart.draws = s.draws ∧ s.addStart.pending = s.pending := by
  unfold State.addStart
  (repeat' split) <;> simp

@[simp] theorem State.earlyProof_keeps :
    s.earlyProof.now = s.now ∧ s.earlyProof.startUp = s.startUp ∧ s.earlyProof.probes = s.probes ∧
    s.earlyProof.floats = s.floats ∧ s.earlyProof.supply = s.supply ∧ s.earlyProof.weir = s.weir ∧
    s.earlyProof.panel = s.panel ∧ s.earlyProof.pending = s.pending := by
  simp [State.earlyProof]

@[simp] theorem State.checkEarlyProof_keeps :
    s.checkEarlyProof.now = s.now ∧ s.checkEarlyProof.startUp = s.startUp ∧
    s.checkEarlyProof.probes = s.probes ∧ s.checkEarlyProof.floats = s.floats ∧
    s.checkEarlyProof.supply = s.supply ∧ s.checkEarlyProof.weir = s.weir ∧ s.checkEarlyProof.panel = s.panel ∧
    s.checkEarlyProof.pending = s.pending := by
  unfold State.checkEarlyProof
  (repeat' split) <;> simp

@[simp] theorem State.makeStart_keeps :
    s.makeStart.now = s.now ∧ s.makeStart.startUp = s.startUp ∧ s.makeStart.probes = s.probes ∧
    s.makeStart.floats = s.floats ∧ s.makeStart.supply = s.supply ∧ s.makeStart.weir = s.weir ∧
    s.makeStart.panel = s.panel ∧ s.makeStart.pending = s.pending := by
  simp [State.makeStart]

@[simp] theorem State.fullListEvent_keeps (b : Bool) (l : List Snapshot) :
    (s.fullListEvent b l).now = s.now ∧ (s.fullListEvent b l).startUp = s.startUp ∧
    (s.fullListEvent b l).probes = s.probes ∧ (s.fullListEvent b l).floats = s.floats ∧
    (s.fullListEvent b l).line = s.line ∧ (s.fullListEvent b l).peers = s.peers ∧
    (s.fullListEvent b l).staging = s.staging ∧ (s.fullListEvent b l).pump = s.pump ∧
    (s.fullListEvent b l).supply = s.supply ∧ (s.fullListEvent b l).screen = s.screen ∧
    (s.fullListEvent b l).weir = s.weir ∧ (s.fullListEvent b l).panel = s.panel ∧
    (s.fullListEvent b l).pending = s.pending := by
  unfold State.fullListEvent
  (repeat' split) <;> simp

@[simp] theorem State.handStart_keeps :
    s.handStart.now = s.now ∧ s.handStart.startUp = s.startUp ∧ s.handStart.probes = s.probes ∧
    s.handStart.floats = s.floats ∧ s.handStart.supply = s.supply ∧ s.handStart.weir = s.weir ∧
    s.handStart.panel = s.panel ∧ s.handStart.pending = s.pending := by
  unfold State.handStart
  (repeat' split) <;> simp

@[simp] theorem State.actOnStart_keeps :
    s.actOnStart.now = s.now ∧ s.actOnStart.startUp = s.startUp ∧ s.actOnStart.probes = s.probes ∧
    s.actOnStart.floats = s.floats ∧ s.actOnStart.supply = s.supply ∧ s.actOnStart.weir = s.weir ∧
    s.actOnStart.panel = s.panel ∧ s.actOnStart.pending = s.pending := by
  unfold State.actOnStart
  (repeat' split) <;> simp

@[simp] theorem State.released_keeps :
    s.released.now = s.now ∧ s.released.startUp = s.startUp ∧ s.released.probes = s.probes ∧
    s.released.floats = s.floats ∧ s.released.supply = s.supply ∧ s.released.weir = s.weir ∧
    s.released.panel = s.panel ∧ s.released.pending = s.pending := by
  simp [State.released]

@[simp] theorem State.goStopping_keeps :
    s.goStopping.now = s.now ∧ s.goStopping.startUp = s.startUp ∧ s.goStopping.probes = s.probes ∧
    s.goStopping.floats = s.floats ∧ s.goStopping.supply = s.supply ∧ s.goStopping.weir = s.weir ∧
    s.goStopping.panel = s.panel ∧ s.goStopping.pending = s.pending := by
  unfold State.goStopping
  dsimp only
  (repeat' split) <;> simp

@[simp] theorem State.actOnStop_keeps :
    s.actOnStop.now = s.now ∧ s.actOnStop.startUp = s.startUp ∧ s.actOnStop.probes = s.probes ∧
    s.actOnStop.floats = s.floats ∧ s.actOnStop.supply = s.supply ∧ s.actOnStop.weir = s.weir ∧
    s.actOnStop.panel = s.panel ∧ s.actOnStop.pending = s.pending := by
  unfold State.actOnStop
  (repeat' split) <;> simp

@[simp] theorem State.stopFloatCutOut_keeps :
    s.stopFloatCutOut.now = s.now ∧ s.stopFloatCutOut.startUp = s.startUp ∧
    s.stopFloatCutOut.probes = s.probes ∧ s.stopFloatCutOut.floats = s.floats ∧
    s.stopFloatCutOut.supply = s.supply ∧ s.stopFloatCutOut.weir = s.weir ∧ s.stopFloatCutOut.panel = s.panel ∧
    s.stopFloatCutOut.pending = s.pending := by
  unfold State.stopFloatCutOut
  (repeat' split) <;> simp

@[simp] theorem State.bayCutOut_keeps :
    s.bayCutOut.now = s.now ∧ s.bayCutOut.startUp = s.startUp ∧ s.bayCutOut.probes = s.probes ∧
    s.bayCutOut.floats = s.floats ∧ s.bayCutOut.supply = s.supply ∧ s.bayCutOut.weir = s.weir ∧
    s.bayCutOut.panel = s.panel ∧ s.bayCutOut.pending = s.pending := by
  unfold State.bayCutOut
  (repeat' split) <;> simp

@[simp] theorem State.enterRunning_keeps :
    s.enterRunning.now = s.now ∧ s.enterRunning.startUp = s.startUp ∧ s.enterRunning.probes = s.probes ∧
    s.enterRunning.floats = s.floats ∧ s.enterRunning.supply = s.supply ∧ s.enterRunning.weir = s.weir ∧
    s.enterRunning.panel = s.panel ∧ s.enterRunning.pending = s.pending := by
  simp [State.enterRunning]

@[simp] theorem State.failedTo_keeps :
    s.failedTo.now = s.now ∧ s.failedTo.startUp = s.startUp ∧ s.failedTo.probes = s.probes ∧
    s.failedTo.floats = s.floats ∧ s.failedTo.supply = s.supply ∧ s.failedTo.weir = s.weir ∧
    s.failedTo.panel = s.panel ∧ s.failedTo.pending = s.pending := by
  unfold State.failedTo
  dsimp only
  (repeat' split) <;> simp

@[simp] theorem State.failure_keeps (k : AlarmKind) :
    (s.failure k).now = s.now ∧ (s.failure k).startUp = s.startUp ∧ (s.failure k).probes = s.probes ∧
    (s.failure k).floats = s.floats ∧ (s.failure k).supply = s.supply ∧ (s.failure k).weir = s.weir ∧
    (s.failure k).panel = s.panel ∧ (s.failure k).pending = s.pending := by
  simp [State.failure]

@[simp] theorem State.notProved_keeps :
    s.notProved.now = s.now ∧ s.notProved.startUp = s.startUp ∧ s.notProved.probes = s.probes ∧
    s.notProved.floats = s.floats ∧ s.notProved.supply = s.supply ∧ s.notProved.weir = s.weir ∧
    s.notProved.panel = s.panel ∧ s.notProved.pending = s.pending := by
  simp [State.notProved]

@[simp] theorem State.proven_keeps :
    s.proven.now = s.now ∧ s.proven.startUp = s.startUp ∧ s.proven.probes = s.probes ∧
    s.proven.floats = s.floats ∧ s.proven.supply = s.supply ∧ s.proven.weir = s.weir ∧
    s.proven.panel = s.panel ∧ s.proven.pending = s.pending := by
  unfold State.proven
  (repeat' split) <;> simp

@[simp] theorem State.feedbackInWindow_keeps (w : ProvingWindow) :
    (s.feedbackInWindow w).now = s.now ∧ (s.feedbackInWindow w).startUp = s.startUp ∧
    (s.feedbackInWindow w).probes = s.probes ∧ (s.feedbackInWindow w).floats = s.floats ∧
    (s.feedbackInWindow w).supply = s.supply ∧ (s.feedbackInWindow w).weir = s.weir ∧
    (s.feedbackInWindow w).panel = s.panel ∧ (s.feedbackInWindow w).pending = s.pending := by
  unfold State.feedbackInWindow
  (repeat' split) <;> simp

/-! ### Staging Unit -/

@[simp] theorem State.setStartWish_keeps (w : StartWish) :
    (s.setStartWish w).now = s.now ∧ (s.setStartWish w).startUp = s.startUp ∧
    (s.setStartWish w).probes = s.probes ∧ (s.setStartWish w).floats = s.floats ∧
    (s.setStartWish w).supply = s.supply ∧ (s.setStartWish w).weir = s.weir ∧
    (s.setStartWish w).panel = s.panel ∧ (s.setStartWish w).pending = s.pending := by
  unfold State.setStartWish
  (repeat' split) <;> simp

@[simp] theorem State.formA1_keeps :
    s.formA1.now = s.now ∧ s.formA1.startUp = s.startUp ∧ s.formA1.probes = s.probes ∧
    s.formA1.floats = s.floats ∧ s.formA1.line = s.line ∧ s.formA1.peers = s.peers ∧ s.formA1.pump = s.pump ∧
    s.formA1.supply = s.supply ∧ s.formA1.screen = s.screen ∧ s.formA1.weir = s.weir ∧
    s.formA1.panel = s.panel ∧ s.formA1.pending = s.pending := by
  simp [State.formA1]

@[simp] theorem State.peakLevel_keeps :
    s.peakLevel.now = s.now ∧ s.peakLevel.startUp = s.startUp ∧ s.peakLevel.probes = s.probes ∧
    s.peakLevel.floats = s.floats ∧ s.peakLevel.line = s.line ∧ s.peakLevel.peers = s.peers ∧
    s.peakLevel.staging = s.staging ∧ s.peakLevel.pump = s.pump ∧ s.peakLevel.supply = s.supply ∧
    s.peakLevel.screen = s.screen ∧ s.peakLevel.weir = s.weir ∧ s.peakLevel.alarms = s.alarms ∧
    s.peakLevel.panel = s.panel ∧ s.peakLevel.draws = s.draws ∧ s.peakLevel.pending = s.pending := by
  unfold State.peakLevel
  (repeat' split) <;> simp

@[simp] theorem State.formHouseLevel_keeps :
    s.formHouseLevel.now = s.now ∧ s.formHouseLevel.startUp = s.startUp ∧ s.formHouseLevel.probes = s.probes ∧
    s.formHouseLevel.floats = s.floats ∧ s.formHouseLevel.line = s.line ∧ s.formHouseLevel.peers = s.peers ∧
    s.formHouseLevel.pump = s.pump ∧ s.formHouseLevel.supply = s.supply ∧ s.formHouseLevel.screen = s.screen ∧
    s.formHouseLevel.weir = s.weir ∧ s.formHouseLevel.alarms = s.alarms ∧ s.formHouseLevel.report = s.report ∧
    s.formHouseLevel.panel = s.panel ∧ s.formHouseLevel.draws = s.draws ∧ s.formHouseLevel.pending = s.pending := by
  simp [State.formHouseLevel]

@[simp] theorem State.formLevelSource_keeps :
    s.formLevelSource.now = s.now ∧ s.formLevelSource.startUp = s.startUp ∧
    s.formLevelSource.probes = s.probes ∧ s.formLevelSource.floats = s.floats ∧
    s.formLevelSource.line = s.line ∧ s.formLevelSource.peers = s.peers ∧ s.formLevelSource.pump = s.pump ∧
    s.formLevelSource.supply = s.supply ∧ s.formLevelSource.screen = s.screen ∧
    s.formLevelSource.weir = s.weir ∧ s.formLevelSource.alarms = s.alarms ∧
    s.formLevelSource.report = s.report ∧ s.formLevelSource.panel = s.panel ∧
    s.formLevelSource.draws = s.draws ∧ s.formLevelSource.pending = s.pending := by
  simp [State.formLevelSource]

@[simp] theorem State.formFloatMode_keeps :
    s.formFloatMode.now = s.now ∧ s.formFloatMode.startUp = s.startUp ∧ s.formFloatMode.probes = s.probes ∧
    s.formFloatMode.floats = s.floats ∧ s.formFloatMode.line = s.line ∧ s.formFloatMode.peers = s.peers ∧
    s.formFloatMode.pump = s.pump ∧ s.formFloatMode.supply = s.supply ∧ s.formFloatMode.screen = s.screen ∧
    s.formFloatMode.weir = s.weir ∧ s.formFloatMode.alarms = s.alarms ∧ s.formFloatMode.report = s.report ∧
    s.formFloatMode.panel = s.panel ∧ s.formFloatMode.draws = s.draws ∧ s.formFloatMode.pending = s.pending := by
  simp [State.formFloatMode]

@[simp] theorem State.formLatches_keeps :
    s.formLatches.now = s.now ∧ s.formLatches.startUp = s.startUp ∧ s.formLatches.probes = s.probes ∧
    s.formLatches.floats = s.floats ∧ s.formLatches.line = s.line ∧ s.formLatches.peers = s.peers ∧
    s.formLatches.pump = s.pump ∧ s.formLatches.supply = s.supply ∧ s.formLatches.screen = s.screen ∧
    s.formLatches.weir = s.weir ∧ s.formLatches.alarms = s.alarms ∧ s.formLatches.report = s.report ∧
    s.formLatches.panel = s.panel ∧ s.formLatches.draws = s.draws ∧ s.formLatches.pending = s.pending := by
  simp [State.formLatches]

@[simp] theorem State.formD_keeps :
    s.formD.now = s.now ∧ s.formD.startUp = s.startUp ∧ s.formD.probes = s.probes ∧ s.formD.floats = s.floats ∧
    s.formD.line = s.line ∧ s.formD.peers = s.peers ∧ s.formD.pump = s.pump ∧ s.formD.supply = s.supply ∧
    s.formD.screen = s.screen ∧ s.formD.weir = s.weir ∧ s.formD.alarms = s.alarms ∧ s.formD.report = s.report ∧
    s.formD.panel = s.panel ∧ s.formD.draws = s.draws ∧ s.formD.pending = s.pending := by
  simp [State.formD]

@[simp] theorem State.formDAuto_keeps :
    s.formDAuto.now = s.now ∧ s.formDAuto.startUp = s.startUp ∧ s.formDAuto.probes = s.probes ∧
    s.formDAuto.floats = s.floats ∧ s.formDAuto.line = s.line ∧ s.formDAuto.peers = s.peers ∧
    s.formDAuto.pump = s.pump ∧ s.formDAuto.supply = s.supply ∧ s.formDAuto.screen = s.screen ∧
    s.formDAuto.weir = s.weir ∧ s.formDAuto.alarms = s.alarms ∧ s.formDAuto.report = s.report ∧
    s.formDAuto.panel = s.panel ∧ s.formDAuto.draws = s.draws ∧ s.formDAuto.pending = s.pending := by
  simp [State.formDAuto]

@[simp] theorem State.formRank_keeps :
    s.formRank.now = s.now ∧ s.formRank.startUp = s.startUp ∧ s.formRank.probes = s.probes ∧
    s.formRank.floats = s.floats ∧ s.formRank.line = s.line ∧ s.formRank.peers = s.peers ∧
    s.formRank.pump = s.pump ∧ s.formRank.supply = s.supply ∧ s.formRank.screen = s.screen ∧
    s.formRank.weir = s.weir ∧ s.formRank.alarms = s.alarms ∧ s.formRank.report = s.report ∧
    s.formRank.panel = s.panel ∧ s.formRank.draws = s.draws ∧ s.formRank.pending = s.pending := by
  simp [State.formRank]

@[simp] theorem State.formDelay_keeps :
    s.formDelay.now = s.now ∧ s.formDelay.startUp = s.startUp ∧ s.formDelay.probes = s.probes ∧
    s.formDelay.floats = s.floats ∧ s.formDelay.line = s.line ∧ s.formDelay.peers = s.peers ∧
    s.formDelay.pump = s.pump ∧ s.formDelay.supply = s.supply ∧ s.formDelay.screen = s.screen ∧
    s.formDelay.weir = s.weir ∧ s.formDelay.alarms = s.alarms ∧ s.formDelay.report = s.report ∧
    s.formDelay.panel = s.panel ∧ s.formDelay.draws = s.draws ∧ s.formDelay.pending = s.pending := by
  simp [State.formDelay]

@[simp] theorem State.formLimitHeld_keeps :
    s.formLimitHeld.now = s.now ∧ s.formLimitHeld.startUp = s.startUp ∧ s.formLimitHeld.probes = s.probes ∧
    s.formLimitHeld.floats = s.floats ∧ s.formLimitHeld.line = s.line ∧ s.formLimitHeld.peers = s.peers ∧
    s.formLimitHeld.pump = s.pump ∧ s.formLimitHeld.supply = s.supply ∧ s.formLimitHeld.screen = s.screen ∧
    s.formLimitHeld.weir = s.weir ∧ s.formLimitHeld.alarms = s.alarms ∧ s.formLimitHeld.report = s.report ∧
    s.formLimitHeld.panel = s.panel ∧ s.formLimitHeld.draws = s.draws ∧ s.formLimitHeld.pending = s.pending := by
  simp [State.formLimitHeld]

@[simp] theorem State.formStopWish_keeps :
    s.formStopWish.now = s.now ∧ s.formStopWish.startUp = s.startUp ∧ s.formStopWish.probes = s.probes ∧
    s.formStopWish.floats = s.floats ∧ s.formStopWish.line = s.line ∧ s.formStopWish.peers = s.peers ∧
    s.formStopWish.pump = s.pump ∧ s.formStopWish.supply = s.supply ∧ s.formStopWish.screen = s.screen ∧
    s.formStopWish.weir = s.weir ∧ s.formStopWish.alarms = s.alarms ∧ s.formStopWish.report = s.report ∧
    s.formStopWish.panel = s.panel ∧ s.formStopWish.draws = s.draws ∧ s.formStopWish.pending = s.pending := by
  simp [State.formStopWish]

@[simp] theorem State.formPicture_keeps :
    s.formPicture.now = s.now ∧ s.formPicture.startUp = s.startUp ∧ s.formPicture.probes = s.probes ∧
    s.formPicture.floats = s.floats ∧ s.formPicture.pump = s.pump ∧ s.formPicture.supply = s.supply ∧
    s.formPicture.screen = s.screen ∧ s.formPicture.weir = s.weir ∧ s.formPicture.alarms = s.alarms ∧
    s.formPicture.report = s.report ∧ s.formPicture.panel = s.panel ∧ s.formPicture.pending = s.pending := by
  simp [State.formPicture]

@[simp] theorem State.formWishes_keeps :
    s.formWishes.1.now = s.now ∧ s.formWishes.1.startUp = s.startUp ∧ s.formWishes.1.probes = s.probes ∧
    s.formWishes.1.floats = s.floats ∧ s.formWishes.1.line = s.line ∧ s.formWishes.1.peers = s.peers ∧
    s.formWishes.1.pump = s.pump ∧ s.formWishes.1.supply = s.supply ∧ s.formWishes.1.screen = s.screen ∧
    s.formWishes.1.weir = s.weir ∧ s.formWishes.1.panel = s.panel ∧ s.formWishes.1.pending = s.pending := by
  simp [State.formWishes]

@[simp] theorem State.act_keeps (w : State × StartWish) :
    (State.act w).now = w.1.now ∧ (State.act w).startUp = w.1.startUp ∧ (State.act w).probes = w.1.probes ∧
    (State.act w).floats = w.1.floats ∧ (State.act w).supply = w.1.supply ∧ (State.act w).weir = w.1.weir ∧
    (State.act w).panel = w.1.panel ∧ (State.act w).pending = w.1.pending := by
  simp [State.act]

@[simp] theorem State.evaluate_keeps :
    s.evaluate.now = s.now ∧ s.evaluate.startUp = s.startUp ∧ s.evaluate.probes = s.probes ∧
    s.evaluate.floats = s.floats ∧ s.evaluate.supply = s.supply ∧ s.evaluate.weir = s.weir ∧
    s.evaluate.panel = s.panel ∧ s.evaluate.pending = s.pending := by
  unfold State.evaluate
  (repeat' split) <;> simp

@[simp] theorem State.floatDelay_keeps (b : Bool) :
    (s.floatDelay b).now = s.now ∧ (s.floatDelay b).startUp = s.startUp ∧ (s.floatDelay b).probes = s.probes ∧
    (s.floatDelay b).floats = s.floats ∧ (s.floatDelay b).line = s.line ∧ (s.floatDelay b).peers = s.peers ∧
    (s.floatDelay b).pump = s.pump ∧ (s.floatDelay b).supply = s.supply ∧ (s.floatDelay b).screen = s.screen ∧
    (s.floatDelay b).weir = s.weir ∧ (s.floatDelay b).alarms = s.alarms ∧ (s.floatDelay b).report = s.report ∧
    (s.floatDelay b).panel = s.panel ∧ (s.floatDelay b).draws = s.draws ∧ (s.floatDelay b).pending = s.pending := by
  unfold State.floatDelay
  (repeat' split) <;> simp

@[simp] theorem State.floatStopWish_keeps (b : Bool) :
    (s.floatStopWish b).now = s.now ∧ (s.floatStopWish b).startUp = s.startUp ∧
    (s.floatStopWish b).probes = s.probes ∧ (s.floatStopWish b).floats = s.floats ∧
    (s.floatStopWish b).line = s.line ∧ (s.floatStopWish b).peers = s.peers ∧
    (s.floatStopWish b).pump = s.pump ∧ (s.floatStopWish b).supply = s.supply ∧
    (s.floatStopWish b).screen = s.screen ∧ (s.floatStopWish b).weir = s.weir ∧
    (s.floatStopWish b).alarms = s.alarms ∧ (s.floatStopWish b).report = s.report ∧
    (s.floatStopWish b).panel = s.panel ∧ (s.floatStopWish b).draws = s.draws ∧
    (s.floatStopWish b).pending = s.pending := by
  unfold State.floatStopWish
  (repeat' split) <;> simp

@[simp] theorem State.floatWishes_keeps (b c : Bool) :
    (s.floatWishes b c).now = s.now ∧ (s.floatWishes b c).startUp = s.startUp ∧
    (s.floatWishes b c).probes = s.probes ∧ (s.floatWishes b c).floats = s.floats ∧
    (s.floatWishes b c).supply = s.supply ∧ (s.floatWishes b c).weir = s.weir ∧
    (s.floatWishes b c).panel = s.panel ∧ (s.floatWishes b c).pending = s.pending := by
  unfold State.floatWishes
  (repeat' split) <;> simp

@[simp] theorem State.isolationTaken_keeps :
    s.isolationTaken.now = s.now ∧ s.isolationTaken.startUp = s.startUp ∧ s.isolationTaken.probes = s.probes ∧
    s.isolationTaken.floats = s.floats ∧ s.isolationTaken.supply = s.supply ∧ s.isolationTaken.weir = s.weir ∧
    s.isolationTaken.panel = s.panel ∧ s.isolationTaken.pending = s.pending := by
  unfold State.isolationTaken
  (repeat' split) <;> simp

@[simp] theorem State.isolationChange_keeps (l : List Snapshot) (b : Bool) :
    (s.isolationChange l b).now = s.now ∧ (s.isolationChange l b).startUp = s.startUp ∧
    (s.isolationChange l b).probes = s.probes ∧ (s.isolationChange l b).floats = s.floats ∧
    (s.isolationChange l b).supply = s.supply ∧ (s.isolationChange l b).weir = s.weir ∧
    (s.isolationChange l b).panel = s.panel ∧ (s.isolationChange l b).pending = s.pending := by
  unfold State.isolationChange
  (repeat' split) <;> simp

/-! ### Probe Interface -/

/-- Of two things whose order is open, one has been taken and then the other (log entry 9). -/
theorem eitherOrder_cases (f g : State → State) :
    eitherOrder f g s = g (f s) ∨ eitherOrder f g s = g (f s.drawn) ∨ eitherOrder f g s = f (g s.drawn) := by
  unfold eitherOrder
  (repeat' split) <;> simp

/-- What two things taken one after the other pass through: the state between them, and what each passes through where it
is taken. -/
theorem mem_eitherPasses {f g : State → State} {wf wg : State → List State} {x : State}
    (h : x ∈ eitherPasses f g wf wg s) :
    ∃ u, (u = s ∨ u = s.drawn) ∧
      (x = f u ∨ x = g u ∨ x ∈ wf u ∨ x ∈ wg u ∨ x ∈ wg (f u) ∨ x ∈ wf (g u)) := by
  unfold eitherPasses at h
  (repeat' split at h) <;> simp only [List.mem_append, List.mem_cons] at h
  · exact ⟨s, .inl rfl, by tauto⟩
  all_goals exact ⟨s.drawn, .inr rfl, by tauto⟩

@[simp] theorem State.evaluateWithCutOut_keeps :
    s.evaluateWithCutOut.now = s.now ∧ s.evaluateWithCutOut.startUp = s.startUp ∧
    s.evaluateWithCutOut.probes = s.probes ∧ s.evaluateWithCutOut.floats = s.floats ∧
    s.evaluateWithCutOut.supply = s.supply ∧ s.evaluateWithCutOut.weir = s.weir ∧
    s.evaluateWithCutOut.panel = s.panel ∧ s.evaluateWithCutOut.pending = s.pending := by
  unfold State.evaluateWithCutOut
  try unfold eitherOrder
  (repeat' split) <;> simp

@[simp] theorem State.decideAtCompletion_keeps :
    s.decideAtCompletion.now = s.now ∧ s.decideAtCompletion.startUp = s.startUp ∧
    s.decideAtCompletion.probes = s.probes ∧ s.decideAtCompletion.floats = s.floats ∧
    s.decideAtCompletion.supply = s.supply ∧ s.decideAtCompletion.panel = s.panel ∧
    s.decideAtCompletion.pending = s.pending := by
  unfold State.decideAtCompletion
  try unfold eitherOrder
  (repeat' split) <;> simp

@[simp] theorem State.completionTaken_keeps :
    s.completionTaken.now = s.now ∧ s.completionTaken.startUp = s.startUp ∧
    s.completionTaken.floats = s.floats ∧ s.completionTaken.staging = s.staging ∧
    s.completionTaken.pump = s.pump ∧ s.completionTaken.supply = s.supply ∧ s.completionTaken.weir = s.weir ∧
    s.completionTaken.alarms = s.alarms ∧ s.completionTaken.report = s.report ∧
    s.completionTaken.panel = s.panel ∧ s.completionTaken.pending = s.pending := by
  simp [State.completionTaken]

@[simp] theorem State.decideIfEnded_keeps :
    s.decideIfEnded.now = s.now ∧ s.decideIfEnded.startUp = s.startUp ∧ s.decideIfEnded.probes = s.probes ∧
    s.decideIfEnded.floats = s.floats ∧ s.decideIfEnded.supply = s.supply ∧ s.decideIfEnded.panel = s.panel ∧
    s.decideIfEnded.pending = s.pending := by
  unfold State.decideIfEnded
  (repeat' split) <;> simp

@[simp] theorem State.completion_keeps :
    s.completion.now = s.now ∧ s.completion.startUp = s.startUp ∧ s.completion.floats = s.floats ∧
    s.completion.supply = s.supply ∧ s.completion.panel = s.panel ∧ s.completion.pending = s.pending := by
  simp [State.completion]

@[simp] theorem State.beginCycle_keeps (m : Nat) :
    (s.beginCycle m).now = s.now ∧ (s.beginCycle m).startUp = s.startUp ∧ (s.beginCycle m).floats = s.floats ∧
    (s.beginCycle m).supply = s.supply ∧ (s.beginCycle m).panel = s.panel ∧ (s.beginCycle m).pending = s.pending := by
  unfold State.beginCycle
  dsimp only
  (repeat' split) <;> simp

@[simp] theorem State.beginListen_keeps (m : Nat) :
    (s.beginListen m).now = s.now ∧ (s.beginListen m).floats = s.floats ∧ (s.beginListen m).supply = s.supply ∧
    (s.beginListen m).panel = s.panel ∧ (s.beginListen m).pending = s.pending := by
  simp [State.beginListen]

@[simp] theorem State.exchangeEnded_keeps (b : Bool) :
    (s.exchangeEnded b).now = s.now ∧ (s.exchangeEnded b).floats = s.floats ∧
    (s.exchangeEnded b).supply = s.supply ∧ (s.exchangeEnded b).panel = s.panel ∧
    (s.exchangeEnded b).pending = s.pending := by
  unfold State.exchangeEnded
  dsimp only
  (repeat' split) <;> simp

@[simp] theorem State.exchangeMissed_keeps (x : Exchange) :
    (s.exchangeMissed x).now = s.now ∧ (s.exchangeMissed x).floats = s.floats ∧
    (s.exchangeMissed x).supply = s.supply ∧ (s.exchangeMissed x).panel = s.panel ∧
    (s.exchangeMissed x).pending = s.pending := by
  unfold State.exchangeMissed
  (repeat' split) <;> simp

@[simp] theorem State.attemptFailed_keeps (x : Exchange) :
    (s.attemptFailed x).now = s.now ∧ (s.attemptFailed x).floats = s.floats ∧
    (s.attemptFailed x).supply = s.supply ∧ (s.attemptFailed x).panel = s.panel ∧
    (s.attemptFailed x).pending = s.pending := by
  unfold State.attemptFailed
  (repeat' split) <;> simp

@[simp] theorem State.readReplied_keeps (x : Exchange) (l : List LinkByte) :
    (s.readReplied x l).now = s.now ∧ (s.readReplied x l).floats = s.floats ∧
    (s.readReplied x l).supply = s.supply ∧ (s.readReplied x l).panel = s.panel ∧
    (s.readReplied x l).pending = s.pending := by
  unfold State.readReplied
  (repeat' split) <;> simp

@[simp] theorem State.identifyReplied_keeps (x : Exchange) (l : List LinkByte) :
    (s.identifyReplied x l).now = s.now ∧ (s.identifyReplied x l).floats = s.floats ∧
    (s.identifyReplied x l).supply = s.supply ∧ (s.identifyReplied x l).panel = s.panel ∧
    (s.identifyReplied x l).pending = s.pending := by
  unfold State.identifyReplied
  (repeat' split) <;> simp

/-! ### Float Monitor -/

@[simp] theorem State.stopFloatChanged_keeps :
    s.stopFloatChanged.now = s.now ∧ s.stopFloatChanged.startUp = s.startUp ∧
    s.stopFloatChanged.probes = s.probes ∧ s.stopFloatChanged.floats = s.floats ∧
    s.stopFloatChanged.supply = s.supply ∧ s.stopFloatChanged.weir = s.weir ∧
    s.stopFloatChanged.panel = s.panel ∧ s.stopFloatChanged.pending = s.pending := by
  simp [State.stopFloatChanged]

@[simp] theorem State.floatsWish_keeps (b c : Bool) :
    (s.floatsWish b c).now = s.now ∧ (s.floatsWish b c).startUp = s.startUp ∧
    (s.floatsWish b c).probes = s.probes ∧ (s.floatsWish b c).floats = s.floats ∧
    (s.floatsWish b c).supply = s.supply ∧ (s.floatsWish b c).weir = s.weir ∧
    (s.floatsWish b c).panel = s.panel ∧ (s.floatsWish b c).pending = s.pending := by
  unfold State.floatsWish
  (repeat' split) <;> simp

@[simp] theorem FloatUnit.pulseEnded_record (u : FloatUnit) (f : FloatId) : u.pulseEnded.record f = u.record f := by
  cases f <;> rfl
@[simp] theorem FloatUnit.pulseEnded_contradiction (u : FloatUnit) : u.pulseEnded.contradiction = u.contradiction := rfl
@[simp] theorem FloatUnit.pulseEnded_turn (u : FloatUnit) : u.pulseEnded.turn = nextTurn u.turn := rfl
@[simp] theorem FloatUnit.pulseEnded_pulseAt (u : FloatUnit) : u.pulseEnded.pulseAt = u.pulseAt + pulseGap u.turn := rfl

@[simp] theorem State.highChanged_keeps (u : FloatUnit) :
    (s.highChanged u).now = s.now ∧ (s.highChanged u).startUp = s.startUp ∧
    (s.highChanged u).probes = s.probes ∧ (s.highChanged u).floats = s.floats ∧
    (s.highChanged u).line = s.line ∧ (s.highChanged u).peers = s.peers ∧ (s.highChanged u).pump = s.pump ∧
    (s.highChanged u).supply = s.supply ∧ (s.highChanged u).screen = s.screen ∧
    (s.highChanged u).weir = s.weir ∧ (s.highChanged u).panel = s.panel ∧ (s.highChanged u).pending = s.pending := by
  unfold State.highChanged
  (repeat' split) <;> simp

@[simp] theorem State.formA9_keeps (e : State) :
    (s.formA9 e).now = s.now ∧ (s.formA9 e).startUp = s.startUp ∧ (s.formA9 e).probes = s.probes ∧
    (s.formA9 e).floats = s.floats ∧ (s.formA9 e).line = s.line ∧ (s.formA9 e).peers = s.peers ∧
    (s.formA9 e).staging = s.staging ∧ (s.formA9 e).pump = s.pump ∧ (s.formA9 e).supply = s.supply ∧
    (s.formA9 e).screen = s.screen ∧ (s.formA9 e).weir = s.weir ∧ (s.formA9 e).panel = s.panel ∧
    (s.formA9 e).pending = s.pending := by
  simp [State.formA9]

@[simp] theorem State.floatsChanged_keeps (b c : Bool) :
    (s.floatsChanged b c).now = s.now ∧ (s.floatsChanged b c).startUp = s.startUp ∧
    (s.floatsChanged b c).probes = s.probes ∧ (s.floatsChanged b c).floats = s.floats ∧
    (s.floatsChanged b c).supply = s.supply ∧ (s.floatsChanged b c).weir = s.weir ∧
    (s.floatsChanged b c).panel = s.panel ∧ (s.floatsChanged b c).pending = s.pending := by
  unfold State.floatsChanged
  (repeat' split) <;> simp

@[simp] theorem State.floatsAct_keeps (u : FloatUnit) :
    (s.floatsAct u).now = s.now ∧ (s.floatsAct u).startUp = s.startUp ∧ (s.floatsAct u).probes = s.probes ∧
    (s.floatsAct u).floats = s.floats ∧ (s.floatsAct u).supply = s.supply ∧ (s.floatsAct u).weir = s.weir ∧
    (s.floatsAct u).panel = s.panel ∧ (s.floatsAct u).pending = s.pending := by
  unfold State.floatsAct eitherOrder
  (repeat' split) <;> simp

@[simp] theorem State.afterExcitation_keeps (u : FloatUnit) :
    (s.afterExcitation u).now = s.now ∧ (s.afterExcitation u).startUp = s.startUp ∧
    (s.afterExcitation u).probes = s.probes ∧ (s.afterExcitation u).floats = s.floats ∧
    (s.afterExcitation u).supply = s.supply ∧ (s.afterExcitation u).weir = s.weir ∧
    (s.afterExcitation u).panel = s.panel ∧ (s.afterExcitation u).pending = s.pending := by
  simp [State.afterExcitation]

/-! ### Line Interface -/

@[simp] theorem State.claimCompleted_keeps :
    s.claimCompleted.now = s.now ∧ s.claimCompleted.startUp = s.startUp ∧ s.claimCompleted.probes = s.probes ∧
    s.claimCompleted.floats = s.floats ∧ s.claimCompleted.supply = s.supply ∧ s.claimCompleted.weir = s.weir ∧
    s.claimCompleted.panel = s.panel ∧ s.claimCompleted.pending = s.pending := by
  unfold State.claimCompleted
  dsimp only
  (repeat' split) <;> simp

@[simp] theorem State.claimBack_keeps :
    s.claimBack.now = s.now ∧ s.claimBack.startUp = s.startUp ∧ s.claimBack.probes = s.probes ∧
    s.claimBack.floats = s.floats ∧ s.claimBack.supply = s.supply ∧ s.claimBack.weir = s.weir ∧
    s.claimBack.panel = s.panel ∧ s.claimBack.pending = s.pending := by
  unfold State.claimBack
  dsimp only
  (repeat' split) <;> simp

@[simp] theorem State.attemptBack_keeps :
    s.attemptBack.now = s.now ∧ s.attemptBack.startUp = s.startUp ∧ s.attemptBack.probes = s.probes ∧
    s.attemptBack.floats = s.floats ∧ s.attemptBack.supply = s.supply ∧ s.attemptBack.weir = s.weir ∧
    s.attemptBack.panel = s.panel ∧ s.attemptBack.pending = s.pending := by
  simp [State.attemptBack]

@[simp] theorem State.statusCompleted_keeps (f : Frame) :
    (s.statusCompleted f).now = s.now ∧ (s.statusCompleted f).startUp = s.startUp ∧
    (s.statusCompleted f).probes = s.probes ∧ (s.statusCompleted f).floats = s.floats ∧
    (s.statusCompleted f).staging = s.staging ∧ (s.statusCompleted f).supply = s.supply ∧
    (s.statusCompleted f).screen = s.screen ∧ (s.statusCompleted f).weir = s.weir ∧
    (s.statusCompleted f).alarms = s.alarms ∧ (s.statusCompleted f).report = s.report ∧
    (s.statusCompleted f).panel = s.panel ∧ (s.statusCompleted f).pending = s.pending := by
  unfold State.statusCompleted
  dsimp only
  (repeat' split) <;> simp

@[simp] theorem State.toldComplete_keeps (i : SlotId) (f : Frame) :
    (s.toldComplete i f).now = s.now ∧ (s.toldComplete i f).startUp = s.startUp ∧
    (s.toldComplete i f).probes = s.probes ∧ (s.toldComplete i f).floats = s.floats ∧
    (s.toldComplete i f).supply = s.supply ∧ (s.toldComplete i f).panel = s.panel ∧
    (s.toldComplete i f).pending = s.pending := by
  unfold State.toldComplete
  (repeat' split) <;> simp

@[simp] theorem State.disableTransmitter_keeps (f : LineUnit → LineUnit) :
    (s.disableTransmitter f).now = s.now ∧ (s.disableTransmitter f).startUp = s.startUp ∧
    (s.disableTransmitter f).probes = s.probes ∧ (s.disableTransmitter f).floats = s.floats ∧
    (s.disableTransmitter f).supply = s.supply ∧ (s.disableTransmitter f).weir = s.weir ∧
    (s.disableTransmitter f).panel = s.panel ∧ (s.disableTransmitter f).pending = s.pending := by
  unfold State.disableTransmitter
  (repeat' split) <;> simp

@[simp] theorem State.latchConflict_keeps :
    s.latchConflict.now = s.now ∧ s.latchConflict.startUp = s.startUp ∧ s.latchConflict.probes = s.probes ∧
    s.latchConflict.floats = s.floats ∧ s.latchConflict.supply = s.supply ∧ s.latchConflict.weir = s.weir ∧
    s.latchConflict.panel = s.panel ∧ s.latchConflict.pending = s.pending := by
  simp [State.latchConflict]

@[simp] theorem State.endField_keeps :
    s.endField.now = s.now ∧ s.endField.startUp = s.startUp ∧ s.endField.probes = s.probes ∧
    s.endField.floats = s.floats ∧ s.endField.peers = s.peers ∧ s.endField.staging = s.staging ∧
    s.endField.pump = s.pump ∧ s.endField.supply = s.supply ∧ s.endField.screen = s.screen ∧
    s.endField.weir = s.weir ∧ s.endField.alarms = s.alarms ∧ s.endField.report = s.report ∧
    s.endField.panel = s.panel ∧ s.endField.draws = s.draws ∧ s.endField.pending = s.pending := by
  simp [State.endField]

@[simp] theorem State.lineError_keeps :
    s.lineError.now = s.now ∧ s.lineError.startUp = s.startUp ∧ s.lineError.probes = s.probes ∧
    s.lineError.floats = s.floats ∧ s.lineError.line = s.line ∧ s.lineError.peers = s.peers ∧
    s.lineError.staging = s.staging ∧ s.lineError.pump = s.pump ∧ s.lineError.supply = s.supply ∧
    s.lineError.screen = s.screen ∧ s.lineError.weir = s.weir ∧ s.lineError.alarms = s.alarms ∧
    s.lineError.panel = s.panel ∧ s.lineError.draws = s.draws ∧ s.lineError.pending = s.pending := by
  simp [State.lineError]

@[simp] theorem State.lineTaken_keeps :
    s.lineTaken.now = s.now ∧ s.lineTaken.startUp = s.startUp ∧ s.lineTaken.probes = s.probes ∧
    s.lineTaken.floats = s.floats ∧ s.lineTaken.peers = s.peers ∧ s.lineTaken.staging = s.staging ∧
    s.lineTaken.pump = s.pump ∧ s.lineTaken.supply = s.supply ∧ s.lineTaken.screen = s.screen ∧
    s.lineTaken.weir = s.weir ∧ s.lineTaken.alarms = s.alarms ∧ s.lineTaken.report = s.report ∧
    s.lineTaken.panel = s.panel ∧ s.lineTaken.draws = s.draws ∧ s.lineTaken.pending = s.pending := by
  unfold State.lineTaken
  dsimp only
  (repeat' split) <;> simp

@[simp] theorem State.yieldClaim_keeps :
    s.yieldClaim.now = s.now ∧ s.yieldClaim.startUp = s.startUp ∧ s.yieldClaim.probes = s.probes ∧
    s.yieldClaim.floats = s.floats ∧ s.yieldClaim.supply = s.supply ∧ s.yieldClaim.weir = s.weir ∧
    s.yieldClaim.panel = s.panel ∧ s.yieldClaim.pending = s.pending := by
  unfold State.yieldClaim
  (repeat' split) <;> simp

@[simp] theorem State.markClaim_keeps (a : BayAddress) (n : Nat) :
    (s.markClaim a n).now = s.now ∧ (s.markClaim a n).startUp = s.startUp ∧
    (s.markClaim a n).probes = s.probes ∧ (s.markClaim a n).floats = s.floats ∧
    (s.markClaim a n).line = s.line ∧ (s.markClaim a n).peers = s.peers ∧ (s.markClaim a n).pump = s.pump ∧
    (s.markClaim a n).supply = s.supply ∧ (s.markClaim a n).screen = s.screen ∧
    (s.markClaim a n).weir = s.weir ∧ (s.markClaim a n).alarms = s.alarms ∧
    (s.markClaim a n).report = s.report ∧ (s.markClaim a n).panel = s.panel ∧
    (s.markClaim a n).draws = s.draws ∧ (s.markClaim a n).pending = s.pending := by
  simp [State.markClaim]

@[simp] theorem State.claimHeard_keeps (l : List Byte) (a : BayAddress) :
    (s.claimHeard l a).now = s.now ∧ (s.claimHeard l a).startUp = s.startUp ∧
    (s.claimHeard l a).probes = s.probes ∧ (s.claimHeard l a).floats = s.floats ∧
    (s.claimHeard l a).supply = s.supply ∧ (s.claimHeard l a).weir = s.weir ∧
    (s.claimHeard l a).panel = s.panel ∧ (s.claimHeard l a).pending = s.pending := by
  unfold State.claimHeard
  (repeat' split) <;> simp

@[simp] theorem State.statusHeard_keeps (l : List Byte) (a : BayAddress) :
    (s.statusHeard l a).now = s.now ∧ (s.statusHeard l a).startUp = s.startUp ∧
    (s.statusHeard l a).probes = s.probes ∧ (s.statusHeard l a).floats = s.floats ∧
    (s.statusHeard l a).line = s.line ∧ (s.statusHeard l a).pump = s.pump ∧
    (s.statusHeard l a).supply = s.supply ∧ (s.statusHeard l a).screen = s.screen ∧
    (s.statusHeard l a).weir = s.weir ∧ (s.statusHeard l a).panel = s.panel ∧
    (s.statusHeard l a).pending = s.pending := by
  simp [State.statusHeard]

@[simp] theorem State.noticeHeard_keeps (l : List Byte) (a : BayAddress) :
    (s.noticeHeard l a).now = s.now ∧ (s.noticeHeard l a).startUp = s.startUp ∧
    (s.noticeHeard l a).probes = s.probes ∧ (s.noticeHeard l a).floats = s.floats ∧
    (s.noticeHeard l a).line = s.line ∧ (s.noticeHeard l a).pump = s.pump ∧
    (s.noticeHeard l a).supply = s.supply ∧ (s.noticeHeard l a).screen = s.screen ∧
    (s.noticeHeard l a).weir = s.weir ∧ (s.noticeHeard l a).panel = s.panel ∧
    (s.noticeHeard l a).pending = s.pending := by
  simp [State.noticeHeard]

/-! ### Town and clocks -/

@[simp] theorem State.timeJump_keeps :
    s.timeJump.now = s.now ∧ s.timeJump.startUp = s.startUp ∧ s.timeJump.probes = s.probes ∧
    s.timeJump.floats = s.floats ∧ s.timeJump.line = s.line ∧ s.timeJump.peers = s.peers ∧
    s.timeJump.staging = s.staging ∧ s.timeJump.pump = s.pump ∧ s.timeJump.supply = s.supply ∧
    s.timeJump.screen = s.screen ∧ s.timeJump.alarms = s.alarms ∧ s.timeJump.panel = s.panel ∧
    s.timeJump.draws = s.draws ∧ s.timeJump.pending = s.pending := by
  simp [State.timeJump]

@[simp] theorem State.setTime_keeps (t : HouseTime) :
    (s.setTime t).now = s.now ∧ (s.setTime t).startUp = s.startUp ∧ (s.setTime t).probes = s.probes ∧
    (s.setTime t).floats = s.floats ∧ (s.setTime t).line = s.line ∧ (s.setTime t).peers = s.peers ∧
    (s.setTime t).staging = s.staging ∧ (s.setTime t).pump = s.pump ∧ (s.setTime t).supply = s.supply ∧
    (s.setTime t).screen = s.screen ∧ (s.setTime t).weir = s.weir ∧ (s.setTime t).alarms = s.alarms ∧
    (s.setTime t).panel = s.panel ∧ (s.setTime t).draws = s.draws ∧ (s.setTime t).pending = s.pending := by
  simp [State.setTime]

@[simp] theorem State.takeTime_keeps (t : HouseTime) :
    (s.takeTime t).now = s.now ∧ (s.takeTime t).startUp = s.startUp ∧ (s.takeTime t).probes = s.probes ∧
    (s.takeTime t).floats = s.floats ∧ (s.takeTime t).peers = s.peers ∧ (s.takeTime t).staging = s.staging ∧
    (s.takeTime t).pump = s.pump ∧ (s.takeTime t).supply = s.supply ∧ (s.takeTime t).screen = s.screen ∧
    (s.takeTime t).alarms = s.alarms ∧ (s.takeTime t).panel = s.panel ∧ (s.takeTime t).pending = s.pending := by
  unfold State.takeTime
  (repeat' split) <;> simp

@[simp] theorem State.takeDrawdown_keeps (m n : Nat) :
    (s.takeDrawdown m n).now = s.now ∧ (s.takeDrawdown m n).startUp = s.startUp ∧
    (s.takeDrawdown m n).probes = s.probes ∧ (s.takeDrawdown m n).floats = s.floats ∧
    (s.takeDrawdown m n).line = s.line ∧ (s.takeDrawdown m n).peers = s.peers ∧
    (s.takeDrawdown m n).pump = s.pump ∧ (s.takeDrawdown m n).supply = s.supply ∧
    (s.takeDrawdown m n).screen = s.screen ∧ (s.takeDrawdown m n).weir = s.weir ∧
    (s.takeDrawdown m n).alarms = s.alarms ∧ (s.takeDrawdown m n).report = s.report ∧
    (s.takeDrawdown m n).panel = s.panel ∧ (s.takeDrawdown m n).draws = s.draws ∧
    (s.takeDrawdown m n).pending = s.pending := by
  unfold State.takeDrawdown
  (repeat' split) <;> simp

@[simp] theorem State.clockSecond_keeps :
    s.clockSecond.now = s.now ∧ s.clockSecond.startUp = s.startUp ∧ s.clockSecond.probes = s.probes ∧
    s.clockSecond.floats = s.floats ∧ s.clockSecond.line = s.line ∧ s.clockSecond.peers = s.peers ∧
    s.clockSecond.staging = s.staging ∧ s.clockSecond.supply = s.supply ∧ s.clockSecond.screen = s.screen ∧
    s.clockSecond.weir = s.weir ∧ s.clockSecond.alarms = s.alarms ∧ s.clockSecond.panel = s.panel ∧
    s.clockSecond.draws = s.draws ∧ s.clockSecond.pending = s.pending := by
  unfold State.clockSecond
  dsimp only
  (repeat' split) <;> simp

/-! ### Pump times, supply and selector -/

@[simp] theorem State.endFallback_keeps :
    s.endFallback.now = s.now ∧ s.endFallback.startUp = s.startUp ∧ s.endFallback.probes = s.probes ∧
    s.endFallback.floats = s.floats ∧ s.endFallback.supply = s.supply ∧ s.endFallback.weir = s.weir ∧
    s.endFallback.panel = s.panel ∧ s.endFallback.pending = s.pending := by
  unfold State.endFallback
  dsimp only
  (repeat' split) <;> simp

@[simp] theorem State.feedbackPresent_keeps :
    s.feedbackPresent.now = s.now ∧ s.feedbackPresent.startUp = s.startUp ∧
    s.feedbackPresent.probes = s.probes ∧ s.feedbackPresent.floats = s.floats ∧
    s.feedbackPresent.supply = s.supply ∧ s.feedbackPresent.weir = s.weir ∧ s.feedbackPresent.panel = s.panel ∧
    s.feedbackPresent.pending = s.pending := by
  unfold State.feedbackPresent
  (repeat' split) <;> simp

@[simp] theorem State.feedbackAbsent_keeps :
    s.feedbackAbsent.now = s.now ∧ s.feedbackAbsent.startUp = s.startUp ∧ s.feedbackAbsent.probes = s.probes ∧
    s.feedbackAbsent.floats = s.floats ∧ s.feedbackAbsent.supply = s.supply ∧ s.feedbackAbsent.weir = s.weir ∧
    s.feedbackAbsent.panel = s.panel ∧ s.feedbackAbsent.pending = s.pending := by
  unfold State.feedbackAbsent
  dsimp only
  (repeat' split) <;> simp

@[simp] theorem State.lockStray_keeps :
    s.lockStray.now = s.now ∧ s.lockStray.startUp = s.startUp ∧ s.lockStray.probes = s.probes ∧
    s.lockStray.floats = s.floats ∧ s.lockStray.supply = s.supply ∧ s.lockStray.weir = s.weir ∧
    s.lockStray.panel = s.panel ∧ s.lockStray.pending = s.pending := by
  unfold State.lockStray
  (repeat' split) <;> simp

@[simp] theorem State.strayFeedback_keeps :
    s.strayFeedback.now = s.now ∧ s.strayFeedback.startUp = s.startUp ∧ s.strayFeedback.probes = s.probes ∧
    s.strayFeedback.floats = s.floats ∧ s.strayFeedback.supply = s.supply ∧ s.strayFeedback.weir = s.weir ∧
    s.strayFeedback.panel = s.panel ∧ s.strayFeedback.pending = s.pending := by
  unfold State.strayFeedback
  dsimp only
  (repeat' split) <;> simp

@[simp] theorem State.supplyOpening_keeps :
    s.supplyOpening.now = s.now ∧ s.supplyOpening.startUp = s.startUp ∧ s.supplyOpening.probes = s.probes ∧
    s.supplyOpening.floats = s.floats ∧ s.supplyOpening.supply = s.supply ∧ s.supplyOpening.weir = s.weir ∧
    s.supplyOpening.panel = s.panel ∧ s.supplyOpening.pending = s.pending := by
  simp [State.supplyOpening]

@[simp] theorem State.pumpSupplyLost_keeps :
    s.pumpSupplyLost.now = s.now ∧ s.pumpSupplyLost.startUp = s.startUp ∧ s.pumpSupplyLost.probes = s.probes ∧
    s.pumpSupplyLost.floats = s.floats ∧ s.pumpSupplyLost.supply = s.supply ∧ s.pumpSupplyLost.weir = s.weir ∧
    s.pumpSupplyLost.panel = s.panel ∧ s.pumpSupplyLost.pending = s.pending := by
  unfold State.pumpSupplyLost
  (repeat' split) <;> simp

@[simp] theorem State.pumpLoss_keeps :
    s.pumpLoss.now = s.now ∧ s.pumpLoss.startUp = s.startUp ∧ s.pumpLoss.probes = s.probes ∧
    s.pumpLoss.floats = s.floats ∧ s.pumpLoss.weir = s.weir ∧ s.pumpLoss.panel = s.panel ∧
    s.pumpLoss.pending = s.pending := by
  simp [State.pumpLoss]

@[simp] theorem State.supplyLoss_keeps :
    s.supplyLoss.now = s.now ∧ s.supplyLoss.startUp = s.startUp ∧ s.supplyLoss.probes = s.probes ∧
    s.supplyLoss.floats = s.floats ∧ s.supplyLoss.weir = s.weir ∧ s.supplyLoss.panel = s.panel ∧
    s.supplyLoss.pending = s.pending := by
  simp [State.supplyLoss]

@[simp] theorem State.supplyBack_keeps :
    s.supplyBack.now = s.now ∧ s.supplyBack.startUp = s.startUp ∧ s.supplyBack.probes = s.probes ∧
    s.supplyBack.floats = s.floats ∧ s.supplyBack.weir = s.weir ∧ s.supplyBack.panel = s.panel ∧
    s.supplyBack.pending = s.pending := by
  simp [State.supplyBack]

@[simp] theorem State.leaveClaim_keeps :
    s.leaveClaim.now = s.now ∧ s.leaveClaim.startUp = s.startUp ∧ s.leaveClaim.probes = s.probes ∧
    s.leaveClaim.floats = s.floats ∧ s.leaveClaim.peers = s.peers ∧ s.leaveClaim.staging = s.staging ∧
    s.leaveClaim.pump = s.pump ∧ s.leaveClaim.supply = s.supply ∧ s.leaveClaim.screen = s.screen ∧
    s.leaveClaim.weir = s.weir ∧ s.leaveClaim.alarms = s.alarms ∧ s.leaveClaim.report = s.report ∧
    s.leaveClaim.panel = s.panel ∧ s.leaveClaim.pending = s.pending := by
  unfold State.leaveClaim
  (repeat' split) <;> simp

@[simp] theorem State.moveToOff_keeps :
    s.moveToOff.now = s.now ∧ s.moveToOff.startUp = s.startUp ∧ s.moveToOff.probes = s.probes ∧
    s.moveToOff.floats = s.floats ∧ s.moveToOff.supply = s.supply ∧ s.moveToOff.weir = s.weir ∧
    s.moveToOff.panel = s.panel ∧ s.moveToOff.pending = s.pending := by
  unfold State.moveToOff
  (repeat' split) <;> simp

@[simp] theorem State.moveToAuto_keeps :
    s.moveToAuto.now = s.now ∧ s.moveToAuto.startUp = s.startUp ∧ s.moveToAuto.probes = s.probes ∧
    s.moveToAuto.floats = s.floats ∧ s.moveToAuto.supply = s.supply ∧ s.moveToAuto.weir = s.weir ∧
    s.moveToAuto.panel = s.panel ∧ s.moveToAuto.pending = s.pending := by
  unfold State.moveToAuto
  (repeat' split) <;> simp

@[simp] theorem State.moveToHand_keeps :
    s.moveToHand.now = s.now ∧ s.moveToHand.startUp = s.startUp ∧ s.moveToHand.probes = s.probes ∧
    s.moveToHand.floats = s.floats ∧ s.moveToHand.supply = s.supply ∧ s.moveToHand.weir = s.weir ∧
    s.moveToHand.panel = s.panel ∧ s.moveToHand.pending = s.pending := by
  unfold State.moveToHand
  (repeat' split) <;> simp

@[simp] theorem State.moveSelector_keeps (x : PumpPosition) :
    (s.moveSelector x).now = s.now ∧ (s.moveSelector x).startUp = s.startUp ∧
    (s.moveSelector x).probes = s.probes ∧ (s.moveSelector x).floats = s.floats ∧
    (s.moveSelector x).supply = s.supply ∧ (s.moveSelector x).weir = s.weir ∧
    (s.moveSelector x).panel = s.panel ∧ (s.moveSelector x).pending = s.pending := by
  unfold State.moveSelector
  (repeat' split) <;> simp

/-! ### Rake -/

@[simp] theorem State.moveScreen_keeps (x : ScreenPosition) :
    (s.moveScreen x).now = s.now ∧ (s.moveScreen x).startUp = s.startUp ∧ (s.moveScreen x).probes = s.probes ∧
    (s.moveScreen x).floats = s.floats ∧ (s.moveScreen x).line = s.line ∧ (s.moveScreen x).peers = s.peers ∧
    (s.moveScreen x).staging = s.staging ∧ (s.moveScreen x).pump = s.pump ∧
    (s.moveScreen x).supply = s.supply ∧ (s.moveScreen x).weir = s.weir ∧ (s.moveScreen x).alarms = s.alarms ∧
    (s.moveScreen x).report = s.report ∧ (s.moveScreen x).panel = s.panel ∧ (s.moveScreen x).draws = s.draws ∧
    (s.moveScreen x).pending = s.pending := by
  unfold State.moveScreen
  (repeat' split) <;> simp

@[simp] theorem State.camMoved_keeps (b : Bool) :
    (s.camMoved b).now = s.now ∧ (s.camMoved b).startUp = s.startUp ∧ (s.camMoved b).probes = s.probes ∧
    (s.camMoved b).floats = s.floats ∧ (s.camMoved b).line = s.line ∧ (s.camMoved b).peers = s.peers ∧
    (s.camMoved b).staging = s.staging ∧ (s.camMoved b).pump = s.pump ∧ (s.camMoved b).supply = s.supply ∧
    (s.camMoved b).weir = s.weir ∧ (s.camMoved b).alarms = s.alarms ∧ (s.camMoved b).panel = s.panel ∧
    (s.camMoved b).draws = s.draws ∧ (s.camMoved b).pending = s.pending := by
  unfold State.camMoved
  (repeat' split) <;> simp

@[simp] theorem State.overcurrentTaken_keeps :
    s.overcurrentTaken.now = s.now ∧ s.overcurrentTaken.startUp = s.startUp ∧
    s.overcurrentTaken.probes = s.probes ∧ s.overcurrentTaken.floats = s.floats ∧
    s.overcurrentTaken.line = s.line ∧ s.overcurrentTaken.peers = s.peers ∧
    s.overcurrentTaken.staging = s.staging ∧ s.overcurrentTaken.pump = s.pump ∧
    s.overcurrentTaken.supply = s.supply ∧ s.overcurrentTaken.weir = s.weir ∧
    s.overcurrentTaken.panel = s.panel ∧ s.overcurrentTaken.pending = s.pending := by
  unfold State.overcurrentTaken
  (repeat' split) <;> simp

@[simp] theorem State.setBlinded_keeps (b : Bool) :
    (s.setBlinded b).now = s.now ∧ (s.setBlinded b).startUp = s.startUp ∧ (s.setBlinded b).probes = s.probes ∧
    (s.setBlinded b).floats = s.floats ∧ (s.setBlinded b).supply = s.supply ∧ (s.setBlinded b).weir = s.weir ∧
    (s.setBlinded b).panel = s.panel ∧ (s.setBlinded b).pending = s.pending := by
  simp [State.setBlinded]

/-! ### Start-up and latch reset -/

@[simp] theorem State.beginMemory_keeps (a : Option BayAddress) :
    (s.beginMemory a).now = s.now ∧ (s.beginMemory a).probes = s.probes ∧ (s.beginMemory a).floats = s.floats ∧
    (s.beginMemory a).line = s.line ∧ (s.beginMemory a).peers = s.peers ∧
    (s.beginMemory a).staging = s.staging ∧ (s.beginMemory a).pump = s.pump ∧
    (s.beginMemory a).supply = s.supply ∧ (s.beginMemory a).screen = s.screen ∧
    (s.beginMemory a).weir = s.weir ∧ (s.beginMemory a).alarms = s.alarms ∧
    (s.beginMemory a).report = s.report ∧ (s.beginMemory a).panel = s.panel ∧
    (s.beginMemory a).draws = s.draws ∧ (s.beginMemory a).pending = s.pending := by
  simp [State.beginMemory]

@[simp] theorem State.beginIdentify_keeps :
    s.beginIdentify.now = s.now ∧ s.beginIdentify.floats = s.floats ∧ s.beginIdentify.supply = s.supply ∧
    s.beginIdentify.panel = s.panel ∧ s.beginIdentify.pending = s.pending := by
  unfold State.beginIdentify
  dsimp only
  (repeat' split) <;> simp

@[simp] theorem State.takeSettings_keeps (m : MemoryResult) (k : Checksum) (v : SectionFlags) (c : Settings) :
    (s.takeSettings m k v c).now = s.now ∧ (s.takeSettings m k v c).floats = s.floats ∧
    (s.takeSettings m k v c).supply = s.supply ∧ (s.takeSettings m k v c).panel = s.panel ∧
    (s.takeSettings m k v c).pending = s.pending := by
  simp [State.takeSettings]

@[simp] theorem State.startClocks_keeps :
    s.startClocks.now = s.now ∧ s.startClocks.probes = s.probes ∧ s.startClocks.floats = s.floats ∧
    s.startClocks.line = s.line ∧ s.startClocks.peers = s.peers ∧ s.startClocks.staging = s.staging ∧
    s.startClocks.supply = s.supply ∧ s.startClocks.screen = s.screen ∧ s.startClocks.weir = s.weir ∧
    s.startClocks.alarms = s.alarms ∧ s.startClocks.panel = s.panel ∧ s.startClocks.draws = s.draws ∧
    s.startClocks.pending = s.pending := by
  simp [State.startClocks]

@[simp] theorem State.freshenOwn_keeps :
    s.freshenOwn.now = s.now ∧ s.freshenOwn.startUp = s.startUp ∧ s.freshenOwn.probes = s.probes ∧
    s.freshenOwn.floats = s.floats ∧ s.freshenOwn.line = s.line ∧ s.freshenOwn.staging = s.staging ∧
    s.freshenOwn.pump = s.pump ∧ s.freshenOwn.supply = s.supply ∧ s.freshenOwn.screen = s.screen ∧
    s.freshenOwn.weir = s.weir ∧ s.freshenOwn.alarms = s.alarms ∧ s.freshenOwn.report = s.report ∧
    s.freshenOwn.panel = s.panel ∧ s.freshenOwn.draws = s.draws ∧ s.freshenOwn.pending = s.pending := by
  unfold State.freshenOwn
  (repeat' split) <;> simp

@[simp] theorem State.takeHandFromOut_keeps :
    s.takeHandFromOut.now = s.now ∧ s.takeHandFromOut.startUp = s.startUp ∧
    s.takeHandFromOut.probes = s.probes ∧ s.takeHandFromOut.floats = s.floats ∧
    s.takeHandFromOut.supply = s.supply ∧ s.takeHandFromOut.weir = s.weir ∧ s.takeHandFromOut.panel = s.panel ∧
    s.takeHandFromOut.pending = s.pending := by
  unfold State.takeHandFromOut
  (repeat' split) <;> simp

@[simp] theorem State.enableTransmitter_keeps :
    s.enableTransmitter.now = s.now ∧ s.enableTransmitter.startUp = s.startUp ∧
    s.enableTransmitter.probes = s.probes ∧ s.enableTransmitter.floats = s.floats ∧
    s.enableTransmitter.peers = s.peers ∧ s.enableTransmitter.staging = s.staging ∧
    s.enableTransmitter.pump = s.pump ∧ s.enableTransmitter.supply = s.supply ∧
    s.enableTransmitter.screen = s.screen ∧ s.enableTransmitter.weir = s.weir ∧
    s.enableTransmitter.alarms = s.alarms ∧ s.enableTransmitter.report = s.report ∧
    s.enableTransmitter.panel = s.panel ∧ s.enableTransmitter.draws = s.draws ∧
    s.enableTransmitter.pending = s.pending := by
  simp [State.enableTransmitter]

@[simp] theorem State.firstPump_keeps :
    s.firstPump.now = s.now ∧ s.firstPump.startUp = s.startUp ∧ s.firstPump.probes = s.probes ∧
    s.firstPump.floats = s.floats ∧ s.firstPump.supply = s.supply ∧ s.firstPump.weir = s.weir ∧
    s.firstPump.panel = s.panel ∧ s.firstPump.pending = s.pending := by
  simp [State.firstPump]

@[simp] theorem State.weirOn_keeps :
    s.weirOn.now = s.now ∧ s.weirOn.startUp = s.startUp ∧ s.weirOn.probes = s.probes ∧
    s.weirOn.floats = s.floats ∧ s.weirOn.line = s.line ∧ s.weirOn.peers = s.peers ∧
    s.weirOn.staging = s.staging ∧ s.weirOn.pump = s.pump ∧ s.weirOn.supply = s.supply ∧
    s.weirOn.screen = s.screen ∧ s.weirOn.alarms = s.alarms ∧ s.weirOn.report = s.report ∧
    s.weirOn.panel = s.panel ∧ s.weirOn.draws = s.draws ∧ s.weirOn.pending = s.pending := by
  simp [State.weirOn]

@[simp] theorem State.flagIsolation_keeps :
    s.flagIsolation.now = s.now ∧ s.flagIsolation.startUp = s.startUp ∧ s.flagIsolation.probes = s.probes ∧
    s.flagIsolation.floats = s.floats ∧ s.flagIsolation.staging = s.staging ∧ s.flagIsolation.pump = s.pump ∧
    s.flagIsolation.supply = s.supply ∧ s.flagIsolation.screen = s.screen ∧ s.flagIsolation.weir = s.weir ∧
    s.flagIsolation.alarms = s.alarms ∧ s.flagIsolation.report = s.report ∧ s.flagIsolation.panel = s.panel ∧
    s.flagIsolation.pending = s.pending := by
  unfold State.flagIsolation
  (repeat' split) <;> simp

@[simp] theorem State.firstSupply_keeps :
    s.firstSupply.now = s.now ∧ s.firstSupply.startUp = s.startUp ∧ s.firstSupply.probes = s.probes ∧
    s.firstSupply.floats = s.floats ∧ s.firstSupply.weir = s.weir ∧ s.firstSupply.panel = s.panel ∧
    s.firstSupply.pending = s.pending := by
  unfold State.firstSupply
  (repeat' split) <;> simp

@[simp] theorem State.endStartUp_keeps :
    s.endStartUp.now = s.now ∧ s.endStartUp.probes = s.probes ∧ s.endStartUp.floats = s.floats ∧
    s.endStartUp.panel = s.panel ∧ s.endStartUp.pending = s.pending := by
  simp [State.endStartUp]

@[simp] theorem State.lineLatchReset_keeps :
    s.lineLatchReset.now = s.now ∧ s.lineLatchReset.startUp = s.startUp ∧ s.lineLatchReset.probes = s.probes ∧
    s.lineLatchReset.floats = s.floats ∧ s.lineLatchReset.peers = s.peers ∧
    s.lineLatchReset.staging = s.staging ∧ s.lineLatchReset.pump = s.pump ∧
    s.lineLatchReset.supply = s.supply ∧ s.lineLatchReset.screen = s.screen ∧ s.lineLatchReset.weir = s.weir ∧
    s.lineLatchReset.alarms = s.alarms ∧ s.lineLatchReset.report = s.report ∧
    s.lineLatchReset.panel = s.panel ∧ s.lineLatchReset.draws = s.draws ∧ s.lineLatchReset.pending = s.pending := by
  simp [State.lineLatchReset]

@[simp] theorem State.pumpLatchReset_keeps :
    s.pumpLatchReset.now = s.now ∧ s.pumpLatchReset.startUp = s.startUp ∧ s.pumpLatchReset.probes = s.probes ∧
    s.pumpLatchReset.floats = s.floats ∧ s.pumpLatchReset.supply = s.supply ∧ s.pumpLatchReset.weir = s.weir ∧
    s.pumpLatchReset.panel = s.panel ∧ s.pumpLatchReset.pending = s.pending := by
  unfold State.pumpLatchReset
  dsimp only
  (repeat' split) <;> simp

@[simp] theorem State.pumpAndScreenReset_keeps :
    s.pumpAndScreenReset.now = s.now ∧ s.pumpAndScreenReset.startUp = s.startUp ∧
    s.pumpAndScreenReset.probes = s.probes ∧ s.pumpAndScreenReset.floats = s.floats ∧
    s.pumpAndScreenReset.supply = s.supply ∧ s.pumpAndScreenReset.weir = s.weir ∧
    s.pumpAndScreenReset.panel = s.panel ∧ s.pumpAndScreenReset.pending = s.pending := by
  unfold State.pumpAndScreenReset eitherOrder
  (repeat' split) <;> simp

@[simp] theorem State.resetLatches_keeps :
    s.resetLatches.now = s.now ∧ s.resetLatches.startUp = s.startUp ∧ s.resetLatches.probes = s.probes ∧
    s.resetLatches.floats = s.floats ∧ s.resetLatches.weir = s.weir ∧ s.resetLatches.panel = s.panel ∧
    s.resetLatches.pending = s.pending := by
  simp [State.resetLatches]

@[simp] theorem State.latchReset_keeps :
    s.latchReset.now = s.now ∧ s.latchReset.startUp = s.startUp ∧ s.latchReset.probes = s.probes ∧
    s.latchReset.floats = s.floats ∧ s.latchReset.weir = s.weir ∧ s.latchReset.panel = s.panel ∧
    s.latchReset.pending = s.pending := by
  unfold State.latchReset
  try unfold eitherOrder
  (repeat' split) <;> simp

end Sys2Proof.Machine
end

