-- ==== Sys2Proof/Laws/Tables.lean ====
section
/-! SUPPORT. The tables of twelve, and the fields of a state after time has passed. -/

namespace Sys2Proof

namespace Twelve

variable {α : Type}

@[simp] theorem get_all (x : α) (i : Fin 12) : (Twelve.all x).get i = x := by fin_cases i <;> rfl

@[simp] theorem get_form (f : Fin 12 → α) (i : Fin 12) : (Twelve.form f).get i = f i := by fin_cases i <;> rfl

@[simp] theorem get_set_self (t : Twelve α) (i : Fin 12) (x : α) : (t.set i x).get i = x := by fin_cases i <;> rfl

theorem get_set_ne (t : Twelve α) {i j : Fin 12} (x : α) (h : i ≠ j) : (t.set i x).get j = t.get j := by
  fin_cases i <;> fin_cases j <;> first | rfl | exact absurd rfl h

theorem get_set (t : Twelve α) (i j : Fin 12) (x : α) : (t.set i x).get j = if i = j then x else t.get j := by
  split
  · next h => subst h; simp
  · next h => exact t.get_set_ne x h

end Twelve

theorem AlarmKind.index_injective {a b : AlarmKind} (h : a.index = b.index) : a = b := by
  cases a <;> cases b <;> first | rfl | exact absurd h (by decide)

namespace Machine

variable (s : State) (dt m : Nat)

@[simp] theorem State.alarm_setAlarm_self (k : AlarmKind) (r : AlarmRecord) : (s.setAlarm k r).alarm k = r := by
  simp [State.alarm, State.setAlarm]

theorem State.alarm_setAlarm_ne {k j : AlarmKind} (r : AlarmRecord) (h : k ≠ j) :
    (s.setAlarm k r).alarm j = s.alarm j := by
  have : k.index ≠ j.index := fun e => h (AlarmKind.index_injective e)
  simp [State.alarm, State.setAlarm, Twelve.get_set_ne, this]

theorem State.alarm_setAlarm (k j : AlarmKind) (r : AlarmRecord) :
    (s.setAlarm k r).alarm j = if k = j then r else s.alarm j := by
  split
  · next h => subst h; simp
  · next h => exact s.alarm_setAlarm_ne r h

/-- The start-up state after time has passed: the run clock alone has moved. -/
@[simp] theorem State.elapse_startUp_step : (s.elapse dt).startUp.step = s.startUp.step := rfl
@[simp] theorem State.elapse_startUp_stepBegan : (s.elapse dt).startUp.stepBegan = s.startUp.stepBegan := rfl
@[simp] theorem State.elapse_startUp_address : (s.elapse dt).startUp.address = s.startUp.address := rfl
@[simp] theorem State.elapse_startUp_memory : (s.elapse dt).startUp.memory = s.startUp.memory := rfl
@[simp] theorem State.elapse_startUp_checksum : (s.elapse dt).startUp.checksum = s.startUp.checksum := rfl
@[simp] theorem State.elapse_startUp_valid : (s.elapse dt).startUp.valid = s.startUp.valid := rfl
@[simp] theorem State.elapse_startUp_settings : (s.elapse dt).startUp.settings = s.startUp.settings := rfl
@[simp] theorem State.elapse_startUp_digest : (s.elapse dt).startUp.digest = s.startUp.digest := rfl
@[simp] theorem State.elapse_startUp_resetButton : (s.elapse dt).startUp.resetButton = s.startUp.resetButton := rfl
@[simp] theorem State.elapse_startUp_attempts : (s.elapse dt).startUp.attempts = s.startUp.attempts := rfl
@[simp] theorem State.elapse_startUp_attemptDue : (s.elapse dt).startUp.attemptDue = s.startUp.attemptDue := rfl
@[simp] theorem State.elapse_startUp_attemptOpen : (s.elapse dt).startUp.attemptOpen = s.startUp.attemptOpen := rfl
@[simp] theorem State.elapse_startUp_endedAt : (s.elapse dt).startUp.endedAt = s.startUp.endedAt := rfl
@[simp] theorem State.elapse_settings : (s.elapse dt).settings = s.settings := rfl
@[simp] theorem State.elapse_general : (s.elapse dt).general = s.general := rfl
@[simp] theorem State.elapse_screen_state : (s.elapse dt).screen.state = s.screen.state := rfl
@[simp] theorem State.elapse_screen_rakeAgain : (s.elapse dt).screen.rakeAgain = s.screen.rakeAgain := rfl
@[simp] theorem State.elapse_screen_retries : (s.elapse dt).screen.retries = s.screen.retries := rfl
@[simp] theorem State.elapse_screen_camStage : (s.elapse dt).screen.camStage = s.screen.camStage := rfl
@[simp] theorem State.elapse_screen_stateTimer : (s.elapse dt).screen.stateTimer = s.screen.stateTimer := rfl
@[simp] theorem State.elapse_screen_energiseAt : (s.elapse dt).screen.energiseAt = s.screen.energiseAt := rfl
@[simp] theorem State.elapse_screen_reverseOn : (s.elapse dt).screen.reverseOn = s.screen.reverseOn := rfl
@[simp] theorem State.elapse_screen_overcurrentSince :
    (s.elapse dt).screen.overcurrentSince = s.screen.overcurrentSince := rfl
@[simp] theorem State.elapse_screen_jamCause : (s.elapse dt).screen.jamCause = s.screen.jamCause := rfl
@[simp] theorem State.elapse_screen_differentialSince :
    (s.elapse dt).screen.differentialSince = s.screen.differentialSince := rfl
@[simp] theorem State.elapse_screen_intervalAt : (s.elapse dt).screen.intervalAt = s.screen.intervalAt := rfl
@[simp] theorem State.elapse_screen_blinded : (s.elapse dt).screen.blinded = s.screen.blinded := rfl
@[simp] theorem State.elapse_screen_blindSetSince : (s.elapse dt).screen.blindSetSince = s.screen.blindSetSince := rfl
@[simp] theorem State.elapse_screen_blindClearSince :
    (s.elapse dt).screen.blindClearSince = s.screen.blindClearSince := rfl
@[simp] theorem State.elapse_screen_selector : (s.elapse dt).screen.selector = s.screen.selector := rfl
@[simp] theorem State.elapse_screen_camClosed : (s.elapse dt).screen.camClosed = s.screen.camClosed := rfl
@[simp] theorem State.elapse_screen_overcurrentInput :
    (s.elapse dt).screen.overcurrentInput = s.screen.overcurrentInput := rfl

@[simp] theorem State.elapse_report_house : (s.elapse dt).report.house = s.report.house := by
  unfold State.elapse; dsimp only; split <;> rfl
@[simp] theorem State.elapse_report_nextSecond : (s.elapse dt).report.nextSecond = s.report.nextSecond := by
  unfold State.elapse; dsimp only; split <;> rfl
@[simp] theorem State.elapse_report_lastTime : (s.elapse dt).report.lastTime = s.report.lastTime := by
  unfold State.elapse; dsimp only; split <;> rfl
@[simp] theorem State.elapse_report_townPresent : (s.elapse dt).report.townPresent = s.report.townPresent := by
  unfold State.elapse; dsimp only; split <;> rfl
@[simp] theorem State.elapse_report_interval : (s.elapse dt).report.interval = s.report.interval := by
  unfold State.elapse; dsimp only; split <;> rfl
@[simp] theorem State.elapse_report_queue : (s.elapse dt).report.queue = s.report.queue := by
  unfold State.elapse; dsimp only; split <;> rfl
@[simp] theorem State.elapse_report_itemGone : (s.elapse dt).report.itemGone = s.report.itemGone := by
  unfold State.elapse; dsimp only; split <;> rfl

/-- The moment reached is not before the one aimed at. -/
theorem State.reach_now : (s.reach dt m).now = s.now + max dt (m - s.now) := rfl

end Machine

end Sys2Proof
end

