-- ==== Sys2Proof/Laws/Fields.lean ====
section
/-! SUPPORT. What each shared operation leaves alone inside the blocks that it does change: the pump's feedback, guard,
counts and credit ring, the drawdown and the marks, the transmitter and its latches, the clocks, and the screen. -/

namespace Sys2Proof.Machine

variable (s : State)

@[simp] theorem State.place_fields (i : SlotId) (f : Frame) :
    (s.place i f).line.txEnabled = s.line.txEnabled ∧ (s.place i f).line.txHeld = s.line.txHeld ∧
    (s.place i f).line.notFollowing = s.line.notFollowing ∧
    (s.place i f).line.addressConflict = s.line.addressConflict ∧
    (s.place i f).line.lineHeld = s.line.lineHeld ∧ (s.place i f).line.conflictAborts = s.line.conflictAborts := by
  unfold State.place
  dsimp only
  (repeat' split) <;> cases i <;> simp [LineUnit.setSlot]

@[simp] theorem State.leaveField_fields :
    s.leaveField.line.txEnabled = s.line.txEnabled ∧ s.leaveField.line.txHeld = s.line.txHeld ∧
    s.leaveField.line.notFollowing = s.line.notFollowing ∧
    s.leaveField.line.addressConflict = s.line.addressConflict ∧ s.leaveField.line.lineHeld = s.line.lineHeld ∧
    s.leaveField.line.conflictAborts = s.line.conflictAborts := by
  unfold State.leaveField
  (repeat' split) <;> simp

@[simp] theorem State.withdraw_fields (i : SlotId) :
    (s.withdraw i).line.txEnabled = s.line.txEnabled ∧ (s.withdraw i).line.txHeld = s.line.txHeld ∧
    (s.withdraw i).line.notFollowing = s.line.notFollowing ∧
    (s.withdraw i).line.addressConflict = s.line.addressConflict ∧
    (s.withdraw i).line.lineHeld = s.line.lineHeld ∧ (s.withdraw i).line.conflictAborts = s.line.conflictAborts := by
  unfold State.withdraw
  (repeat' split) <;> cases i <;> simp [LineUnit.setSlot]

@[simp] theorem State.withdrawClaim_fields :
    s.withdrawClaim.line.txEnabled = s.line.txEnabled ∧ s.withdrawClaim.line.txHeld = s.line.txHeld ∧
    s.withdrawClaim.line.notFollowing = s.line.notFollowing ∧
    s.withdrawClaim.line.addressConflict = s.line.addressConflict ∧
    s.withdrawClaim.line.lineHeld = s.line.lineHeld ∧ s.withdrawClaim.line.conflictAborts = s.line.conflictAborts := by
  unfold State.withdrawClaim
  (repeat' split) <;> simp

@[simp] theorem State.offer_fields :
    s.offer.line.txEnabled = s.line.txEnabled ∧ s.offer.line.txHeld = s.line.txHeld ∧
    s.offer.line.notFollowing = s.line.notFollowing ∧ s.offer.line.addressConflict = s.line.addressConflict ∧
    s.offer.line.lineHeld = s.line.lineHeld ∧ s.offer.line.conflictAborts = s.line.conflictAborts := by
  unfold State.offer
  (repeat' split) <;> simp

@[simp] theorem State.dropAttempt_fields :
    s.dropAttempt.line.txEnabled = s.line.txEnabled ∧ s.dropAttempt.line.txHeld = s.line.txHeld ∧
    s.dropAttempt.line.notFollowing = s.line.notFollowing ∧
    s.dropAttempt.line.addressConflict = s.line.addressConflict ∧
    s.dropAttempt.line.lineHeld = s.line.lineHeld ∧ s.dropAttempt.line.conflictAborts = s.line.conflictAborts := by
  unfold State.dropAttempt
  split
  · simp
  · next a _ => cases h : a.slot <;> simp [LineUnit.setSlot, h]

@[simp] theorem State.completeAttempt_fields (i : SlotId) :
    (s.completeAttempt i).line.txEnabled = s.line.txEnabled ∧
    (s.completeAttempt i).line.txHeld = s.line.txHeld ∧
    (s.completeAttempt i).line.notFollowing = s.line.notFollowing ∧
    (s.completeAttempt i).line.addressConflict = s.line.addressConflict ∧
    (s.completeAttempt i).line.lineHeld = s.line.lineHeld := by
  unfold State.completeAttempt
  cases i <;> simp [LineUnit.setSlot]

@[simp] theorem State.turnAbnormal_fields (k : AlarmKind) (n : Snapshot) :
    (s.turnAbnormal k n).report.house = s.report.house ∧
    (s.turnAbnormal k n).report.nextSecond = s.report.nextSecond ∧
    (s.turnAbnormal k n).report.lastTime = s.report.lastTime ∧
    (s.turnAbnormal k n).report.townPresent = s.report.townPresent := by
  unfold State.turnAbnormal
  dsimp only
  (repeat' split) <;> simp

@[simp] theorem State.turnAbnormalSince_fields (l : List Snapshot) (k : AlarmKind) :
    (s.turnAbnormalSince l k).report.house = s.report.house ∧
    (s.turnAbnormalSince l k).report.nextSecond = s.report.nextSecond ∧
    (s.turnAbnormalSince l k).report.lastTime = s.report.lastTime ∧
    (s.turnAbnormalSince l k).report.townPresent = s.report.townPresent := by
  unfold State.turnAbnormalSince
  dsimp only
  (repeat' split) <;> simp

@[simp] theorem State.handOver_fields (l : List Snapshot) (k : AlarmKind) :
    (s.handOver l k).report.house = s.report.house ∧ (s.handOver l k).report.nextSecond = s.report.nextSecond ∧
    (s.handOver l k).report.lastTime = s.report.lastTime ∧
    (s.handOver l k).report.townPresent = s.report.townPresent := by
  unfold State.handOver
  (repeat' split) <;> simp

@[simp] theorem State.alarmEvent_fields (l : List Snapshot) (k : AlarmKind) :
    (s.alarmEvent l k).report.house = s.report.house ∧
    (s.alarmEvent l k).report.nextSecond = s.report.nextSecond ∧
    (s.alarmEvent l k).report.lastTime = s.report.lastTime ∧
    (s.alarmEvent l k).report.townPresent = s.report.townPresent := by
  simp [State.alarmEvent]

@[simp] theorem State.count_fields (i : CountId) (n : Nat) :
    (s.count i n).report.house = s.report.house ∧ (s.count i n).report.nextSecond = s.report.nextSecond ∧
    (s.count i n).report.lastTime = s.report.lastTime ∧ (s.count i n).report.townPresent = s.report.townPresent := by
  unfold State.count
  simp only [State.onReport_report]
  split <;> simp

@[simp] theorem State.beginInterval_fields :
    s.beginInterval.report.house = s.report.house ∧ s.beginInterval.report.nextSecond = s.report.nextSecond ∧
    s.beginInterval.report.lastTime = s.report.lastTime ∧
    s.beginInterval.report.townPresent = s.report.townPresent := by
  simp [State.beginInterval]

@[simp] theorem State.emptyReport_fields :
    s.emptyReport.line.txEnabled = s.line.txEnabled ∧ s.emptyReport.line.txHeld = s.line.txHeld ∧
    s.emptyReport.line.notFollowing = s.line.notFollowing ∧
    s.emptyReport.line.addressConflict = s.line.addressConflict ∧
    s.emptyReport.line.lineHeld = s.line.lineHeld ∧ s.emptyReport.line.conflictAborts = s.line.conflictAborts ∧
    s.emptyReport.report.house = s.report.house ∧ s.emptyReport.report.nextSecond = s.report.nextSecond ∧
    s.emptyReport.report.lastTime = s.report.lastTime ∧ s.emptyReport.report.townPresent = s.report.townPresent := by
  simp [State.emptyReport]

@[simp] theorem State.joinQueue_fields (r : IntervalRecord) :
    (s.joinQueue r).line.txEnabled = s.line.txEnabled ∧ (s.joinQueue r).line.txHeld = s.line.txHeld ∧
    (s.joinQueue r).line.notFollowing = s.line.notFollowing ∧
    (s.joinQueue r).line.addressConflict = s.line.addressConflict ∧
    (s.joinQueue r).line.lineHeld = s.line.lineHeld ∧
    (s.joinQueue r).line.conflictAborts = s.line.conflictAborts ∧
    (s.joinQueue r).report.house = s.report.house ∧ (s.joinQueue r).report.nextSecond = s.report.nextSecond ∧
    (s.joinQueue r).report.lastTime = s.report.lastTime ∧
    (s.joinQueue r).report.townPresent = s.report.townPresent := by
  unfold State.joinQueue
  dsimp only
  (repeat' split) <;> simp

@[simp] theorem State.closeInProgress_fields :
    s.closeInProgress.line.txEnabled = s.line.txEnabled ∧ s.closeInProgress.line.txHeld = s.line.txHeld ∧
    s.closeInProgress.line.notFollowing = s.line.notFollowing ∧
    s.closeInProgress.line.addressConflict = s.line.addressConflict ∧
    s.closeInProgress.line.lineHeld = s.line.lineHeld ∧
    s.closeInProgress.line.conflictAborts = s.line.conflictAborts ∧
    s.closeInProgress.report.house = s.report.house ∧
    s.closeInProgress.report.nextSecond = s.report.nextSecond ∧
    s.closeInProgress.report.lastTime = s.report.lastTime ∧
    s.closeInProgress.report.townPresent = s.report.townPresent := by
  unfold State.closeInProgress
  (repeat' split) <;> simp

@[simp] theorem State.fillReport_fields :
    s.fillReport.line.txEnabled = s.line.txEnabled ∧ s.fillReport.line.txHeld = s.line.txHeld ∧
    s.fillReport.line.notFollowing = s.line.notFollowing ∧
    s.fillReport.line.addressConflict = s.line.addressConflict ∧ s.fillReport.line.lineHeld = s.line.lineHeld ∧
    s.fillReport.line.conflictAborts = s.line.conflictAborts ∧ s.fillReport.report.house = s.report.house ∧
    s.fillReport.report.nextSecond = s.report.nextSecond ∧ s.fillReport.report.lastTime = s.report.lastTime ∧
    s.fillReport.report.townPresent = s.report.townPresent := by
  unfold State.fillReport
  (repeat' split) <;> simp

@[simp] theorem State.withdrawReport_fields :
    s.withdrawReport.line.txEnabled = s.line.txEnabled ∧ s.withdrawReport.line.txHeld = s.line.txHeld ∧
    s.withdrawReport.line.notFollowing = s.line.notFollowing ∧
    s.withdrawReport.line.addressConflict = s.line.addressConflict ∧
    s.withdrawReport.line.lineHeld = s.line.lineHeld ∧
    s.withdrawReport.line.conflictAborts = s.line.conflictAborts ∧
    s.withdrawReport.report.house = s.report.house ∧ s.withdrawReport.report.nextSecond = s.report.nextSecond ∧
    s.withdrawReport.report.lastTime = s.report.lastTime ∧
    s.withdrawReport.report.townPresent = s.report.townPresent := by
  unfold State.withdrawReport
  (repeat' split) <;> simp

@[simp] theorem State.select_fields :
    s.select.line.txEnabled = s.line.txEnabled ∧ s.select.line.txHeld = s.line.txHeld ∧
    s.select.line.notFollowing = s.line.notFollowing ∧ s.select.line.addressConflict = s.line.addressConflict ∧
    s.select.line.lineHeld = s.line.lineHeld ∧ s.select.line.conflictAborts = s.line.conflictAborts ∧
    s.select.report.house = s.report.house ∧ s.select.report.nextSecond = s.report.nextSecond ∧
    s.select.report.lastTime = s.report.lastTime ∧ s.select.report.townPresent = s.report.townPresent := by
  unfold State.select
  (repeat' split) <;> simp

@[simp] theorem State.reportBack_fields :
    s.reportBack.line.txEnabled = s.line.txEnabled ∧ s.reportBack.line.txHeld = s.line.txHeld ∧
    s.reportBack.line.notFollowing = s.line.notFollowing ∧
    s.reportBack.line.addressConflict = s.line.addressConflict ∧ s.reportBack.line.lineHeld = s.line.lineHeld ∧
    s.reportBack.line.conflictAborts = s.line.conflictAborts ∧ s.reportBack.report.house = s.report.house ∧
    s.reportBack.report.nextSecond = s.report.nextSecond ∧ s.reportBack.report.lastTime = s.report.lastTime ∧
    s.reportBack.report.townPresent = s.report.townPresent := by
  unfold State.reportBack
  (repeat' split) <;> simp

@[simp] theorem State.finish_fields :
    s.finish.line.txEnabled = s.line.txEnabled ∧ s.finish.line.txHeld = s.line.txHeld ∧
    s.finish.line.notFollowing = s.line.notFollowing ∧ s.finish.line.addressConflict = s.line.addressConflict ∧
    s.finish.line.lineHeld = s.line.lineHeld ∧ s.finish.line.conflictAborts = s.line.conflictAborts ∧
    s.finish.report.house = s.report.house ∧ s.finish.report.nextSecond = s.report.nextSecond ∧
    s.finish.report.lastTime = s.report.lastTime ∧ s.finish.report.townPresent = s.report.townPresent := by
  simp [State.finish]

@[simp] theorem State.placeStatus_fields :
    s.placeStatus.line.txEnabled = s.line.txEnabled ∧ s.placeStatus.line.txHeld = s.line.txHeld ∧
    s.placeStatus.line.notFollowing = s.line.notFollowing ∧
    s.placeStatus.line.addressConflict = s.line.addressConflict ∧
    s.placeStatus.line.lineHeld = s.line.lineHeld ∧ s.placeStatus.line.conflictAborts = s.line.conflictAborts := by
  unfold State.placeStatus
  (repeat' split) <;> simp

@[simp] theorem State.publish_fields :
    s.publish.line.txEnabled = s.line.txEnabled ∧ s.publish.line.txHeld = s.line.txHeld ∧
    s.publish.line.notFollowing = s.line.notFollowing ∧
    s.publish.line.addressConflict = s.line.addressConflict ∧ s.publish.line.lineHeld = s.line.lineHeld ∧
    s.publish.line.conflictAborts = s.line.conflictAborts := by
  unfold State.publish
  (repeat' split) <;> simp

@[simp] theorem State.setIsolatedFlag_fields (v : Bool) :
    (s.setIsolatedFlag v).line.txEnabled = s.line.txEnabled ∧
    (s.setIsolatedFlag v).line.txHeld = s.line.txHeld ∧
    (s.setIsolatedFlag v).line.notFollowing = s.line.notFollowing ∧
    (s.setIsolatedFlag v).line.addressConflict = s.line.addressConflict ∧
    (s.setIsolatedFlag v).line.lineHeld = s.line.lineHeld ∧
    (s.setIsolatedFlag v).line.conflictAborts = s.line.conflictAborts := by
  unfold State.setIsolatedFlag
  (repeat' split) <;> simp

@[simp] theorem State.formA12_fields :
    s.formA12.report.house = s.report.house ∧ s.formA12.report.nextSecond = s.report.nextSecond ∧
    s.formA12.report.lastTime = s.report.lastTime ∧ s.formA12.report.townPresent = s.report.townPresent := by
  simp [State.formA12]

@[simp] theorem State.refreshPeer_fields (a : BayAddress) :
    (s.refreshPeer a).report.house = s.report.house ∧
    (s.refreshPeer a).report.nextSecond = s.report.nextSecond ∧
    (s.refreshPeer a).report.lastTime = s.report.lastTime ∧
    (s.refreshPeer a).report.townPresent = s.report.townPresent := by
  unfold State.refreshPeer
  dsimp only
  (repeat' split) <;> simp

@[simp] theorem State.clearClaimMark_fields (a : BayAddress) :
    (s.clearClaimMark a).staging.drawdownOffset = s.staging.drawdownOffset ∧
    (s.clearClaimMark a).staging.drawdownExpiry = s.staging.drawdownExpiry ∧
    (s.clearClaimMark a).staging.noticeMarks = s.staging.noticeMarks := by
  simp [State.clearClaimMark]

@[simp] theorem State.joinLog_fields (r : SpillData) :
    (s.joinLog r).line.txEnabled = s.line.txEnabled ∧ (s.joinLog r).line.txHeld = s.line.txHeld ∧
    (s.joinLog r).line.notFollowing = s.line.notFollowing ∧
    (s.joinLog r).line.addressConflict = s.line.addressConflict ∧
    (s.joinLog r).line.lineHeld = s.line.lineHeld ∧ (s.joinLog r).line.conflictAborts = s.line.conflictAborts ∧
    (s.joinLog r).report.house = s.report.house ∧ (s.joinLog r).report.nextSecond = s.report.nextSecond ∧
    (s.joinLog r).report.lastTime = s.report.lastTime ∧ (s.joinLog r).report.townPresent = s.report.townPresent := by
  unfold State.joinLog
  dsimp only
  (repeat' split) <;> simp

@[simp] theorem State.setSpill_fields (x : Spill) :
    (s.setSpill x).line.txEnabled = s.line.txEnabled ∧ (s.setSpill x).line.txHeld = s.line.txHeld ∧
    (s.setSpill x).line.notFollowing = s.line.notFollowing ∧
    (s.setSpill x).line.addressConflict = s.line.addressConflict ∧
    (s.setSpill x).line.lineHeld = s.line.lineHeld ∧ (s.setSpill x).line.conflictAborts = s.line.conflictAborts := by
  simp [State.setSpill]

@[simp] theorem State.countSpill_fields (m n : Nat) :
    (s.countSpill m n).report.house = s.report.house ∧
    (s.countSpill m n).report.nextSecond = s.report.nextSecond ∧
    (s.countSpill m n).report.lastTime = s.report.lastTime ∧
    (s.countSpill m n).report.townPresent = s.report.townPresent := by
  simp [State.countSpill]

@[simp] theorem State.openSpill_fields (r : OnsetRecord) (n : Nat) :
    (s.openSpill r n).line.txEnabled = s.line.txEnabled ∧ (s.openSpill r n).line.txHeld = s.line.txHeld ∧
    (s.openSpill r n).line.notFollowing = s.line.notFollowing ∧
    (s.openSpill r n).line.addressConflict = s.line.addressConflict ∧
    (s.openSpill r n).line.lineHeld = s.line.lineHeld ∧
    (s.openSpill r n).line.conflictAborts = s.line.conflictAborts ∧
    (s.openSpill r n).report.house = s.report.house ∧
    (s.openSpill r n).report.nextSecond = s.report.nextSecond ∧
    (s.openSpill r n).report.lastTime = s.report.lastTime ∧
    (s.openSpill r n).report.townPresent = s.report.townPresent := by
  simp [State.openSpill]

@[simp] theorem State.closeSpill_fields (r : SpillData) :
    (s.closeSpill r).line.txEnabled = s.line.txEnabled ∧ (s.closeSpill r).line.txHeld = s.line.txHeld ∧
    (s.closeSpill r).line.notFollowing = s.line.notFollowing ∧
    (s.closeSpill r).line.addressConflict = s.line.addressConflict ∧
    (s.closeSpill r).line.lineHeld = s.line.lineHeld ∧
    (s.closeSpill r).line.conflictAborts = s.line.conflictAborts ∧
    (s.closeSpill r).report.house = s.report.house ∧ (s.closeSpill r).report.nextSecond = s.report.nextSecond ∧
    (s.closeSpill r).report.lastTime = s.report.lastTime ∧
    (s.closeSpill r).report.townPresent = s.report.townPresent := by
  simp [State.closeSpill]

@[simp] theorem State.weirHead_fields (c : WeirSettings) (h q : Nat) :
    (s.weirHead c h q).line.txEnabled = s.line.txEnabled ∧ (s.weirHead c h q).line.txHeld = s.line.txHeld ∧
    (s.weirHead c h q).line.notFollowing = s.line.notFollowing ∧
    (s.weirHead c h q).line.addressConflict = s.line.addressConflict ∧
    (s.weirHead c h q).line.lineHeld = s.line.lineHeld ∧
    (s.weirHead c h q).line.conflictAborts = s.line.conflictAborts ∧
    (s.weirHead c h q).report.house = s.report.house ∧
    (s.weirHead c h q).report.nextSecond = s.report.nextSecond ∧
    (s.weirHead c h q).report.lastTime = s.report.lastTime ∧
    (s.weirHead c h q).report.townPresent = s.report.townPresent := by
  unfold State.weirHead
  dsimp only
  (repeat' split) <;> simp

@[simp] theorem State.weirGap_fields :
    s.weirGap.line.txEnabled = s.line.txEnabled ∧ s.weirGap.line.txHeld = s.line.txHeld ∧
    s.weirGap.line.notFollowing = s.line.notFollowing ∧
    s.weirGap.line.addressConflict = s.line.addressConflict ∧ s.weirGap.line.lineHeld = s.line.lineHeld ∧
    s.weirGap.line.conflictAborts = s.line.conflictAborts ∧ s.weirGap.report.house = s.report.house ∧
    s.weirGap.report.nextSecond = s.report.nextSecond ∧ s.weirGap.report.lastTime = s.report.lastTime ∧
    s.weirGap.report.townPresent = s.report.townPresent := by
  unfold State.weirGap
  dsimp only
  (repeat' split) <;> simp

@[simp] theorem State.weirStep_fields :
    s.weirStep.line.txEnabled = s.line.txEnabled ∧ s.weirStep.line.txHeld = s.line.txHeld ∧
    s.weirStep.line.notFollowing = s.line.notFollowing ∧
    s.weirStep.line.addressConflict = s.line.addressConflict ∧ s.weirStep.line.lineHeld = s.line.lineHeld ∧
    s.weirStep.line.conflictAborts = s.line.conflictAborts ∧ s.weirStep.report.house = s.report.house ∧
    s.weirStep.report.nextSecond = s.report.nextSecond ∧ s.weirStep.report.lastTime = s.report.lastTime ∧
    s.weirStep.report.townPresent = s.report.townPresent := by
  unfold State.weirStep
  dsimp only
  (repeat' split) <;> simp

@[simp] theorem State.formAvailable_fields :
    s.formAvailable.staging.drawdownOffset = s.staging.drawdownOffset ∧
    s.formAvailable.staging.drawdownExpiry = s.staging.drawdownExpiry ∧
    s.formAvailable.staging.noticeMarks = s.staging.noticeMarks ∧
    s.formAvailable.staging.claimMarks = s.staging.claimMarks ∧
    s.formAvailable.line.txEnabled = s.line.txEnabled ∧ s.formAvailable.line.txHeld = s.line.txHeld ∧
    s.formAvailable.line.notFollowing = s.line.notFollowing ∧
    s.formAvailable.line.addressConflict = s.line.addressConflict ∧
    s.formAvailable.line.lineHeld = s.line.lineHeld ∧ s.formAvailable.line.conflictAborts = s.line.conflictAborts := by
  simp [State.formAvailable]

@[simp] theorem State.endHandClaim_fields :
    s.endHandClaim.pump.feedback = s.pump.feedback ∧ s.endHandClaim.pump.guard = s.pump.guard ∧
    s.endHandClaim.pump.failures = s.pump.failures ∧ s.endHandClaim.pump.cooling = s.pump.cooling ∧
    s.endHandClaim.pump.buckets = s.pump.buckets ∧ s.endHandClaim.pump.runSeconds = s.pump.runSeconds ∧
    s.endHandClaim.pump.nextHour = s.pump.nextHour ∧ s.endHandClaim.pump.selector = s.pump.selector ∧
    s.endHandClaim.line.txEnabled = s.line.txEnabled ∧ s.endHandClaim.line.txHeld = s.line.txHeld ∧
    s.endHandClaim.line.notFollowing = s.line.notFollowing ∧
    s.endHandClaim.line.addressConflict = s.line.addressConflict ∧
    s.endHandClaim.line.lineHeld = s.line.lineHeld ∧ s.endHandClaim.line.conflictAborts = s.line.conflictAborts := by
  unfold State.endHandClaim
  dsimp only
  (repeat' split) <;> simp

@[simp] theorem State.changePump_pump (f : Pump → Pump) :
    (s.changePump f).pump.state = (f s.pump).state ∧ (s.changePump f).pump.feedback = (f s.pump).feedback ∧
    (s.changePump f).pump.guard = (f s.pump).guard ∧ (s.changePump f).pump.starts = (f s.pump).starts ∧
    (s.changePump f).pump.failures = (f s.pump).failures ∧ (s.changePump f).pump.cooling = (f s.pump).cooling ∧
    (s.changePump f).pump.buckets = (f s.pump).buckets ∧
    (s.changePump f).pump.runSeconds = (f s.pump).runSeconds ∧
    (s.changePump f).pump.nextHour = (f s.pump).nextHour ∧
    (s.changePump f).pump.selector = (f s.pump).selector := by
  simp only [State.changePump, State.endHandClaim]
  (repeat' split) <;> simp [Pump.tidied]


@[simp] theorem State.changePump_fields (f : Pump → Pump) :
    (s.changePump f).line.txEnabled = s.line.txEnabled ∧ (s.changePump f).line.txHeld = s.line.txHeld ∧
    (s.changePump f).line.notFollowing = s.line.notFollowing ∧
    (s.changePump f).line.addressConflict = s.line.addressConflict ∧
    (s.changePump f).line.lineHeld = s.line.lineHeld ∧
    (s.changePump f).line.conflictAborts = s.line.conflictAborts := by
  simp [State.changePump]

@[simp] theorem State.limitWish_fields :
    s.limitWish.staging.drawdownOffset = s.staging.drawdownOffset ∧
    s.limitWish.staging.drawdownExpiry = s.staging.drawdownExpiry ∧
    s.limitWish.staging.noticeMarks = s.staging.noticeMarks ∧
    s.limitWish.staging.claimMarks = s.staging.claimMarks := by
  unfold State.limitWish
  simp only [State.onStaging_staging]
  split <;> simp

/-- A change of the pump ends with the pump as the Pump Sequencer's own part of it leaves it. -/
@[simp] theorem State.movePump_pump (f : Pump → Pump) : (s.movePump f).pump = (s.changePump f).pump := by
  simp [State.movePump]

/-- A change of the pump gives a rake trigger only when it enters RUNNING (R118). -/
@[simp] theorem State.movePump_screen (f : Pump → Pump) (h : (f s.pump).state = .running → s.pump.state = .running) :
    (s.movePump f).screen = s.screen := by
  unfold State.movePump State.pumpSource
  split
  · next g => exact absurd (h (by simpa using g.1)) g.2.1
  · simp

@[simp] theorem State.movePump_fields (f : Pump → Pump) :
    (s.movePump f).staging.drawdownOffset = s.staging.drawdownOffset ∧
    (s.movePump f).staging.drawdownExpiry = s.staging.drawdownExpiry ∧
    (s.movePump f).staging.noticeMarks = s.staging.noticeMarks ∧
    (s.movePump f).staging.claimMarks = s.staging.claimMarks ∧
    (s.movePump f).line.txEnabled = s.line.txEnabled ∧ (s.movePump f).line.txHeld = s.line.txHeld ∧
    (s.movePump f).line.notFollowing = s.line.notFollowing ∧
    (s.movePump f).line.addressConflict = s.line.addressConflict ∧
    (s.movePump f).line.lineHeld = s.line.lineHeld ∧
    (s.movePump f).line.conflictAborts = s.line.conflictAborts ∧ (s.movePump f).report.house = s.report.house ∧
    (s.movePump f).report.nextSecond = s.report.nextSecond ∧
    (s.movePump f).report.lastTime = s.report.lastTime ∧ (s.movePump f).report.townPresent = s.report.townPresent := by
  simp [State.movePump]

@[simp] theorem State.lock_fields (c : LockCause) :
    (s.lock c).pump.feedback = s.pump.feedback ∧ (s.lock c).pump.guard = s.pump.guard ∧
    (s.lock c).pump.failures = s.pump.failures ∧ (s.lock c).pump.cooling = s.pump.cooling ∧
    (s.lock c).pump.buckets = s.pump.buckets ∧ (s.lock c).pump.runSeconds = s.pump.runSeconds ∧
    (s.lock c).pump.nextHour = s.pump.nextHour ∧ (s.lock c).pump.selector = s.pump.selector ∧
    (s.lock c).staging.drawdownOffset = s.staging.drawdownOffset ∧
    (s.lock c).staging.drawdownExpiry = s.staging.drawdownExpiry ∧
    (s.lock c).staging.noticeMarks = s.staging.noticeMarks ∧
    (s.lock c).staging.claimMarks = s.staging.claimMarks ∧ (s.lock c).line.txEnabled = s.line.txEnabled ∧
    (s.lock c).line.txHeld = s.line.txHeld ∧ (s.lock c).line.notFollowing = s.line.notFollowing ∧
    (s.lock c).line.addressConflict = s.line.addressConflict ∧ (s.lock c).line.lineHeld = s.line.lineHeld ∧
    (s.lock c).line.conflictAborts = s.line.conflictAborts ∧ (s.lock c).report.house = s.report.house ∧
    (s.lock c).report.nextSecond = s.report.nextSecond ∧ (s.lock c).report.lastTime = s.report.lastTime ∧
    (s.lock c).report.townPresent = s.report.townPresent ∧ (s.lock c).screen = s.screen := by
  unfold State.lock
  (repeat' split) <;> simp

@[simp] theorem State.setGuard_fields :
    s.setGuard.pump.feedback = s.pump.feedback ∧ s.setGuard.pump.failures = s.pump.failures ∧
    s.setGuard.pump.cooling = s.pump.cooling ∧ s.setGuard.pump.buckets = s.pump.buckets ∧
    s.setGuard.pump.runSeconds = s.pump.runSeconds ∧ s.setGuard.pump.nextHour = s.pump.nextHour ∧
    s.setGuard.pump.selector = s.pump.selector := by
  simp [State.setGuard]

@[simp] theorem State.claimResolved_fields :
    s.claimResolved.pump.feedback = s.pump.feedback ∧ s.claimResolved.pump.guard = s.pump.guard ∧
    s.claimResolved.pump.failures = s.pump.failures ∧ s.claimResolved.pump.cooling = s.pump.cooling ∧
    s.claimResolved.pump.buckets = s.pump.buckets ∧ s.claimResolved.pump.runSeconds = s.pump.runSeconds ∧
    s.claimResolved.pump.nextHour = s.pump.nextHour ∧ s.claimResolved.pump.selector = s.pump.selector ∧
    s.claimResolved.staging.drawdownOffset = s.staging.drawdownOffset ∧
    s.claimResolved.staging.drawdownExpiry = s.staging.drawdownExpiry ∧
    s.claimResolved.staging.noticeMarks = s.staging.noticeMarks ∧
    s.claimResolved.staging.claimMarks = s.staging.claimMarks ∧
    s.claimResolved.line.txEnabled = s.line.txEnabled ∧ s.claimResolved.line.txHeld = s.line.txHeld ∧
    s.claimResolved.line.notFollowing = s.line.notFollowing ∧
    s.claimResolved.line.addressConflict = s.line.addressConflict ∧
    s.claimResolved.line.lineHeld = s.line.lineHeld ∧
    s.claimResolved.line.conflictAborts = s.line.conflictAborts ∧
    s.claimResolved.report.house = s.report.house ∧ s.claimResolved.report.nextSecond = s.report.nextSecond ∧
    s.claimResolved.report.lastTime = s.report.lastTime ∧
    s.claimResolved.report.townPresent = s.report.townPresent ∧ s.claimResolved.screen = s.screen := by
  unfold State.claimResolved
  (repeat' split) <;> simp

@[simp] theorem State.loseClaim_fields :
    s.loseClaim.pump.feedback = s.pump.feedback ∧ s.loseClaim.pump.guard = s.pump.guard ∧
    s.loseClaim.pump.failures = s.pump.failures ∧ s.loseClaim.pump.cooling = s.pump.cooling ∧
    s.loseClaim.pump.buckets = s.pump.buckets ∧ s.loseClaim.pump.runSeconds = s.pump.runSeconds ∧
    s.loseClaim.pump.nextHour = s.pump.nextHour ∧ s.loseClaim.pump.selector = s.pump.selector ∧
    s.loseClaim.staging.drawdownOffset = s.staging.drawdownOffset ∧
    s.loseClaim.staging.drawdownExpiry = s.staging.drawdownExpiry ∧
    s.loseClaim.staging.noticeMarks = s.staging.noticeMarks ∧
    s.loseClaim.staging.claimMarks = s.staging.claimMarks ∧ s.loseClaim.line.txEnabled = s.line.txEnabled ∧
    s.loseClaim.line.txHeld = s.line.txHeld ∧ s.loseClaim.line.notFollowing = s.line.notFollowing ∧
    s.loseClaim.line.addressConflict = s.line.addressConflict ∧ s.loseClaim.line.lineHeld = s.line.lineHeld ∧
    s.loseClaim.line.conflictAborts = s.line.conflictAborts ∧ s.loseClaim.report.house = s.report.house ∧
    s.loseClaim.report.nextSecond = s.report.nextSecond ∧ s.loseClaim.report.lastTime = s.report.lastTime ∧
    s.loseClaim.report.townPresent = s.report.townPresent ∧ s.loseClaim.screen = s.screen := by
  unfold State.loseClaim
  (repeat' split) <;> simp

@[simp] theorem State.dropWish_fields :
    s.dropWish.pump.feedback = s.pump.feedback ∧ s.dropWish.pump.guard = s.pump.guard ∧
    s.dropWish.pump.failures = s.pump.failures ∧ s.dropWish.pump.cooling = s.pump.cooling ∧
    s.dropWish.pump.buckets = s.pump.buckets ∧ s.dropWish.pump.runSeconds = s.pump.runSeconds ∧
    s.dropWish.pump.nextHour = s.pump.nextHour ∧ s.dropWish.pump.selector = s.pump.selector ∧
    s.dropWish.staging.drawdownOffset = s.staging.drawdownOffset ∧
    s.dropWish.staging.drawdownExpiry = s.staging.drawdownExpiry ∧
    s.dropWish.staging.noticeMarks = s.staging.noticeMarks ∧
    s.dropWish.staging.claimMarks = s.staging.claimMarks ∧ s.dropWish.line.txEnabled = s.line.txEnabled ∧
    s.dropWish.line.txHeld = s.line.txHeld ∧ s.dropWish.line.notFollowing = s.line.notFollowing ∧
    s.dropWish.line.addressConflict = s.line.addressConflict ∧ s.dropWish.line.lineHeld = s.line.lineHeld ∧
    s.dropWish.line.conflictAborts = s.line.conflictAborts ∧ s.dropWish.report.house = s.report.house ∧
    s.dropWish.report.nextSecond = s.report.nextSecond ∧ s.dropWish.report.lastTime = s.report.lastTime ∧
    s.dropWish.report.townPresent = s.report.townPresent ∧ s.dropWish.screen = s.screen := by
  unfold State.dropWish
  dsimp only
  (repeat' split) <;> simp

@[simp] theorem State.reformAvailability_fields :
    s.reformAvailability.pump.feedback = s.pump.feedback ∧ s.reformAvailability.pump.guard = s.pump.guard ∧
    s.reformAvailability.pump.failures = s.pump.failures ∧ s.reformAvailability.pump.cooling = s.pump.cooling ∧
    s.reformAvailability.pump.buckets = s.pump.buckets ∧
    s.reformAvailability.pump.runSeconds = s.pump.runSeconds ∧
    s.reformAvailability.pump.nextHour = s.pump.nextHour ∧
    s.reformAvailability.pump.selector = s.pump.selector ∧
    s.reformAvailability.staging.drawdownOffset = s.staging.drawdownOffset ∧
    s.reformAvailability.staging.drawdownExpiry = s.staging.drawdownExpiry ∧
    s.reformAvailability.staging.noticeMarks = s.staging.noticeMarks ∧
    s.reformAvailability.staging.claimMarks = s.staging.claimMarks ∧
    s.reformAvailability.line.txEnabled = s.line.txEnabled ∧ s.reformAvailability.line.txHeld = s.line.txHeld ∧
    s.reformAvailability.line.notFollowing = s.line.notFollowing ∧
    s.reformAvailability.line.addressConflict = s.line.addressConflict ∧
    s.reformAvailability.line.lineHeld = s.line.lineHeld ∧
    s.reformAvailability.line.conflictAborts = s.line.conflictAborts ∧
    s.reformAvailability.report.house = s.report.house ∧
    s.reformAvailability.report.nextSecond = s.report.nextSecond ∧
    s.reformAvailability.report.lastTime = s.report.lastTime ∧
    s.reformAvailability.report.townPresent = s.report.townPresent ∧ s.reformAvailability.screen = s.screen := by
  unfold State.reformAvailability
  dsimp only
  (repeat' split) <;> simp

@[simp] theorem State.placeClaim_fields :
    s.placeClaim.line.txEnabled = s.line.txEnabled ∧ s.placeClaim.line.txHeld = s.line.txHeld ∧
    s.placeClaim.line.notFollowing = s.line.notFollowing ∧
    s.placeClaim.line.addressConflict = s.line.addressConflict ∧ s.placeClaim.line.lineHeld = s.line.lineHeld ∧
    s.placeClaim.line.conflictAborts = s.line.conflictAborts := by
  simp [State.placeClaim]

@[simp] theorem State.beginClaim_fields :
    s.beginClaim.pump.feedback = s.pump.feedback ∧ s.beginClaim.pump.guard = s.pump.guard ∧
    s.beginClaim.pump.failures = s.pump.failures ∧ s.beginClaim.pump.cooling = s.pump.cooling ∧
    s.beginClaim.pump.buckets = s.pump.buckets ∧ s.beginClaim.pump.runSeconds = s.pump.runSeconds ∧
    s.beginClaim.pump.nextHour = s.pump.nextHour ∧ s.beginClaim.pump.selector = s.pump.selector ∧
    s.beginClaim.staging.drawdownOffset = s.staging.drawdownOffset ∧
    s.beginClaim.staging.drawdownExpiry = s.staging.drawdownExpiry ∧
    s.beginClaim.staging.noticeMarks = s.staging.noticeMarks ∧
    s.beginClaim.staging.claimMarks = s.staging.claimMarks ∧ s.beginClaim.line.txEnabled = s.line.txEnabled ∧
    s.beginClaim.line.txHeld = s.line.txHeld ∧ s.beginClaim.line.notFollowing = s.line.notFollowing ∧
    s.beginClaim.line.addressConflict = s.line.addressConflict ∧ s.beginClaim.line.lineHeld = s.line.lineHeld ∧
    s.beginClaim.line.conflictAborts = s.line.conflictAborts ∧ s.beginClaim.report.house = s.report.house ∧
    s.beginClaim.report.nextSecond = s.report.nextSecond ∧ s.beginClaim.report.lastTime = s.report.lastTime ∧
    s.beginClaim.report.townPresent = s.report.townPresent ∧ s.beginClaim.screen = s.screen := by
  simp [State.beginClaim]

@[simp] theorem State.ageStarts_fields :
    s.ageStarts.pump.feedback = s.pump.feedback ∧ s.ageStarts.pump.guard = s.pump.guard ∧
    s.ageStarts.pump.failures = s.pump.failures ∧ s.ageStarts.pump.cooling = s.pump.cooling ∧
    s.ageStarts.pump.buckets = s.pump.buckets ∧ s.ageStarts.pump.runSeconds = s.pump.runSeconds ∧
    s.ageStarts.pump.nextHour = s.pump.nextHour ∧ s.ageStarts.pump.selector = s.pump.selector ∧
    s.ageStarts.staging.drawdownOffset = s.staging.drawdownOffset ∧
    s.ageStarts.staging.drawdownExpiry = s.staging.drawdownExpiry ∧
    s.ageStarts.staging.noticeMarks = s.staging.noticeMarks ∧
    s.ageStarts.staging.claimMarks = s.staging.claimMarks ∧ s.ageStarts.line.txEnabled = s.line.txEnabled ∧
    s.ageStarts.line.txHeld = s.line.txHeld ∧ s.ageStarts.line.notFollowing = s.line.notFollowing ∧
    s.ageStarts.line.addressConflict = s.line.addressConflict ∧ s.ageStarts.line.lineHeld = s.line.lineHeld ∧
    s.ageStarts.line.conflictAborts = s.line.conflictAborts ∧ s.ageStarts.report.house = s.report.house ∧
    s.ageStarts.report.nextSecond = s.report.nextSecond ∧ s.ageStarts.report.lastTime = s.report.lastTime ∧
    s.ageStarts.report.townPresent = s.report.townPresent := by
  unfold State.ageStarts
  dsimp only
  split <;> simp [Pump.aged]

@[simp] theorem State.addStart_fields :
    s.addStart.pump.feedback = s.pump.feedback ∧ s.addStart.pump.guard = s.pump.guard ∧
    s.addStart.pump.failures = s.pump.failures ∧ s.addStart.pump.cooling = s.pump.cooling ∧
    s.addStart.pump.buckets = s.pump.buckets ∧ s.addStart.pump.runSeconds = s.pump.runSeconds ∧
    s.addStart.pump.nextHour = s.pump.nextHour ∧ s.addStart.pump.selector = s.pump.selector := by
  unfold State.addStart
  (repeat' split) <;> simp

@[simp] theorem State.earlyProof_fields :
    s.earlyProof.pump.feedback = s.pump.feedback ∧ s.earlyProof.pump.guard = s.pump.guard ∧
    s.earlyProof.pump.failures = s.pump.failures ∧ s.earlyProof.pump.cooling = s.pump.cooling ∧
    s.earlyProof.pump.buckets = s.pump.buckets ∧ s.earlyProof.pump.runSeconds = s.pump.runSeconds ∧
    s.earlyProof.pump.nextHour = s.pump.nextHour ∧ s.earlyProof.pump.selector = s.pump.selector ∧
    s.earlyProof.staging.drawdownOffset = s.staging.drawdownOffset ∧
    s.earlyProof.staging.drawdownExpiry = s.staging.drawdownExpiry ∧
    s.earlyProof.staging.noticeMarks = s.staging.noticeMarks ∧
    s.earlyProof.staging.claimMarks = s.staging.claimMarks ∧ s.earlyProof.line.txEnabled = s.line.txEnabled ∧
    s.earlyProof.line.txHeld = s.line.txHeld ∧ s.earlyProof.line.notFollowing = s.line.notFollowing ∧
    s.earlyProof.line.addressConflict = s.line.addressConflict ∧ s.earlyProof.line.lineHeld = s.line.lineHeld ∧
    s.earlyProof.line.conflictAborts = s.line.conflictAborts ∧ s.earlyProof.report.house = s.report.house ∧
    s.earlyProof.report.nextSecond = s.report.nextSecond ∧ s.earlyProof.report.lastTime = s.report.lastTime ∧
    s.earlyProof.report.townPresent = s.report.townPresent ∧ s.earlyProof.screen = s.screen := by
  simp [State.earlyProof]

@[simp] theorem State.checkEarlyProof_fields :
    s.checkEarlyProof.pump.feedback = s.pump.feedback ∧ s.checkEarlyProof.pump.guard = s.pump.guard ∧
    s.checkEarlyProof.pump.failures = s.pump.failures ∧ s.checkEarlyProof.pump.cooling = s.pump.cooling ∧
    s.checkEarlyProof.pump.buckets = s.pump.buckets ∧ s.checkEarlyProof.pump.runSeconds = s.pump.runSeconds ∧
    s.checkEarlyProof.pump.nextHour = s.pump.nextHour ∧ s.checkEarlyProof.pump.selector = s.pump.selector ∧
    s.checkEarlyProof.staging.drawdownOffset = s.staging.drawdownOffset ∧
    s.checkEarlyProof.staging.drawdownExpiry = s.staging.drawdownExpiry ∧
    s.checkEarlyProof.staging.noticeMarks = s.staging.noticeMarks ∧
    s.checkEarlyProof.staging.claimMarks = s.staging.claimMarks ∧
    s.checkEarlyProof.line.txEnabled = s.line.txEnabled ∧ s.checkEarlyProof.line.txHeld = s.line.txHeld ∧
    s.checkEarlyProof.line.notFollowing = s.line.notFollowing ∧
    s.checkEarlyProof.line.addressConflict = s.line.addressConflict ∧
    s.checkEarlyProof.line.lineHeld = s.line.lineHeld ∧
    s.checkEarlyProof.line.conflictAborts = s.line.conflictAborts ∧
    s.checkEarlyProof.report.house = s.report.house ∧
    s.checkEarlyProof.report.nextSecond = s.report.nextSecond ∧
    s.checkEarlyProof.report.lastTime = s.report.lastTime ∧
    s.checkEarlyProof.report.townPresent = s.report.townPresent ∧ s.checkEarlyProof.screen = s.screen := by
  unfold State.checkEarlyProof
  (repeat' split) <;> simp

@[simp] theorem State.makeStart_fields :
    s.makeStart.pump.feedback = s.pump.feedback ∧ s.makeStart.pump.guard = s.pump.guard ∧
    s.makeStart.pump.failures = s.pump.failures ∧ s.makeStart.pump.cooling = s.pump.cooling ∧
    s.makeStart.pump.buckets = s.pump.buckets ∧ s.makeStart.pump.runSeconds = s.pump.runSeconds ∧
    s.makeStart.pump.nextHour = s.pump.nextHour ∧ s.makeStart.pump.selector = s.pump.selector ∧
    s.makeStart.staging.drawdownOffset = s.staging.drawdownOffset ∧
    s.makeStart.staging.drawdownExpiry = s.staging.drawdownExpiry ∧
    s.makeStart.staging.noticeMarks = s.staging.noticeMarks ∧
    s.makeStart.staging.claimMarks = s.staging.claimMarks ∧ s.makeStart.line.txEnabled = s.line.txEnabled ∧
    s.makeStart.line.txHeld = s.line.txHeld ∧ s.makeStart.line.notFollowing = s.line.notFollowing ∧
    s.makeStart.line.addressConflict = s.line.addressConflict ∧ s.makeStart.line.lineHeld = s.line.lineHeld ∧
    s.makeStart.line.conflictAborts = s.line.conflictAborts ∧ s.makeStart.report.house = s.report.house ∧
    s.makeStart.report.nextSecond = s.report.nextSecond ∧ s.makeStart.report.lastTime = s.report.lastTime ∧
    s.makeStart.report.townPresent = s.report.townPresent ∧ s.makeStart.screen = s.screen := by
  simp [State.makeStart]

@[simp] theorem State.fullListEvent_fields (b : Bool) (l : List Snapshot) :
    (s.fullListEvent b l).report.house = s.report.house ∧
    (s.fullListEvent b l).report.nextSecond = s.report.nextSecond ∧
    (s.fullListEvent b l).report.lastTime = s.report.lastTime ∧
    (s.fullListEvent b l).report.townPresent = s.report.townPresent := by
  unfold State.fullListEvent
  (repeat' split) <;> simp

@[simp] theorem State.handStart_fields :
    s.handStart.pump.feedback = s.pump.feedback ∧ s.handStart.pump.guard = s.pump.guard ∧
    s.handStart.pump.failures = s.pump.failures ∧ s.handStart.pump.cooling = s.pump.cooling ∧
    s.handStart.pump.buckets = s.pump.buckets ∧ s.handStart.pump.runSeconds = s.pump.runSeconds ∧
    s.handStart.pump.nextHour = s.pump.nextHour ∧ s.handStart.pump.selector = s.pump.selector ∧
    s.handStart.staging.drawdownOffset = s.staging.drawdownOffset ∧
    s.handStart.staging.drawdownExpiry = s.staging.drawdownExpiry ∧
    s.handStart.staging.noticeMarks = s.staging.noticeMarks ∧
    s.handStart.staging.claimMarks = s.staging.claimMarks ∧ s.handStart.line.txEnabled = s.line.txEnabled ∧
    s.handStart.line.txHeld = s.line.txHeld ∧ s.handStart.line.notFollowing = s.line.notFollowing ∧
    s.handStart.line.addressConflict = s.line.addressConflict ∧ s.handStart.line.lineHeld = s.line.lineHeld ∧
    s.handStart.line.conflictAborts = s.line.conflictAborts ∧ s.handStart.report.house = s.report.house ∧
    s.handStart.report.nextSecond = s.report.nextSecond ∧ s.handStart.report.lastTime = s.report.lastTime ∧
    s.handStart.report.townPresent = s.report.townPresent ∧ s.handStart.screen = s.screen := by
  unfold State.handStart
  dsimp only
  (repeat' split) <;> simp

@[simp] theorem State.actOnStart_fields :
    s.actOnStart.pump.feedback = s.pump.feedback ∧ s.actOnStart.pump.guard = s.pump.guard ∧
    s.actOnStart.pump.failures = s.pump.failures ∧ s.actOnStart.pump.cooling = s.pump.cooling ∧
    s.actOnStart.pump.buckets = s.pump.buckets ∧ s.actOnStart.pump.runSeconds = s.pump.runSeconds ∧
    s.actOnStart.pump.nextHour = s.pump.nextHour ∧ s.actOnStart.pump.selector = s.pump.selector ∧
    s.actOnStart.staging.drawdownOffset = s.staging.drawdownOffset ∧
    s.actOnStart.staging.drawdownExpiry = s.staging.drawdownExpiry ∧
    s.actOnStart.staging.noticeMarks = s.staging.noticeMarks ∧
    s.actOnStart.staging.claimMarks = s.staging.claimMarks ∧ s.actOnStart.line.txEnabled = s.line.txEnabled ∧
    s.actOnStart.line.txHeld = s.line.txHeld ∧ s.actOnStart.line.notFollowing = s.line.notFollowing ∧
    s.actOnStart.line.addressConflict = s.line.addressConflict ∧ s.actOnStart.line.lineHeld = s.line.lineHeld ∧
    s.actOnStart.line.conflictAborts = s.line.conflictAborts ∧ s.actOnStart.report.house = s.report.house ∧
    s.actOnStart.report.nextSecond = s.report.nextSecond ∧ s.actOnStart.report.lastTime = s.report.lastTime ∧
    s.actOnStart.report.townPresent = s.report.townPresent ∧ s.actOnStart.screen = s.screen := by
  unfold State.actOnStart
  (repeat' split) <;> simp

@[simp] theorem State.released_fields :
    s.released.pump.feedback = s.pump.feedback ∧ s.released.pump.guard = s.pump.guard ∧
    s.released.pump.failures = s.pump.failures ∧ s.released.pump.cooling = s.pump.cooling ∧
    s.released.pump.buckets = s.pump.buckets ∧ s.released.pump.runSeconds = s.pump.runSeconds ∧
    s.released.pump.nextHour = s.pump.nextHour ∧ s.released.pump.selector = s.pump.selector ∧
    s.released.staging.drawdownOffset = s.staging.drawdownOffset ∧
    s.released.staging.drawdownExpiry = s.staging.drawdownExpiry ∧
    s.released.staging.noticeMarks = s.staging.noticeMarks ∧
    s.released.staging.claimMarks = s.staging.claimMarks ∧ s.released.line.txEnabled = s.line.txEnabled ∧
    s.released.line.txHeld = s.line.txHeld ∧ s.released.line.notFollowing = s.line.notFollowing ∧
    s.released.line.addressConflict = s.line.addressConflict ∧ s.released.line.lineHeld = s.line.lineHeld ∧
    s.released.line.conflictAborts = s.line.conflictAborts ∧ s.released.report.house = s.report.house ∧
    s.released.report.nextSecond = s.report.nextSecond ∧ s.released.report.lastTime = s.report.lastTime ∧
    s.released.report.townPresent = s.report.townPresent ∧ s.released.screen = s.screen := by
  simp [State.released]

@[simp] theorem State.goStopping_fields :
    s.goStopping.pump.feedback = s.pump.feedback ∧ s.goStopping.pump.guard = s.pump.guard ∧
    s.goStopping.pump.failures = s.pump.failures ∧ s.goStopping.pump.cooling = s.pump.cooling ∧
    s.goStopping.pump.buckets = s.pump.buckets ∧ s.goStopping.pump.runSeconds = s.pump.runSeconds ∧
    s.goStopping.pump.nextHour = s.pump.nextHour ∧ s.goStopping.pump.selector = s.pump.selector ∧
    s.goStopping.staging.drawdownOffset = s.staging.drawdownOffset ∧
    s.goStopping.staging.drawdownExpiry = s.staging.drawdownExpiry ∧
    s.goStopping.staging.noticeMarks = s.staging.noticeMarks ∧
    s.goStopping.staging.claimMarks = s.staging.claimMarks ∧ s.goStopping.line.txEnabled = s.line.txEnabled ∧
    s.goStopping.line.txHeld = s.line.txHeld ∧ s.goStopping.line.notFollowing = s.line.notFollowing ∧
    s.goStopping.line.addressConflict = s.line.addressConflict ∧ s.goStopping.line.lineHeld = s.line.lineHeld ∧
    s.goStopping.line.conflictAborts = s.line.conflictAborts ∧ s.goStopping.report.house = s.report.house ∧
    s.goStopping.report.nextSecond = s.report.nextSecond ∧ s.goStopping.report.lastTime = s.report.lastTime ∧
    s.goStopping.report.townPresent = s.report.townPresent ∧ s.goStopping.screen = s.screen := by
  unfold State.goStopping
  dsimp only
  (repeat' split) <;> simp

@[simp] theorem State.actOnStop_fields :
    s.actOnStop.pump.feedback = s.pump.feedback ∧ s.actOnStop.pump.guard = s.pump.guard ∧
    s.actOnStop.pump.failures = s.pump.failures ∧ s.actOnStop.pump.cooling = s.pump.cooling ∧
    s.actOnStop.pump.buckets = s.pump.buckets ∧ s.actOnStop.pump.runSeconds = s.pump.runSeconds ∧
    s.actOnStop.pump.nextHour = s.pump.nextHour ∧ s.actOnStop.pump.selector = s.pump.selector ∧
    s.actOnStop.staging.drawdownOffset = s.staging.drawdownOffset ∧
    s.actOnStop.staging.drawdownExpiry = s.staging.drawdownExpiry ∧
    s.actOnStop.staging.noticeMarks = s.staging.noticeMarks ∧
    s.actOnStop.staging.claimMarks = s.staging.claimMarks ∧ s.actOnStop.line.txEnabled = s.line.txEnabled ∧
    s.actOnStop.line.txHeld = s.line.txHeld ∧ s.actOnStop.line.notFollowing = s.line.notFollowing ∧
    s.actOnStop.line.addressConflict = s.line.addressConflict ∧ s.actOnStop.line.lineHeld = s.line.lineHeld ∧
    s.actOnStop.line.conflictAborts = s.line.conflictAborts ∧ s.actOnStop.report.house = s.report.house ∧
    s.actOnStop.report.nextSecond = s.report.nextSecond ∧ s.actOnStop.report.lastTime = s.report.lastTime ∧
    s.actOnStop.report.townPresent = s.report.townPresent ∧ s.actOnStop.screen = s.screen := by
  unfold State.actOnStop
  (repeat' split) <;> simp

@[simp] theorem State.stopFloatCutOut_fields :
    s.stopFloatCutOut.pump.feedback = s.pump.feedback ∧ s.stopFloatCutOut.pump.guard = s.pump.guard ∧
    s.stopFloatCutOut.pump.failures = s.pump.failures ∧ s.stopFloatCutOut.pump.cooling = s.pump.cooling ∧
    s.stopFloatCutOut.pump.buckets = s.pump.buckets ∧ s.stopFloatCutOut.pump.runSeconds = s.pump.runSeconds ∧
    s.stopFloatCutOut.pump.nextHour = s.pump.nextHour ∧ s.stopFloatCutOut.pump.selector = s.pump.selector ∧
    s.stopFloatCutOut.staging.drawdownOffset = s.staging.drawdownOffset ∧
    s.stopFloatCutOut.staging.drawdownExpiry = s.staging.drawdownExpiry ∧
    s.stopFloatCutOut.staging.noticeMarks = s.staging.noticeMarks ∧
    s.stopFloatCutOut.staging.claimMarks = s.staging.claimMarks ∧
    s.stopFloatCutOut.line.txEnabled = s.line.txEnabled ∧ s.stopFloatCutOut.line.txHeld = s.line.txHeld ∧
    s.stopFloatCutOut.line.notFollowing = s.line.notFollowing ∧
    s.stopFloatCutOut.line.addressConflict = s.line.addressConflict ∧
    s.stopFloatCutOut.line.lineHeld = s.line.lineHeld ∧
    s.stopFloatCutOut.line.conflictAborts = s.line.conflictAborts ∧
    s.stopFloatCutOut.report.house = s.report.house ∧
    s.stopFloatCutOut.report.nextSecond = s.report.nextSecond ∧
    s.stopFloatCutOut.report.lastTime = s.report.lastTime ∧
    s.stopFloatCutOut.report.townPresent = s.report.townPresent ∧ s.stopFloatCutOut.screen = s.screen := by
  unfold State.stopFloatCutOut
  (repeat' split) <;> simp

@[simp] theorem State.bayCutOut_fields :
    s.bayCutOut.pump.feedback = s.pump.feedback ∧ s.bayCutOut.pump.guard = s.pump.guard ∧
    s.bayCutOut.pump.failures = s.pump.failures ∧ s.bayCutOut.pump.cooling = s.pump.cooling ∧
    s.bayCutOut.pump.buckets = s.pump.buckets ∧ s.bayCutOut.pump.runSeconds = s.pump.runSeconds ∧
    s.bayCutOut.pump.nextHour = s.pump.nextHour ∧ s.bayCutOut.pump.selector = s.pump.selector ∧
    s.bayCutOut.staging.drawdownOffset = s.staging.drawdownOffset ∧
    s.bayCutOut.staging.drawdownExpiry = s.staging.drawdownExpiry ∧
    s.bayCutOut.staging.noticeMarks = s.staging.noticeMarks ∧
    s.bayCutOut.staging.claimMarks = s.staging.claimMarks ∧ s.bayCutOut.line.txEnabled = s.line.txEnabled ∧
    s.bayCutOut.line.txHeld = s.line.txHeld ∧ s.bayCutOut.line.notFollowing = s.line.notFollowing ∧
    s.bayCutOut.line.addressConflict = s.line.addressConflict ∧ s.bayCutOut.line.lineHeld = s.line.lineHeld ∧
    s.bayCutOut.line.conflictAborts = s.line.conflictAborts ∧ s.bayCutOut.report.house = s.report.house ∧
    s.bayCutOut.report.nextSecond = s.report.nextSecond ∧ s.bayCutOut.report.lastTime = s.report.lastTime ∧
    s.bayCutOut.report.townPresent = s.report.townPresent ∧ s.bayCutOut.screen = s.screen := by
  unfold State.bayCutOut
  (repeat' split) <;> simp

@[simp] theorem State.enterRunning_fields :
    s.enterRunning.pump.feedback = s.pump.feedback ∧ s.enterRunning.pump.guard = s.pump.guard ∧
    s.enterRunning.pump.failures = s.pump.failures ∧ s.enterRunning.pump.cooling = s.pump.cooling ∧
    s.enterRunning.pump.buckets = s.pump.buckets ∧ s.enterRunning.pump.runSeconds = s.pump.runSeconds ∧
    s.enterRunning.pump.nextHour = s.pump.nextHour ∧ s.enterRunning.pump.selector = s.pump.selector ∧
    s.enterRunning.staging.drawdownOffset = s.staging.drawdownOffset ∧
    s.enterRunning.staging.drawdownExpiry = s.staging.drawdownExpiry ∧
    s.enterRunning.staging.noticeMarks = s.staging.noticeMarks ∧
    s.enterRunning.staging.claimMarks = s.staging.claimMarks ∧
    s.enterRunning.line.txEnabled = s.line.txEnabled ∧ s.enterRunning.line.txHeld = s.line.txHeld ∧
    s.enterRunning.line.notFollowing = s.line.notFollowing ∧
    s.enterRunning.line.addressConflict = s.line.addressConflict ∧
    s.enterRunning.line.lineHeld = s.line.lineHeld ∧
    s.enterRunning.line.conflictAborts = s.line.conflictAborts ∧ s.enterRunning.report.house = s.report.house ∧
    s.enterRunning.report.nextSecond = s.report.nextSecond ∧
    s.enterRunning.report.lastTime = s.report.lastTime ∧ s.enterRunning.report.townPresent = s.report.townPresent := by
  simp [State.enterRunning]

@[simp] theorem State.failedTo_fields :
    s.failedTo.pump.feedback = s.pump.feedback ∧ s.failedTo.pump.guard = s.pump.guard ∧
    s.failedTo.pump.buckets = s.pump.buckets ∧ s.failedTo.pump.runSeconds = s.pump.runSeconds ∧
    s.failedTo.pump.nextHour = s.pump.nextHour ∧ s.failedTo.pump.selector = s.pump.selector ∧
    s.failedTo.staging.drawdownOffset = s.staging.drawdownOffset ∧
    s.failedTo.staging.drawdownExpiry = s.staging.drawdownExpiry ∧
    s.failedTo.staging.noticeMarks = s.staging.noticeMarks ∧
    s.failedTo.staging.claimMarks = s.staging.claimMarks ∧ s.failedTo.line.txEnabled = s.line.txEnabled ∧
    s.failedTo.line.txHeld = s.line.txHeld ∧ s.failedTo.line.notFollowing = s.line.notFollowing ∧
    s.failedTo.line.addressConflict = s.line.addressConflict ∧ s.failedTo.line.lineHeld = s.line.lineHeld ∧
    s.failedTo.line.conflictAborts = s.line.conflictAborts ∧ s.failedTo.report.house = s.report.house ∧
    s.failedTo.report.nextSecond = s.report.nextSecond ∧ s.failedTo.report.lastTime = s.report.lastTime ∧
    s.failedTo.report.townPresent = s.report.townPresent ∧ s.failedTo.screen = s.screen := by
  unfold State.failedTo
  dsimp only
  split
  · simp
  · simp
    apply State.movePump_screen
    dsimp only
    (repeat' split) <;> simp_all

@[simp] theorem State.failure_fields (k : AlarmKind) :
    (s.failure k).pump.feedback = s.pump.feedback ∧ (s.failure k).pump.guard = s.pump.guard ∧
    (s.failure k).pump.buckets = s.pump.buckets ∧ (s.failure k).pump.runSeconds = s.pump.runSeconds ∧
    (s.failure k).pump.nextHour = s.pump.nextHour ∧ (s.failure k).pump.selector = s.pump.selector ∧
    (s.failure k).staging.drawdownOffset = s.staging.drawdownOffset ∧
    (s.failure k).staging.drawdownExpiry = s.staging.drawdownExpiry ∧
    (s.failure k).staging.noticeMarks = s.staging.noticeMarks ∧
    (s.failure k).staging.claimMarks = s.staging.claimMarks ∧ (s.failure k).line.txEnabled = s.line.txEnabled ∧
    (s.failure k).line.txHeld = s.line.txHeld ∧ (s.failure k).line.notFollowing = s.line.notFollowing ∧
    (s.failure k).line.addressConflict = s.line.addressConflict ∧
    (s.failure k).line.lineHeld = s.line.lineHeld ∧ (s.failure k).line.conflictAborts = s.line.conflictAborts ∧
    (s.failure k).report.house = s.report.house ∧ (s.failure k).report.nextSecond = s.report.nextSecond ∧
    (s.failure k).report.lastTime = s.report.lastTime ∧
    (s.failure k).report.townPresent = s.report.townPresent ∧ (s.failure k).screen = s.screen := by
  simp [State.failure]

@[simp] theorem State.notProved_fields :
    s.notProved.pump.feedback = s.pump.feedback ∧ s.notProved.pump.guard = s.pump.guard ∧
    s.notProved.pump.buckets = s.pump.buckets ∧ s.notProved.pump.runSeconds = s.pump.runSeconds ∧
    s.notProved.pump.nextHour = s.pump.nextHour ∧ s.notProved.pump.selector = s.pump.selector ∧
    s.notProved.staging.drawdownOffset = s.staging.drawdownOffset ∧
    s.notProved.staging.drawdownExpiry = s.staging.drawdownExpiry ∧
    s.notProved.staging.noticeMarks = s.staging.noticeMarks ∧
    s.notProved.staging.claimMarks = s.staging.claimMarks ∧ s.notProved.line.txEnabled = s.line.txEnabled ∧
    s.notProved.line.txHeld = s.line.txHeld ∧ s.notProved.line.notFollowing = s.line.notFollowing ∧
    s.notProved.line.addressConflict = s.line.addressConflict ∧ s.notProved.line.lineHeld = s.line.lineHeld ∧
    s.notProved.line.conflictAborts = s.line.conflictAborts ∧ s.notProved.report.house = s.report.house ∧
    s.notProved.report.nextSecond = s.report.nextSecond ∧ s.notProved.report.lastTime = s.report.lastTime ∧
    s.notProved.report.townPresent = s.report.townPresent ∧ s.notProved.screen = s.screen := by
  simp [State.notProved]

@[simp] theorem State.proven_fields :
    s.proven.pump.feedback = s.pump.feedback ∧ s.proven.pump.guard = s.pump.guard ∧
    s.proven.pump.failures = s.pump.failures ∧ s.proven.pump.buckets = s.pump.buckets ∧
    s.proven.pump.runSeconds = s.pump.runSeconds ∧ s.proven.pump.nextHour = s.pump.nextHour ∧
    s.proven.pump.selector = s.pump.selector ∧ s.proven.staging.drawdownOffset = s.staging.drawdownOffset ∧
    s.proven.staging.drawdownExpiry = s.staging.drawdownExpiry ∧
    s.proven.staging.noticeMarks = s.staging.noticeMarks ∧ s.proven.staging.claimMarks = s.staging.claimMarks ∧
    s.proven.line.txEnabled = s.line.txEnabled ∧ s.proven.line.txHeld = s.line.txHeld ∧
    s.proven.line.notFollowing = s.line.notFollowing ∧ s.proven.line.addressConflict = s.line.addressConflict ∧
    s.proven.line.lineHeld = s.line.lineHeld ∧ s.proven.line.conflictAborts = s.line.conflictAborts ∧
    s.proven.report.house = s.report.house ∧ s.proven.report.nextSecond = s.report.nextSecond ∧
    s.proven.report.lastTime = s.report.lastTime ∧ s.proven.report.townPresent = s.report.townPresent := by
  unfold State.proven
  (repeat' split) <;> simp

@[simp] theorem State.feedbackInWindow_fields (w : ProvingWindow) :
    (s.feedbackInWindow w).pump.feedback = s.pump.feedback ∧ (s.feedbackInWindow w).pump.guard = s.pump.guard ∧
    (s.feedbackInWindow w).pump.failures = s.pump.failures ∧
    (s.feedbackInWindow w).pump.buckets = s.pump.buckets ∧
    (s.feedbackInWindow w).pump.runSeconds = s.pump.runSeconds ∧
    (s.feedbackInWindow w).pump.nextHour = s.pump.nextHour ∧
    (s.feedbackInWindow w).pump.selector = s.pump.selector ∧
    (s.feedbackInWindow w).staging.drawdownOffset = s.staging.drawdownOffset ∧
    (s.feedbackInWindow w).staging.drawdownExpiry = s.staging.drawdownExpiry ∧
    (s.feedbackInWindow w).staging.noticeMarks = s.staging.noticeMarks ∧
    (s.feedbackInWindow w).staging.claimMarks = s.staging.claimMarks ∧
    (s.feedbackInWindow w).line.txEnabled = s.line.txEnabled ∧
    (s.feedbackInWindow w).line.txHeld = s.line.txHeld ∧
    (s.feedbackInWindow w).line.notFollowing = s.line.notFollowing ∧
    (s.feedbackInWindow w).line.addressConflict = s.line.addressConflict ∧
    (s.feedbackInWindow w).line.lineHeld = s.line.lineHeld ∧
    (s.feedbackInWindow w).line.conflictAborts = s.line.conflictAborts ∧
    (s.feedbackInWindow w).report.house = s.report.house ∧
    (s.feedbackInWindow w).report.nextSecond = s.report.nextSecond ∧
    (s.feedbackInWindow w).report.lastTime = s.report.lastTime ∧
    (s.feedbackInWindow w).report.townPresent = s.report.townPresent := by
  unfold State.feedbackInWindow
  (repeat' split) <;> simp

@[simp] theorem State.setStartWish_fields (w : StartWish) :
    (s.setStartWish w).pump.feedback = s.pump.feedback ∧ (s.setStartWish w).pump.guard = s.pump.guard ∧
    (s.setStartWish w).pump.failures = s.pump.failures ∧ (s.setStartWish w).pump.cooling = s.pump.cooling ∧
    (s.setStartWish w).pump.buckets = s.pump.buckets ∧ (s.setStartWish w).pump.runSeconds = s.pump.runSeconds ∧
    (s.setStartWish w).pump.nextHour = s.pump.nextHour ∧ (s.setStartWish w).pump.selector = s.pump.selector ∧
    (s.setStartWish w).staging.drawdownOffset = s.staging.drawdownOffset ∧
    (s.setStartWish w).staging.drawdownExpiry = s.staging.drawdownExpiry ∧
    (s.setStartWish w).staging.noticeMarks = s.staging.noticeMarks ∧
    (s.setStartWish w).staging.claimMarks = s.staging.claimMarks ∧
    (s.setStartWish w).line.txEnabled = s.line.txEnabled ∧ (s.setStartWish w).line.txHeld = s.line.txHeld ∧
    (s.setStartWish w).line.notFollowing = s.line.notFollowing ∧
    (s.setStartWish w).line.addressConflict = s.line.addressConflict ∧
    (s.setStartWish w).line.lineHeld = s.line.lineHeld ∧
    (s.setStartWish w).line.conflictAborts = s.line.conflictAborts ∧
    (s.setStartWish w).report.house = s.report.house ∧
    (s.setStartWish w).report.nextSecond = s.report.nextSecond ∧
    (s.setStartWish w).report.lastTime = s.report.lastTime ∧
    (s.setStartWish w).report.townPresent = s.report.townPresent ∧ (s.setStartWish w).screen = s.screen := by
  unfold State.setStartWish
  (repeat' split) <;> simp

@[simp] theorem State.formA1_fields :
    s.formA1.staging.drawdownOffset = s.staging.drawdownOffset ∧
    s.formA1.staging.drawdownExpiry = s.staging.drawdownExpiry ∧
    s.formA1.staging.noticeMarks = s.staging.noticeMarks ∧ s.formA1.staging.claimMarks = s.staging.claimMarks ∧
    s.formA1.report.house = s.report.house ∧ s.formA1.report.nextSecond = s.report.nextSecond ∧
    s.formA1.report.lastTime = s.report.lastTime ∧ s.formA1.report.townPresent = s.report.townPresent := by
  simp [State.formA1]

@[simp] theorem State.peakLevel_fields :
    s.peakLevel.report.house = s.report.house ∧ s.peakLevel.report.nextSecond = s.report.nextSecond ∧
    s.peakLevel.report.lastTime = s.report.lastTime ∧ s.peakLevel.report.townPresent = s.report.townPresent := by
  unfold State.peakLevel
  split
  · simp
  · simp only [State.onReport_report]
    split <;> simp

@[simp] theorem State.formHouseLevel_fields :
    s.formHouseLevel.staging.drawdownOffset = s.staging.drawdownOffset ∧
    s.formHouseLevel.staging.drawdownExpiry = s.staging.drawdownExpiry ∧
    s.formHouseLevel.staging.noticeMarks = s.staging.noticeMarks ∧
    s.formHouseLevel.staging.claimMarks = s.staging.claimMarks := by
  simp [State.formHouseLevel]

@[simp] theorem State.formLevelSource_fields :
    s.formLevelSource.staging.drawdownOffset = s.staging.drawdownOffset ∧
    s.formLevelSource.staging.drawdownExpiry = s.staging.drawdownExpiry ∧
    s.formLevelSource.staging.noticeMarks = s.staging.noticeMarks ∧
    s.formLevelSource.staging.claimMarks = s.staging.claimMarks := by
  simp [State.formLevelSource]

@[simp] theorem State.formFloatMode_fields :
    s.formFloatMode.staging.drawdownOffset = s.staging.drawdownOffset ∧
    s.formFloatMode.staging.drawdownExpiry = s.staging.drawdownExpiry ∧
    s.formFloatMode.staging.noticeMarks = s.staging.noticeMarks ∧
    s.formFloatMode.staging.claimMarks = s.staging.claimMarks := by
  simp [State.formFloatMode]

@[simp] theorem State.formLatches_fields :
    s.formLatches.staging.drawdownOffset = s.staging.drawdownOffset ∧
    s.formLatches.staging.drawdownExpiry = s.staging.drawdownExpiry ∧
    s.formLatches.staging.noticeMarks = s.staging.noticeMarks ∧
    s.formLatches.staging.claimMarks = s.staging.claimMarks := by
  simp [State.formLatches]

@[simp] theorem State.formD_fields :
    s.formD.staging.drawdownOffset = s.staging.drawdownOffset ∧
    s.formD.staging.drawdownExpiry = s.staging.drawdownExpiry ∧
    s.formD.staging.noticeMarks = s.staging.noticeMarks ∧ s.formD.staging.claimMarks = s.staging.claimMarks := by
  simp [State.formD]

@[simp] theorem State.formDAuto_fields :
    s.formDAuto.staging.drawdownOffset = s.staging.drawdownOffset ∧
    s.formDAuto.staging.drawdownExpiry = s.staging.drawdownExpiry ∧
    s.formDAuto.staging.noticeMarks = s.staging.noticeMarks ∧
    s.formDAuto.staging.claimMarks = s.staging.claimMarks := by
  simp [State.formDAuto]

@[simp] theorem State.formRank_fields :
    s.formRank.staging.drawdownOffset = s.staging.drawdownOffset ∧
    s.formRank.staging.drawdownExpiry = s.staging.drawdownExpiry ∧
    s.formRank.staging.noticeMarks = s.staging.noticeMarks ∧ s.formRank.staging.claimMarks = s.staging.claimMarks := by
  simp [State.formRank]

@[simp] theorem State.formDelay_fields :
    s.formDelay.staging.drawdownOffset = s.staging.drawdownOffset ∧
    s.formDelay.staging.drawdownExpiry = s.staging.drawdownExpiry ∧
    s.formDelay.staging.noticeMarks = s.staging.noticeMarks ∧
    s.formDelay.staging.claimMarks = s.staging.claimMarks := by
  simp [State.formDelay]

@[simp] theorem State.formLimitHeld_fields :
    s.formLimitHeld.staging.drawdownOffset = s.staging.drawdownOffset ∧
    s.formLimitHeld.staging.drawdownExpiry = s.staging.drawdownExpiry ∧
    s.formLimitHeld.staging.noticeMarks = s.staging.noticeMarks ∧
    s.formLimitHeld.staging.claimMarks = s.staging.claimMarks := by
  simp [State.formLimitHeld]

@[simp] theorem State.formStopWish_fields :
    s.formStopWish.staging.drawdownOffset = s.staging.drawdownOffset ∧
    s.formStopWish.staging.drawdownExpiry = s.staging.drawdownExpiry ∧
    s.formStopWish.staging.noticeMarks = s.staging.noticeMarks ∧
    s.formStopWish.staging.claimMarks = s.staging.claimMarks := by
  simp [State.formStopWish]

@[simp] theorem State.formPicture_fields :
    s.formPicture.staging.drawdownOffset = s.staging.drawdownOffset ∧
    s.formPicture.staging.drawdownExpiry = s.staging.drawdownExpiry ∧
    s.formPicture.staging.noticeMarks = s.staging.noticeMarks ∧
    s.formPicture.staging.claimMarks = s.staging.claimMarks ∧ s.formPicture.line.txEnabled = s.line.txEnabled ∧
    s.formPicture.line.txHeld = s.line.txHeld ∧ s.formPicture.line.notFollowing = s.line.notFollowing ∧
    s.formPicture.line.addressConflict = s.line.addressConflict ∧
    s.formPicture.line.lineHeld = s.line.lineHeld ∧ s.formPicture.line.conflictAborts = s.line.conflictAborts := by
  simp [State.formPicture]

@[simp] theorem State.formWishes_fields :
    s.formWishes.1.staging.drawdownOffset = s.staging.drawdownOffset ∧
    s.formWishes.1.staging.drawdownExpiry = s.staging.drawdownExpiry ∧
    s.formWishes.1.staging.noticeMarks = s.staging.noticeMarks ∧
    s.formWishes.1.staging.claimMarks = s.staging.claimMarks ∧ s.formWishes.1.report.house = s.report.house ∧
    s.formWishes.1.report.nextSecond = s.report.nextSecond ∧
    s.formWishes.1.report.lastTime = s.report.lastTime ∧ s.formWishes.1.report.townPresent = s.report.townPresent := by
  simp [State.formWishes]

@[simp] theorem State.act_fields (w : State × StartWish) :
    (State.act w).pump.feedback = w.1.pump.feedback ∧ (State.act w).pump.guard = w.1.pump.guard ∧
    (State.act w).pump.failures = w.1.pump.failures ∧ (State.act w).pump.cooling = w.1.pump.cooling ∧
    (State.act w).pump.buckets = w.1.pump.buckets ∧ (State.act w).pump.runSeconds = w.1.pump.runSeconds ∧
    (State.act w).pump.nextHour = w.1.pump.nextHour ∧ (State.act w).pump.selector = w.1.pump.selector ∧
    (State.act w).staging.drawdownOffset = w.1.staging.drawdownOffset ∧
    (State.act w).staging.drawdownExpiry = w.1.staging.drawdownExpiry ∧
    (State.act w).staging.noticeMarks = w.1.staging.noticeMarks ∧
    (State.act w).staging.claimMarks = w.1.staging.claimMarks ∧
    (State.act w).line.txEnabled = w.1.line.txEnabled ∧ (State.act w).line.txHeld = w.1.line.txHeld ∧
    (State.act w).line.notFollowing = w.1.line.notFollowing ∧
    (State.act w).line.addressConflict = w.1.line.addressConflict ∧
    (State.act w).line.lineHeld = w.1.line.lineHeld ∧
    (State.act w).line.conflictAborts = w.1.line.conflictAborts ∧
    (State.act w).report.house = w.1.report.house ∧ (State.act w).report.nextSecond = w.1.report.nextSecond ∧
    (State.act w).report.lastTime = w.1.report.lastTime ∧
    (State.act w).report.townPresent = w.1.report.townPresent ∧ (State.act w).screen = w.1.screen := by
  simp [State.act]

@[simp] theorem State.evaluate_fields :
    s.evaluate.pump.feedback = s.pump.feedback ∧ s.evaluate.pump.guard = s.pump.guard ∧
    s.evaluate.pump.failures = s.pump.failures ∧ s.evaluate.pump.cooling = s.pump.cooling ∧
    s.evaluate.pump.buckets = s.pump.buckets ∧ s.evaluate.pump.runSeconds = s.pump.runSeconds ∧
    s.evaluate.pump.nextHour = s.pump.nextHour ∧ s.evaluate.pump.selector = s.pump.selector ∧
    s.evaluate.staging.drawdownOffset = s.staging.drawdownOffset ∧
    s.evaluate.staging.drawdownExpiry = s.staging.drawdownExpiry ∧
    s.evaluate.staging.noticeMarks = s.staging.noticeMarks ∧
    s.evaluate.staging.claimMarks = s.staging.claimMarks ∧ s.evaluate.line.txEnabled = s.line.txEnabled ∧
    s.evaluate.line.txHeld = s.line.txHeld ∧ s.evaluate.line.notFollowing = s.line.notFollowing ∧
    s.evaluate.line.addressConflict = s.line.addressConflict ∧ s.evaluate.line.lineHeld = s.line.lineHeld ∧
    s.evaluate.line.conflictAborts = s.line.conflictAborts ∧ s.evaluate.report.house = s.report.house ∧
    s.evaluate.report.nextSecond = s.report.nextSecond ∧ s.evaluate.report.lastTime = s.report.lastTime ∧
    s.evaluate.report.townPresent = s.report.townPresent ∧ s.evaluate.screen = s.screen := by
  unfold State.evaluate
  (repeat' split) <;> simp

@[simp] theorem State.floatDelay_fields (b : Bool) :
    (s.floatDelay b).staging.drawdownOffset = s.staging.drawdownOffset ∧
    (s.floatDelay b).staging.drawdownExpiry = s.staging.drawdownExpiry ∧
    (s.floatDelay b).staging.noticeMarks = s.staging.noticeMarks ∧
    (s.floatDelay b).staging.claimMarks = s.staging.claimMarks := by
  unfold State.floatDelay
  (repeat' split) <;> simp

@[simp] theorem State.floatStopWish_fields (b : Bool) :
    (s.floatStopWish b).staging.drawdownOffset = s.staging.drawdownOffset ∧
    (s.floatStopWish b).staging.drawdownExpiry = s.staging.drawdownExpiry ∧
    (s.floatStopWish b).staging.noticeMarks = s.staging.noticeMarks ∧
    (s.floatStopWish b).staging.claimMarks = s.staging.claimMarks := by
  unfold State.floatStopWish
  (repeat' split) <;> simp

@[simp] theorem State.floatWishes_fields (b c : Bool) :
    (s.floatWishes b c).pump.feedback = s.pump.feedback ∧ (s.floatWishes b c).pump.guard = s.pump.guard ∧
    (s.floatWishes b c).pump.failures = s.pump.failures ∧ (s.floatWishes b c).pump.cooling = s.pump.cooling ∧
    (s.floatWishes b c).pump.buckets = s.pump.buckets ∧
    (s.floatWishes b c).pump.runSeconds = s.pump.runSeconds ∧
    (s.floatWishes b c).pump.nextHour = s.pump.nextHour ∧ (s.floatWishes b c).pump.selector = s.pump.selector ∧
    (s.floatWishes b c).staging.drawdownOffset = s.staging.drawdownOffset ∧
    (s.floatWishes b c).staging.drawdownExpiry = s.staging.drawdownExpiry ∧
    (s.floatWishes b c).staging.noticeMarks = s.staging.noticeMarks ∧
    (s.floatWishes b c).staging.claimMarks = s.staging.claimMarks ∧
    (s.floatWishes b c).line.txEnabled = s.line.txEnabled ∧ (s.floatWishes b c).line.txHeld = s.line.txHeld ∧
    (s.floatWishes b c).line.notFollowing = s.line.notFollowing ∧
    (s.floatWishes b c).line.addressConflict = s.line.addressConflict ∧
    (s.floatWishes b c).line.lineHeld = s.line.lineHeld ∧
    (s.floatWishes b c).line.conflictAborts = s.line.conflictAborts ∧
    (s.floatWishes b c).report.house = s.report.house ∧
    (s.floatWishes b c).report.nextSecond = s.report.nextSecond ∧
    (s.floatWishes b c).report.lastTime = s.report.lastTime ∧
    (s.floatWishes b c).report.townPresent = s.report.townPresent ∧ (s.floatWishes b c).screen = s.screen := by
  unfold State.floatWishes
  (repeat' split) <;> simp

@[simp] theorem State.isolationTaken_fields :
    s.isolationTaken.pump.feedback = s.pump.feedback ∧ s.isolationTaken.pump.guard = s.pump.guard ∧
    s.isolationTaken.pump.failures = s.pump.failures ∧ s.isolationTaken.pump.cooling = s.pump.cooling ∧
    s.isolationTaken.pump.buckets = s.pump.buckets ∧ s.isolationTaken.pump.runSeconds = s.pump.runSeconds ∧
    s.isolationTaken.pump.nextHour = s.pump.nextHour ∧ s.isolationTaken.pump.selector = s.pump.selector ∧
    s.isolationTaken.staging.drawdownOffset = s.staging.drawdownOffset ∧
    s.isolationTaken.staging.drawdownExpiry = s.staging.drawdownExpiry ∧
    s.isolationTaken.staging.noticeMarks = s.staging.noticeMarks ∧
    s.isolationTaken.staging.claimMarks = s.staging.claimMarks ∧
    s.isolationTaken.line.txEnabled = s.line.txEnabled ∧ s.isolationTaken.line.txHeld = s.line.txHeld ∧
    s.isolationTaken.line.notFollowing = s.line.notFollowing ∧
    s.isolationTaken.line.addressConflict = s.line.addressConflict ∧
    s.isolationTaken.line.lineHeld = s.line.lineHeld ∧
    s.isolationTaken.line.conflictAborts = s.line.conflictAborts ∧
    s.isolationTaken.report.house = s.report.house ∧ s.isolationTaken.report.nextSecond = s.report.nextSecond ∧
    s.isolationTaken.report.lastTime = s.report.lastTime ∧
    s.isolationTaken.report.townPresent = s.report.townPresent ∧ s.isolationTaken.screen = s.screen := by
  unfold State.isolationTaken
  (repeat' split) <;> simp

@[simp] theorem State.isolationChange_fields (l : List Snapshot) (b : Bool) :
    (s.isolationChange l b).pump.feedback = s.pump.feedback ∧ (s.isolationChange l b).pump.guard = s.pump.guard ∧
    (s.isolationChange l b).pump.failures = s.pump.failures ∧
    (s.isolationChange l b).pump.cooling = s.pump.cooling ∧ (s.isolationChange l b).pump.buckets = s.pump.buckets ∧
    (s.isolationChange l b).pump.runSeconds = s.pump.runSeconds ∧
    (s.isolationChange l b).pump.nextHour = s.pump.nextHour ∧
    (s.isolationChange l b).pump.selector = s.pump.selector ∧
    (s.isolationChange l b).staging.drawdownOffset = s.staging.drawdownOffset ∧
    (s.isolationChange l b).staging.drawdownExpiry = s.staging.drawdownExpiry ∧
    (s.isolationChange l b).staging.noticeMarks = s.staging.noticeMarks ∧
    (s.isolationChange l b).staging.claimMarks = s.staging.claimMarks ∧
    (s.isolationChange l b).line.txEnabled = s.line.txEnabled ∧
    (s.isolationChange l b).line.txHeld = s.line.txHeld ∧
    (s.isolationChange l b).line.notFollowing = s.line.notFollowing ∧
    (s.isolationChange l b).line.addressConflict = s.line.addressConflict ∧
    (s.isolationChange l b).line.lineHeld = s.line.lineHeld ∧
    (s.isolationChange l b).line.conflictAborts = s.line.conflictAborts ∧
    (s.isolationChange l b).report.house = s.report.house ∧
    (s.isolationChange l b).report.nextSecond = s.report.nextSecond ∧
    (s.isolationChange l b).report.lastTime = s.report.lastTime ∧
    (s.isolationChange l b).report.townPresent = s.report.townPresent ∧ (s.isolationChange l b).screen = s.screen := by
  unfold State.isolationChange
  (repeat' split) <;> simp

end Sys2Proof.Machine
end

