-- ==== Sys2Proof/Laws/Selection.lean ====
section
/-! SUPPORT. What a selection of a report item and the offer behind it can do to the Line Interface and the Report Unit:
the REPORT slot, the attempt, the idle line and the model's note on the REPORT frame, and nothing else (R26, R177,
R178). -/

namespace Sys2Proof.Machine

variable (s : State)

theorem State.leaveField_apart :
    s.leaveField.line.apartFromReport = s.line.apartFromReport := by
  unfold State.leaveField
  (repeat' split) <;> simp [LineUnit.apartFromReport]

theorem State.withdraw_report_apart :
    (s.withdraw .report).line.apartFromReport = s.line.apartFromReport := by
  unfold State.withdraw
  split
  · simp [LineUnit.apartFromReport, LineUnit.setSlot]
  · split
    · rw [State.leaveField_apart]; simp [LineUnit.apartFromReport, LineUnit.setSlot]
    · simp [LineUnit.apartFromReport, LineUnit.setSlot]

theorem State.place_report_apart (f : Frame) :
    (s.place .report f).line.apartFromReport = s.line.apartFromReport := by
  unfold State.place
  dsimp only
  (repeat' split) <;> simp [LineUnit.apartFromReport, LineUnit.setSlot]

theorem State.emptyReport_apart :
    s.emptyReport.line.apartFromReport = s.line.apartFromReport ∧
    s.emptyReport.report.apartFromSlot = s.report.apartFromSlot := by
  simp [State.emptyReport, State.withdraw_report_apart, ReportUnit.apartFromSlot]

theorem State.fillReport_apart :
    s.fillReport.line.apartFromReport = s.line.apartFromReport ∧
    s.fillReport.report.apartFromSlot = s.report.apartFromSlot := by
  unfold State.fillReport
  (repeat' split) <;> simp [State.place_report_apart, ReportUnit.apartFromSlot]

theorem State.withdrawReport_apart :
    s.withdrawReport.line.apartFromReport = s.line.apartFromReport ∧
    s.withdrawReport.report.apartFromSlot = s.report.apartFromSlot := by
  unfold State.withdrawReport
  split
  · simp [State.fillReport_apart, State.emptyReport_apart]
  · refine ⟨?_, by simp⟩
    exact (rfl : _ = (s.withdraw .report).line.apartFromReport).trans s.withdraw_report_apart

theorem State.select_apart :
    s.select.line.apartFromReport = s.line.apartFromReport ∧
    s.select.report.apartFromSlot = s.report.apartFromSlot := by
  unfold State.select
  (repeat' split) <;> simp [State.fillReport_apart, State.withdrawReport_apart]

theorem State.offer_apart : s.offer.line.apartFromReport = s.line.apartFromReport := by
  unfold State.offer
  (repeat' split) <;> simp [LineUnit.apartFromReport]

/-- The selection and the offer that close a step change the REPORT slot, the attempt and the idle line, and nothing
else (R26, R177). -/
theorem State.finish_selects : State.SelectedFrom s s.finish := by
  refine ⟨by simp [State.SameBut], ?_, ?_⟩
  · simp [State.finish, State.offer_apart, State.select_apart]
  · simp [State.finish, State.select_apart]

end Sys2Proof.Machine
end

