-- ==== Sys2Proof/WellFormed.lean ====
section
/-! DEFINITION. Which commands can be given: the operand ranges that the rules set on what the commands carry. A
command outside them still has a meaning; it is one that the part's terminals cannot produce, or a frame that R31
discards. -/

namespace Sys2Proof

/-- The memory holds 256 bytes (R182). -/
def imageWf (image : List Byte) : Bool := image.length == 256

/-- A reply holds the byte that began it and at most its full length of four bytes (R6). -/
def replyWf (reply : List LinkByte) : Bool := decide (1 ≤ reply.length) && decide (reply.length ≤ 4)

/-- A bay station's sender field (R24). -/
def bayWf (sender : BitVec 4) : Bool := decide (1 ≤ sender.toNat) && decide (sender.toNat ≤ 12)

/-- A payload of the length that a frame's class permits (R24). -/
def lengthWf (n : Nat) (payload : List Byte) : Bool := payload.length == n

/-- A day runs to 86,399 s (R167). -/
def secondWf (second : BitVec 24) : Bool := decide (second.toNat < 86400)

/-- A payload whose kind byte is not one of the four known (R32, 12.5), of at most 24 bytes (R23). -/
def unknownKindWf : List Byte → Bool
  | [] => false
  | kind :: rest => decide (kind.toNat = 0 ∨ 4 < kind.toNat) && decide (rest.length ≤ 23)

/-- The classes that a bay station sends (R24). -/
def bayClassWf (cls : BitVec 3) : Bool := decide (cls.toNat ≠ 2) && decide (cls.toNat ≠ 7)

/-- A command with operands in their ranges. -/
def Instr.wellFormed : Instr → Bool
  | .powerUp => true
  | .resetPress _ => true
  | .latchReset _ => true
  | .restart _ => true
  | .strapsDecided _ _ => true
  | .strapsTimeout _ => true
  | .memoryAttemptStart _ => true
  | .memoryNotAcknowledged _ => true
  | .memoryReadComplete _ image => imageWf image
  | .endOfStartUp _ => true
  | .probeCycleBegin _ => true
  | .read _ => true
  | .identify _ => true
  | .noReply _ => true
  | .probeReplyEnd _ reply => replyWf reply
  | .probeByteDiscarded _ _ => true
  | .floatExcitation _ _ _ => true
  | .lineIdle _ => true
  | .arbitrationLost _ => true
  | .frameCommitted _ => true
  | .frameComplete _ => true
  | .notFollowing _ => true
  | .arbitrationReadbackFault _ => true
  | .readbackMismatch _ => true
  | .txHeld _ => true
  | .lineHeld _ => true
  | .frameDiscarded _ _ => true
  | .addressConflict _ cls _ => bayClassWf cls
  | .status _ sender payload => bayWf sender && lengthWf 9 payload
  | .claim _ sender payload => bayWf sender && lengthWf 3 payload
  | .spillNotice _ sender payload => bayWf sender && lengthWf 19 payload
  | .alarmReport _ sender payload => bayWf sender && lengthWf 22 payload
  | .spillRecord _ sender payload => bayWf sender && lengthWf 21 payload
  | .intervalReport _ sender payload => bayWf sender && lengthWf 24 payload
  | .time _ _ second => secondWf second
  | .closeInterval _ => true
  | .drawdown _ _ _ => true
  | .acceptAlarms _ => true
  | .unknownTownKind _ payload => unknownKindWf payload
  | .peerStale _ _ => true
  | .peerAbsent _ _ => true
  | .isolatedStartDelayEnd _ => true
  | .drawdownExpiry _ => true
  | .runClockSecond _ => true
  | .creditHour _ => true
  | .guardExpiry _ => true
  | .claimTimeEnd _ => true
  | .fallbackTimeEnd _ => true
  | .runFeedbackChange _ _ => true
  | .proofTimeEnd _ => true
  | .feedbackLost _ => true
  | .provingRunEnd _ => true
  | .minRunEnd _ => true
  | .stopDelayEnd _ => true
  | .releaseTimeEnd _ => true
  | .feedbackWithoutCommand _ => true
  | .coolingTimeEnd _ => true
  | .minOffEnd _ => true
  | .supplyStateChange _ _ => true
  | .pumpSelectorMove _ _ => true
  | .screenSelectorMove _ _ => true
  | .rakeNow _ => true
  | .differentialTrigger _ => true
  | .intervalTrigger _ => true
  | .camChange _ _ => true
  | .forwardTimeLimit _ => true
  | .rakeOvercurrentInput _ _ => true
  | .overcurrent _ => true
  | .reverseEnergise _ => true
  | .reversingEnd _ => true
  | .pauseEnd _ => true
  | .blindSet _ => true
  | .blindClear _ => true
  | .rearm _ _ => true
  | .accept _ => true
  | .townAbsent _ => true
  | .intervalBoundary _ => true
  | .intervalLengthLimit _ => true
  | .startBitRead _ => true
  | .buttonRelease _ _ => true

end Sys2Proof
end

