-- ==== Sys2Proof/Tests/Slice0.lean ====
section
/-! SUPPORT. Tests by evaluation: the smoke tests of WellFormed, one small test for each command with the value the
manual gives, and for each obligation with hypotheses a witness that its hypotheses can be met. -/

namespace Sys2Proof.Tests

open Sys2Proof.Machine

/-! ### States to start from -/

/-- Settings of the manual's worked cases: a rating table (7.3), a digest (10.5), and a cut-out of 700 mm. -/
def settings : Settings :=
  { Settings.fallback with
    levels := some ⟨true, true, true, 0, 0, 0, 700, 50, 2300⟩
    stages := some ⟨[(1200, 900), (1450, 1100), (1700, 1300)], 300⟩
    screen := some ⟨150, 400, 0, true⟩
    weir := some ⟨true, 1400, 10, 5, 60, 300, [(0, 0), (50, 120), (100, 340), (200, 960), (400, 2720)]⟩ }

/-- Station 3 after the end of start-up, READY in Auto with a HEALTHY supply, its transmitter enabled. -/
def up : State :=
  { State.reset with
    now := 100000
    startUp := { StartUp.initial with
      step := .ended, endedAt := some 3000, runClock := 97, address := some 2, settings := some settings, memory := .read
      checksum := .passed, valid := ⟨true, true, true, true, true, true, true⟩ }
    line := { LineUnit.initial with txEnabled := true }
    pump := { Pump.initial with state := .ready, selector := .auto, nextHour := some 3603000 }
    supply := ⟨true, false, false⟩
    screen := { Screen.initial with selector := .auto }
    weir := ⟨true, none, none, .dry, 0, []⟩
    report := { ReportUnit.initial with nextSecond := some 101000, interval := some ⟨.initial, 0, false, true, none⟩ } }

/-- The same station in a step of start-up. -/
def during (step : StartUpStep) : State :=
  { up with
    startUp := { up.startUp with step := step, endedAt := none, stepBegan := 99000 }
    line := .initial
    pump := { Pump.initial with selector := .auto } }

/-- The same station with another pump. -/
def withPump (p : Pump) : State := { up with pump := p }

/-- The same station with its screen in another state. -/
def withScreen (c : Screen) : State := { up with screen := c }

/-- The same station with a frame of its own on the line. -/
def sending (i : SlotId) (f : Frame) (committed : Bool) : State :=
  { up with line := { up.line.setSlot i ⟨some f, none⟩ with attempt := some ⟨i, committed⟩ } }

/-- The state a command leaves. -/
def after (c : Instr) (s : State) : State :=
  match exec c s with
  | .next t => t
  | .fault _ => s
  | .refused _ => s

/-- The same state with no alarm kind reported, so that no snapshot is latched. -/
def quiet (s : State) : State :=
  { s with startUp := { s.startUp with settings := some { settings with alarms := .all ⟨false, false, true⟩ } } }

def proving : Pump := { up.pump with state := .proving, window := some ⟨100000, 103000⟩ }
def running : Pump := { up.pump with state := .running, feedback := true, provingRun := some 160000 }
def stopping : Pump := { up.pump with state := .stopping, feedback := true, releaseTime := some 102000 }
def claiming : Pump := { up.pump with state := .claiming, claimPhase := some .waiting, claimTime := some 102000 }
def fallback : Pump := { up.pump with state := .claiming, claimPhase := some .fallback, fallbackTime := some 108000 }
def withdrawing : Pump := { claiming with claimPhase := some .withdrawing, claimTime := none }
def inHand (phase : HandPhase) (claim : HandClaim) : Pump :=
  { up.pump with
    state := .hand, handPhase := some phase, handClaim := some claim, selector := .hand, feedback := decide (phase = .proved)
    window := if phase = .window then some ⟨100000, 103000⟩ else none }
def cooling : Pump := { up.pump with state := .cooling, cooling := some 200000, failures := 3 }
def locked : Pump := { up.pump with state := .locked, lockCause := some .earlyProof }

def forward : Screen := { up.screen with state := .forward, camStage := some .waitClose, camClosed := false }
def reversing : Screen :=
  { up.screen with state := .reversing, stateTimer := some 103000, energiseAt := some 100200, retries := 1 }

/-- A STATUS payload: 2,310 mm, READY, auto and available, credit 180, digest 7,971 (12.4). -/
def statusPayload : List Byte := [0x09, 0x06, 3, 3, 0, 180, 0x1F, 0x23, 0]

/-- A SPILL NOTICE payload, open. -/
def noticePayload : List Byte := List.replicate 19 0

/-! ### WellFormed -/

theorem test_wf_image : (Instr.memoryReadComplete 0 [0]).wellFormed = false := by decide
theorem test_wf_reply : (Instr.probeReplyEnd 0 []).wellFormed = false := by decide
theorem test_wf_sender : (Instr.status 0 13 statusPayload).wellFormed = false := by decide
theorem test_wf_length : (Instr.claim 0 1 [0, 0]).wellFormed = false := by decide
theorem test_wf_second : (Instr.time 0 0 86400).wellFormed = false := by decide
theorem test_wf_kind : (Instr.unknownTownKind 0 [4]).wellFormed = false := by decide
theorem test_wf_class : (Instr.addressConflict 0 2 []).wellFormed = false := by decide
theorem test_wf_good : (Instr.status 0 12 statusPayload).wellFormed = true := by decide

/-! ### Worked cases of the manual -/

/-- 3.3, a house level: 2,290, 2,305, 2,310 and 2,330 give 2,310. -/
theorem test_house_level : median [2310, 2290, 2305, 2330] = some 2310 := by decide

/-- 7.3, reading the rating table: heads of 137, 12, 60, 50 and 450 mm. -/
theorem test_rating : [137, 12, 60, 50, 450].map (ratedFlow [(0, 0), (50, 120), (100, 340), (200, 960), (400, 2720)]) =
    [569, 28, 164, 120, 2720] := by decide

/-- 10.5, the digest of stations 1 to 3. -/
theorem test_digest : { settings with general := .builtIn }.digest = 7971 := by decide

/-- R9: 2,190 with an offset of +120, and 150 with an offset of -400. -/
theorem test_datum : toDatum 120 2190 = 2310 ∧ toDatum (-400) 150 = 0 ∧ toDatum 120 9999 = 9999 := by decide

/-- R3: the byte 0x21, 0010 0001, has two ones, so its parity bit is 1 (levels of start and stop: log entry 37). -/
theorem test_serial : serialBits (sentByte 0x21) =
    [false, true, false, false, false, false, true, false, false, true, true] := by decide

/-- R107: the four rows of the decode table. -/
theorem test_selector : selectorPosition ⟨false, false⟩ = .off ∧ selectorPosition ⟨true, false⟩ = .hand ∧
    selectorPosition ⟨false, true⟩ = .auto ∧ selectorPosition ⟨true, true⟩ = .off := by decide

/-- 3.5, a drawdown against the floor: stages 1 and 2 at 1,160 mm with an offset of 300. -/
theorem test_latches :
    latchAfter 1160 (applied 1000 300 1200) (applied 1000 300 900) false = true ∧
    latchAfter 1000 (applied 1000 300 1450) (applied 1000 300 1100) true = false := by decide

/-! ### One test for each command -/

theorem test_powerUp : (after .powerUp up).startUp.step = .straps := by decide
theorem test_resetPress : (after (.resetPress 7) up).startUp.resetButton = .pressed 100007 := by decide
theorem test_latchReset : (after (.latchReset 0) { withPump cooling with
    startUp := { up.startUp with resetButton := .pressed 99000 } }).pump.state = .ready := by decide
theorem test_restart : (after (.restart 0) { up with
    startUp := { up.startUp with resetButton := .pressed 95000 } }).startUp.step = .straps := by decide
theorem test_strapsDecided : (after (.strapsDecided 0 12) (during .straps)).startUp.address = some 11 := by decide
theorem test_strapsTimeout : (after (.strapsTimeout 0) { during .straps with
    startUp := { (during .straps).startUp with stepBegan := 100000 } }).now = 101000 := by decide
theorem test_memoryAttemptStart : (after (.memoryAttemptStart 0) { during .memory with
    startUp := { (during .memory).startUp with attemptDue := some 100010, attempts := 1 } }).startUp.attempts = 2 := by
  decide
theorem test_memoryNotAcknowledged : (after (.memoryNotAcknowledged 0) { during .memory with
    startUp := { (during .memory).startUp with attemptOpen := true, attempts := 2 } }).startUp.attemptDue =
      some 100010 := by decide
set_option maxRecDepth 4000 in
theorem test_memoryReadComplete : (after (.memoryReadComplete 0 (List.replicate 255 0 ++ [1])) { during .memory with
    startUp := { (during .memory).startUp with attemptOpen := true, attempts := 1 } }).startUp.checksum = .failed := by
  decide
theorem test_endOfStartUp : (after (.endOfStartUp 0) (during .listen)).pump.state = .ready := by decide
theorem test_probeCycleBegin : (after (.probeCycleBegin 0) { up with
    probes := { up.probes with bay := { up.probes.bay with fitted := true }, nextCycle := some 100500 } }).probes.exchange =
      some ⟨.bay, false, 0, .due 100500⟩ := by decide
theorem test_read : (after (.read 0) { up with
    probes := { up.probes with exchange := some ⟨.weir, false, 0, .due 100005⟩ } }).probeRequest =
      some [⟨3, true, true⟩, ⟨0x21, true, true⟩] := by decide
theorem test_identify : (after (.identify 0) { up with
    probes := { up.probes with exchange := some ⟨.bay, true, 0, .due 100005⟩ } }).probeRequest =
      some [⟨1, false, true⟩, ⟨0x49, false, true⟩] := by decide
theorem test_noReply : (after (.noReply 0) { up with
    probes := { up.probes with exchange := some ⟨.bay, false, 2, .window 100020⟩, queue := [.weir] } }).probes.outcomes =
      [(.bay, .miss)] := by decide
theorem test_probeReplyEnd : (after (.probeReplyEnd 0 ([0x08, 0x8E, 0, 0x69].map sentByte)) { up with
    probes := { up.probes with
      bay := { up.probes.bay with offset := 120 }, exchange := some ⟨.bay, false, 0, .window 100020⟩
      queue := [.weir] } }).probes.outcomes = [(.bay, .sample 2310 .clear)] := by decide
theorem test_probeByteDiscarded : (after (.probeByteDiscarded 3 ⟨0, true, true⟩) up).probes = up.probes := by decide
theorem test_floatExcitation : (after (.floatExcitation 0 .high .closed) { up with
    floats := { up.floats with high := ⟨.opened, some .closed, .opened⟩, stop := ⟨.closed, none, .closed⟩
                               turn := .high, pulseAt := 99980 } }).staging.a1 = true := by decide
theorem test_lineIdle : (after (.lineIdle 0) { up with
    line := { up.line with status := ⟨some (.claim 0 0), none⟩, report := ⟨some (.claim 0 0), none⟩ } }).line.attempt =
      some ⟨.status, false⟩ := by decide
theorem test_arbitrationLost :
    (after (.arbitrationLost 0) (sending .claim (.claim 3 180) false)).line.claim.frame = some (.claim 3 180) := by decide
theorem test_frameCommitted :
    (after (.frameCommitted 0) (sending .claim (.claim 3 180) false)).line.committed .claim = true := by decide
theorem test_frameComplete : (after (.frameComplete 0) { sending .claim (.claim 3 180) true with
    pump := claiming }).pump.state = .proving := by decide
theorem test_notFollowing : (after (.notFollowing 0) (sending .status (.claim 0 0) false)).line.notFollowingCount = 1 := by
  decide
/-- An own attempt ended by a readback fault is a line error (R29, R34). -/
theorem test_notFollowing_error :
    (after (.notFollowing 0) (sending .status (.claim 0 0) false)).report.accumulated.lineErrors.value = 1 := by decide
theorem test_arbitrationReadbackFault :
    (after (.arbitrationReadbackFault 0) (sending .status (.claim 0 0) false)).report.accumulated.lineErrors.value = 1 := by
  decide
theorem test_readbackMismatch :
    (after (.readbackMismatch 0) (sending .status (.claim 0 0) true)).line.conflictAborts = 1 := by decide
theorem test_txHeld : (after (.txHeld 0) up).line.txEnabled = false := by decide
theorem test_lineHeld : (after (.lineHeld 0) up).isolated = true := by decide
theorem test_frameDiscarded :
    (after (.frameDiscarded 0 [true]) up).report.accumulated.lineErrors.value = 1 := by decide
theorem test_addressConflict : (after (.addressConflict 0 3 statusPayload) up).line.addressConflict = true := by decide
theorem test_status : ((after (.status 0 4 statusPayload) up).peers.get 3).level = some 2310 := by decide
theorem test_claim : (after (.claim 0 4 [3, 0, 180]) up).pump.guard = some 112000 := by decide
theorem test_spillNotice : (after (.spillNotice 0 4 noticePayload) up).staging.noticeMarks.get 3 = true := by decide
theorem test_alarmReport :
    ((after (.alarmReport 0 4 (List.replicate 22 0)) up).peers.get 3).presence = .fresh := by decide
theorem test_spillRecord :
    ((after (.spillRecord 0 4 (List.replicate 21 0)) up).peers.get 3).presence = .fresh := by decide
theorem test_intervalReport :
    ((after (.intervalReport 0 4 (List.replicate 24 0)) up).peers.get 3).presence = .fresh := by decide
theorem test_time : (after (.time 0 5 86399) up).report.house = ⟨5, 86399, true⟩ := by decide
theorem test_closeInterval : (after (.closeInterval 0) { up with
    startUp := { up.startUp with settings := some { settings with reporting := ⟨false, 0⟩ } } }).report.queue.length = 1 := by
  decide
theorem test_drawdown : (after (.drawdown 0 400 180) up).staging.drawdownOffset = 300 := by decide
theorem test_acceptAlarms : (after (.acceptAlarms 0) { up with
    alarms := up.alarms.set 0 { AlarmRecord.initial with accepted := false } }).horn = false := by decide
theorem test_unknownTownKind : (after (.unknownTownKind 0 [9]) up).report.accumulated.lineErrors.value = 0 := by decide
theorem test_peerStale : ((after (.peerStale 0 3) { up with
    peers := up.peers.set 3 { PeerEntry.initial with presence := .fresh, age := 3400 } }).peers.get 3).presence = .stale := by
  decide
theorem test_peerAbsent : ((after (.peerAbsent 0 3) { up with
    peers := up.peers.set 3 { PeerEntry.initial with presence := .stale, credit := 9, age := 4000 } }).peers.get 3).credit =
      0 := by decide
theorem test_isolatedStartDelayEnd : (after (.isolatedStartDelayEnd 0) { up with
    line := { up.line with lineHeld := true }
    floats := { up.floats with start := ⟨.closed, none, .closed⟩, stop := ⟨.closed, none, .closed⟩ }
    staging := { up.staging with startDelay := .running 100004 } }).pump.state = .proving := by decide
theorem test_drawdownExpiry : (after (.drawdownExpiry 0) { up with
    staging := { up.staging with drawdownOffset := 300, drawdownExpiry := some 98 } }).staging.drawdownOffset = 0 := by
  decide
theorem test_runClockSecond : (after (.runClockSecond 0) { withPump { running with runSeconds := 59 } with
    report := { up.report with house := ⟨65535, 86399, true⟩ } }).report.house = ⟨0, 0, true⟩ := by decide
theorem test_creditHour :
    (after (.creditHour 0) (withPump { up.pump with buckets := [60, 5] })).pump.buckets = [5, 0] := by decide
theorem test_guardExpiry : (after (.guardExpiry 0) { withPump { up.pump with guard := some 100009 } with
    staging := { up.staging with startWish := .claimed } }).pump.state = .claiming := by decide
theorem test_claimTimeEnd : (after (.claimTimeEnd 0) (withPump claiming)).pump.fallbackTime = some 108000 := by decide
theorem test_fallbackTimeEnd : (after (.fallbackTimeEnd 0) (withPump fallback)).pump.state = .proving := by decide
theorem test_runFeedbackChange : (after (.runFeedbackChange 40 true) (withPump proving)).pump.state = .locked := by decide
theorem test_runFeedbackChange_proved :
    (after (.runFeedbackChange 41 true) { withPump proving with
      floats := { up.floats with stop := ⟨.closed, none, .closed⟩ } }).pump.state = .running := by decide
/-- Feedback that arrives 1.9 s after the opening of a supply loss is timed from the opening (R104). -/
theorem test_runFeedbackChange_opened : (after (.runFeedbackChange 900 true)
    (withPump { up.pump with openedAt := some 99000 })).pump.strayTimer = some 101000 := by decide
theorem test_proofTimeEnd : (after (.proofTimeEnd 0) (quiet (withPump proving))).pump.failures = 1 := by decide
theorem test_feedbackLost : (after (.feedbackLost 0) (quiet (withPump { running with
    lossTimer := some 101000, failures := 2 }))).pump.state = .cooling := by decide
theorem test_provingRunEnd : (after (.provingRunEnd 0) (withPump { running with failures := 2 })).pump.failures = 0 := by
  decide
theorem test_minRunEnd : (after (.minRunEnd 0) { withPump { running with minRun := some 100001 } with
    staging := { up.staging with stopWish := true } }).pump.stopDelay = some 110001 := by decide
theorem test_stopDelayEnd : (after (.stopDelayEnd 0) { withPump { running with stopDelay := some 100001 } with
    staging := { up.staging with stopWish := true } }).pump.state = .stopping := by decide
theorem test_releaseTimeEnd : (after (.releaseTimeEnd 0) (withPump stopping)).pump.lockCause = some .notReleasing := by
  decide
theorem test_feedbackWithoutCommand : (after (.feedbackWithoutCommand 0) (withPump { up.pump with
    feedback := true, strayTimer := some 102000 })).pump.lockCause = some .withoutCommand := by decide
theorem test_coolingTimeEnd : (after (.coolingTimeEnd 0) (withPump cooling)).pump.state = .ready := by decide
theorem test_minOffEnd : (after (.minOffEnd 0) (withPump { up.pump with minOff := some 100001 })).pump.minOff = none := by
  decide
theorem test_supplyStateChange :
    (after (.supplyStateChange 0 false) (quiet (withPump running))).pump.state = .ready := by decide
theorem test_pumpSelectorMove : (after (.pumpSelectorMove 0 ⟨true, false⟩) up).pump.handPhase = some .window := by decide
/-- Feedback that is being timed in READY is timed from the move to Off (R108). -/
theorem test_pumpSelectorMove_off : (after (.pumpSelectorMove 0 ⟨false, false⟩)
    (withPump { up.pump with feedback := true, strayTimer := some 100500 })).pump.strayTimer = some 102000 := by decide
theorem test_screenSelectorMove : (after (.screenSelectorMove 0 .off) (withScreen forward)).screen.state = .out := by
  decide
theorem test_rakeNow : (after (.rakeNow 0) up).rakeForward = true := by decide
theorem test_differentialTrigger : (after (.differentialTrigger 0) (withScreen { up.screen with
    differentialSince := some 95000 })).screen.differentialSince = some 105000 := by decide
theorem test_intervalTrigger : (after (.intervalTrigger 0) (withScreen { up.screen with
    intervalAt := some 100005 })).screen.intervalAt = some 1900005 := by decide
theorem test_camChange : (after (.camChange 0 true) (withScreen forward)).report.accumulated.rakeCycles.value = 1 := by
  decide
theorem test_forwardTimeLimit : (after (.forwardTimeLimit 0) (withScreen forward)).screen.jamCause = some .noCycleProof := by
  decide
theorem test_rakeOvercurrentInput :
    (after (.rakeOvercurrentInput 0 true) (withScreen forward)).screen.overcurrentSince = some 100000 := by decide
theorem test_overcurrent : (after (.overcurrent 0) (withScreen { forward with
    overcurrentSince := some 100000, retries := 2 })).screen.stateTimer = some 103500 := by decide
theorem test_reverseEnergise : (after (.reverseEnergise 0) (withScreen reversing)).rakeReverse = true := by decide
theorem test_reversingEnd : (after (.reversingEnd 0) (withScreen reversing)).screen.stateTimer = some 105000 := by decide
theorem test_pauseEnd : (after (.pauseEnd 0) (withScreen { up.screen with
    state := .pause, stateTimer := some 102000, retries := 2 })).screen.retries = 3 := by decide
theorem test_blindSet : (after (.blindSet 0) (withScreen { up.screen with
    blindSetSince := some 90000 })).screen.blinded = true := by decide
theorem test_blindClear : (after (.blindClear 0) (withScreen { up.screen with
    blinded := true, blindClearSince := some 90000 })).screen.blinded = false := by decide
theorem test_rearm : ((after (.rearm 0 .a3) { up with alarms := up.alarms.set 2 { AlarmRecord.initial with
    armed := false, normalSince := some 50000 } }).alarm .a3).armed = true := by decide
theorem test_accept : (after (.accept 0) { up with
    alarms := up.alarms.set 0 { AlarmRecord.initial with accepted := false, abnormal := true } }).beacon = .steady := by
  decide
theorem test_townAbsent : (after (.townAbsent 0) { up with
    report := { up.report with lastTime := some 50000, townPresent := true } }).report.townPresent = false := by decide
theorem test_intervalBoundary : (after (.intervalBoundary 0) { up with
    report := { up.report with
      house := ⟨1, 3600, true⟩, interval := some ⟨.initial, 3600, false, true, some (1, 3600)⟩ } }).report.queue.length =
        1 := by decide
theorem test_intervalLengthLimit : (after (.intervalLengthLimit 0) { up with
    report := { up.report with interval := some ⟨.initial, 86400, false, true, none⟩ } }).report.queue.length = 1 := by
  decide
theorem test_startBitRead : (after (.startBitRead 0) { up with line := { up.line with idle := true } }).line.idle = false := by
  decide
theorem test_buttonRelease : (after (.buttonRelease 0 .accept) { up with
    panel := { up.panel with accept := true } }).panel.accept = false := by decide

/-! ### Witnesses

For each obligation with hypotheses, states and operands that meet the hypotheses of its clauses, at the ends of
their ranges where they have ends. -/

/-- A station with an exchange in its reply window. -/
def asking (p : ProbeId) (identify : Bool) (repeats : Nat) (rest : List ProbeId) : State :=
  { up with probes := { up.probes with
      bay := { up.probes.bay with fitted := true, misses := 3 }, channel := { up.probes.channel with fitted := true }
      exchange := some ⟨p, identify, repeats, .window 100020⟩, queue := rest } }

/-- A station whose reset button has been held since a moment. -/
def held (since : Nat) (s : State) : State := { s with startUp := { s.startUp with resetButton := .pressed since } }

/-- A station with another line. -/
def withLine (u : LineUnit) : State := { up with line := u }

/-- A station without the end of its start-up. -/
def early (s : State) : State := { s with startUp := { s.startUp with step := .listen, endedAt := none } }

/-- A station with no pump fitted. -/
def unfitted : State :=
  { up with startUp := { up.startUp with settings := some { settings with
      general := { GeneralSettings.builtIn with pumpFitted := false } } } }

/-- A station isolated by a latched line fault. -/
def cutOff : State := withLine { up.line with txEnabled := false, notFollowing := true }

theorem witness_StepTakesTheFrontCommand :
    ({ up with pending := [.powerUp] } : State).pending = .powerUp :: [] := by decide

theorem witness_EmptyQueueLetsOneMillisecondPass :
    State.reset.pending = [] ∧ State.reset.startUp.endedAt = none ∧ up.pending = [] ∧ up.startUp.endedAt = some 3000 ∧
    up.startUp.address ≠ some 11 ∧ up.startUp.address = some 2 ∧
    (withScreen { forward with forwardMs := 120000 }).pending = [] ∧
    (withScreen { forward with forwardMs := 120000 }).screen.state = .forward ∧ up.screen.state ≠ .forward := by decide

theorem witness_RestartTakesPowerUpValues :
    (true = true → (held 95000 up).startUp.resetButton = .pressed 95000) ∧
    (false = true → up.startUp.resetButton = .pressed 0) := by decide

theorem witness_PanelButtons :
    ({ up with panel := ⟨false, true, true⟩ } : State).panel.reset = true ∧
    ({ up with panel := ⟨false, true, true⟩ } : State).panel.accept = true ∧
    up.panel.reset = false ∧ up.panel.accept = false ∧ up.ended ∧ ¬ (during .straps).ended ∧
    (during .straps).panel.reset = false ∧ (during .straps).panel.accept = false ∧
    up.startUp.resetButton = .released ∧ (held 99000 up).startUp.resetButton ≠ .released := by decide

theorem witness_LatchResetClearsLatches :
    (held 95001 (withPump cooling)).startUp.resetButton = .pressed 95001 ∧ 100000 + 0 < 95001 + 5000 ∧
    (held 100000 (withScreen { up.screen with state := .jammed, jamCause := some .overcurrent })).screen.state =
      .jammed ∧
    (∀ p ∈ [locked, cooling, { locked with selector := .hand }, { locked with selector := .hand, feedback := true },
        { cooling with selector := .off }],
      p.state = .locked ∨ p.state = .cooling) ∧
    (after (.latchReset 0) (held 95001 (withPump locked))).pump.state ≠ .locked ∧
    (after (.latchReset 0) (held 95001 (withPump locked))).isolated = (held 95001 (withPump locked)).isolated ∧
    cutOff.isolated = true ∧ up.general.pumpFitted = true ∧ unfitted.general.pumpFitted = false ∧
    locked.selector = .auto ∧ locked.feedback = false ∧ up.supply.healthy = true ∧
    ({ up with supply := .initial } : State).supply.healthy = false := by decide

theorem witness_StrapsAndMemoryAttempts :
    (during .straps).startUp.step = .straps ∧ (during .straps).now + 0 ≤ (during .straps).startUp.stepBegan + 1000 ∧
    (1 : BitVec 4).toNat = BayAddress.number 0 ∧ (12 : BitVec 4).toNat = BayAddress.number 11 ∧
    (0 : BitVec 4).toNat = 0 ∧ 12 < (13 : BitVec 4).toNat ∧ (during .memory).startUp.step = .memory ∧
    ({ (during .memory).startUp with attemptDue := some 100000 } : StartUp).attemptDue = some 100000 ∧
    ({ (during .memory).startUp with attemptOpen := true, attempts := 2 } : StartUp).attemptOpen = true ∧ 2 < 3 := by
  decide

theorem witness_MemoryStepEnds :
    let s : State := { during .memory with
      startUp := { (during .memory).startUp with attemptOpen := true, attempts := 3 } }
    s.startUp.step = .memory ∧ (s.startUp.attemptOpen = true ∧ 3 ≤ s.startUp.attempts ∧ s.startUp.address = some 2) ∧
    (List.replicate 256 (0 : Byte)).length = 256 := ⟨by decide, by decide, List.length_replicate⟩

/-- A memory of the map's bytes with every setting in its range and a checksum that fits: two stages, a weir with two
rating points, every alarm kind enabled, a 60 min interval. -/
def goodImage : List Byte :=
  [1, 6, 12, 3, 0, 120, 0, 60, 10, 0] ++ List.replicate 6 0 ++
    [7, 0, 0, 0, 0, 0xFF, 0x38, 0x02, 0xBC, 0, 50, 0x08, 0xFC] ++ List.replicate 3 0 ++
    [2, 0x01, 0x2C, 0x04, 0xB0, 0x03, 0x84, 0x05, 0xAA, 0x04, 0x4C] ++ List.replicate 24 0 ++
    [0, 150, 0x01, 0x90, 60, 1] ++ List.replicate 7 0 ++
    [1, 0x05, 0x78, 10, 5, 0, 60, 0x01, 0x2C, 2, 0, 0, 0, 0, 0, 50, 0, 120] ++ List.replicate 62 0 ++
    List.replicate 12 7 ++ List.replicate 4 0 ++ [0, 60] ++ List.replicate 76 0 ++ [0x0A, 0x05]

set_option maxRecDepth 8000 in
/-- The good memory passes its checksum with every section valid, the same memory with another setting of one section
in range or out of it does not change the others, and an erased memory fails the checksum (R183, R184). -/
theorem witness_MemoryStepEnds_sections :
    let s : State := { during .memory with startUp := { (during .memory).startUp with attemptOpen := true } }
    let t := after (.memoryReadComplete 0 goodImage) s
    goodImage.length = 256 ∧ t.startUp.checksum = .passed ∧ t.startUp.valid.allValid = true ∧
    (goodImage.getD 0x50 0).toNat = 1 ∧ t.settings.weir.isSome ∧ t.settings.levels.isSome ∧ t.settings.stages.isSome ∧
    (sectionFlags (goodImage.set 0x50 2)).weir = false ∧ ((goodImage.set 0x50 0).getD 0x50 0).toNat = 0 ∧
    checksumPasses (List.replicate 256 0xFF) = false := by decide

theorem witness_EndOfStartUpSetsTheBlocks :
    let s := during .listen
    let off : State := { s with pump := .initial, screen := { s.screen with selector := .off } }
    let hand : State := { s with pump := { Pump.initial with selector := .hand, feedback := true } }
    let lost : State := { s with pump := { Pump.initial with selector := .hand }, supply := .initial }
    (s.startUp.step = .listen ∧ s.pump.state = .startup ∧ s.line.attempt = none ∧ s.general.pumpFitted = true ∧
      s.pump.selector = .auto ∧ s.screen.state = .idle ∧ s.startUp.address = some 2 ∧
      s.startUp.address ≠ some 0 ∧ ∀ k : Fin 12, (s.alarms.get k).abnormal = false) ∧
    (off.startUp.step = .listen ∧ off.pump.state = .startup ∧ off.pump.selector = .off) ∧
    (hand.startUp.step = .listen ∧ hand.pump.state = .startup ∧ hand.pump.selector = .hand ∧
      hand.supply.healthy = true) ∧
    (lost.startUp.step = .listen ∧ lost.pump.selector = .hand ∧ lost.supply.healthy = false) ∧
    ({ s with startUp := { s.startUp with address := none } } : State).startUp.address = none := by decide

theorem witness_AttemptSendsTheRequest :
    ({ up.probes with exchange := some ⟨.weir, true, 2, .due 100005⟩ } : ProbeUnit).exchange =
      some ⟨.weir, true, 2, .due 100005⟩ ∧
    ({ up.probes with exchange := some ⟨.bay, false, 0, .due 0⟩ } : ProbeUnit).exchange =
      some ⟨.bay, false, 0, .due 0⟩ := by decide

theorem witness_ProbeCycleBegins :
    let s : State := { up with probes := { (asking .bay false 0 []).probes with exchange := none, nextCycle := some 100500 } }
    let none' : State := { up with probes := { up.probes with nextCycle := some 0 } }
    (s.probes.nextCycle = some 100500 ∧ s.probes.exchange = none ∧
      (ProbeId.inOrder.filter fun q => (s.probes.record q).polled) = .bay :: [.channel]) ∧
    (none'.probes.nextCycle = some 0 ∧ none'.probes.exchange = none ∧
      (ProbeId.inOrder.filter fun q => (none'.probes.record q).polled) = []) := by decide

theorem witness_NoReplyEndsTheExchange :
    (asking .bay false 2 [.weir]).probes.exchange = some ⟨.bay, false, 2, .window 100020⟩ ∧
    (asking .bay false 2 [.weir]).probes.queue = .weir :: [] ∧
    (asking .bay true 0 [.channel]).probes.exchange = some ⟨.bay, true, 0, .window 100020⟩ := by decide

/-- R7, R8, R14 by hand: 2,190 mm is 0x088E, and 255 - (8 + 142) is 105; the same with another check byte; the bay
probe's kind code; the channel probe's; one byte alone. -/
theorem witness_ReplyIsJudged :
    judgeReply 4 readSample ([0x08, 0x8E, 0, 0x69].map sentByte) = .good (2190, .clear) ∧
    judgeReply 4 readSample ([0x08, 0x8E, 0, 0x68].map sentByte) = .malformed ∧
    judgeReply 2 readKind ([0x51, 0xAE].map sentByte) = .good ProbeId.bay.kindCode ∧
    judgeReply 2 readKind ([0x52, 0xAD].map sentByte) = .good 0x52 ∧ 0x52 ≠ ProbeId.bay.kindCode ∧
    judgeReply 2 readKind ([0x51].map sentByte) = .malformed ∧
    (asking .bay false 1 [.weir]).probes.exchange = some ⟨.bay, false, 1, .window 100020⟩ ∧
    (asking .bay false 2 [.weir]).probes.queue = .weir :: [] ∧
    (asking .bay true 1 [.weir]).probes.exchange = some ⟨.bay, true, 1, .window 100020⟩ := by decide

theorem witness_ReplyIsJudged_bad (r : Nat) (m : AtLimit) :
    judgeReply 4 readSample ([0x08, 0x8E, 0, 0x68].map sentByte) ≠ .good (r, m) :=
  fun h => absurd (witness_ReplyIsJudged.2.1.symm.trans h) (by simp)

/-- R6: a reply's end at the two ends of the moments it may come at, and 1 ms outside each; the last exchange of the
IDENTIFY step, with the channel probe still polled after it, and with none. -/
theorem witness_ReplyIsJudged_moments :
    let s : State := { asking .bay true 2 [] with
      startUp := { up.startUp with step := .identify, endedAt := none } }
    let alone : State := { s with probes := { s.probes with channel := { s.probes.channel with fitted := false } } }
    (100020 ≤ up.now + 0 + 20 ∧ up.now + 0 ≤ 100020 + 12 ∧ 100020 ≤ up.now + 32 + 20 ∧ up.now + 32 ≤ 100020 + 12) ∧
    (up.now + 0 + 20 < 100021 ∧ 100020 + 12 < up.now + 33) ∧
    (s.startUp.step = .identify ∧ s.probes.exchange = some ⟨.bay, true, 2, .window 100020⟩ ∧ s.probes.queue = []) ∧
    (ProbeId.inOrder.filter fun x => ((after (.noReply 0) s).probes.record x).polled) = .channel :: [] ∧
    (ProbeId.inOrder.filter fun x => ((after (.noReply 0) alone).probes.record x).polled) = [] := by decide

theorem witness_SamplesAreCheckedAndConverted :
    judgeReply 4 readSample [⟨0, !oddOnes 0, true⟩, ⟨0, !oddOnes 0, true⟩, ⟨1, !oddOnes 1, true⟩,
      ⟨254, !oddOnes 254, true⟩] = .good (9999, .over) ∧
    judgeReply 4 readSample [⟨0x27, !oddOnes 0x27, true⟩, ⟨0x0F, !oddOnes 0x0F, true⟩, ⟨0, !oddOnes 0, true⟩,
      ⟨0xC9, !oddOnes 0xC9, true⟩] = .good (9999, .clear) ∧
    ((0 : Nat) : Int) + (-1) < 0 ∧ (9999 : Int) < ((9999 : Nat) : Int) + 1 ∧ (0 : Int) ≤ ((1 : Nat) : Int) + (-1) ∧
    (List.replicate 4 (sentByte 0)).length = 4 ∧ (List.replicate 2 (sentByte 0)).length = 2 ∧
    (∀ b ∈ List.replicate 3 (sentByte 0), parityError b = false) ∧ (List.replicate 3 (sentByte 0)).length < 4 ∧
    (∀ b ∈ [sentByte 0x51], parityError b = false) ∧ [sentByte 0x51].length < 2 := by
  decide

theorem witness_CompletionGradesTheRecords :
    let s := asking .bay false 0 []
    s.probes.exchange = some ⟨.bay, false, 0, .window 100020⟩ ∧ s.probes.queue = [] ∧
    (s.probes.record .bay).polled = true ∧ 3 ≤ (s.probes.record .bay).misses ∧
    (s.probes.record .weir).polled = false ∧ (s.probes.record .channel).misses < 3 ∧
    (s.probes.record .channel).quality = .unset ∧
    ({ s.probes with outcomes := [(.channel, .sample 2310 .over)] ++ [(.bay, .miss)] } : ProbeUnit).outcome .channel =
      .sample 2310 .over ∧
    ({ s.probes with outcomes := [(.channel, .sample 2310 .over)] ++ [(.bay, .miss)] } : ProbeUnit).outcome .bay =
      .miss := by decide

theorem witness_CompletionGradesTheRecords_running : running.Sound := by decide

/-- A channel sample of 2,310 mm and a bay sample of 2,160 mm complete a cycle by a reply, at the two ends of the moments
it may come at: a differential of 150 mm, with the settings of each clause of the timers; and a bay sample of 700 mm, at
the cut-out level, finds the pump running. -/
theorem witness_CompletionGradesTheRecords_reply :
    let reply := [0x09, 0x06, 0, 0xF0].map sentByte
    let s : State := { asking .channel false 0 [] with
      probes := { (asking .channel false 0 []).probes with outcomes := [(.bay, .sample 2160 .clear)] } }
    let with' := fun (g : Option ScreenSettings) =>
      { s with startUp := { s.startUp with settings := some { settings with screen := g } } }
    let low : State := { asking .bay false 0 [] with
      pump := running
      probes := { (asking .bay false 0 []).probes with
        channel := { up.probes.channel with fitted := false } } }
    judgeReply 4 readSample reply = .good (2310, .clear) ∧ s.probes.exchange = some ⟨.channel, false, 0, .window 100020⟩ ∧
    s.probes.queue = [] ∧ 100020 ≤ s.now + 0 + 20 ∧ s.now + 32 ≤ 100020 + 12 ∧
    ((early s).probes.complete.deltaH = none ∧ ¬ (early s).ended) ∧ s.ended ∧
    ({ s.probes with outcomes := s.probes.outcomes ++ [(.channel, .sample 2310 .clear)] } : ProbeUnit).complete.deltaH =
      some 150 ∧
    s.settings.screen = some ⟨150, 400, 0, true⟩ ∧ (with' none).settings.screen = none ∧
    (with' (some ⟨150, 400, 1, true⟩)).settings.screen = some ⟨150, 400, 1, true⟩ ∧
    judgeReply 4 readSample ([0x02, 0xBC, 0, 0x41].map sentByte) = .good (700, .clear) ∧
    ({ low.probes with outcomes := [(.bay, .sample 700 .clear)] } : ProbeUnit).complete.bay.level = some 700 ∧
    low.pump = running ∧ low.pump.state = .running ∧ low.ended ∧ low.settings.levels = settings.levels ∧ low.general.minOff ≠ 0 ∧
    (asking .bay false 2 []).probes.exchange = some ⟨.bay, false, 2, .window 100020⟩ ∧
    judgeReply 4 readSample ([0x02, 0xBC, 0, 0x40].map sentByte) = .malformed := by decide

/-- The STOP float comes to present OPEN with the pump running; a float in turn, another, and a loop inside its pulse and
at its end. -/
theorem witness_FloatReadingsAreDebouncedAndPresented :
    let floats : FloatUnit := { up.floats with stop := ⟨.closed, some .opened, .closed⟩, turn := .stop, pulseAt := 99981 }
    let s : State := { withPump running with floats := floats, staging := { up.staging with floatMode := false } }
    s.excited = some .stop ∧ ({ s with now := 100001 } : State).excited = none ∧ FloatId.stop = s.floats.turn ∧
    FloatId.high ≠ s.floats.turn ∧ s.ended ∧ s.pump.Sound ∧ s.pump.state = .running ∧ s.floats.stop.presented ≠ .opened ∧
    (s.floats.excite .stop .opened).stop.presented = .opened ∧
    (s.floats.excite .stop .closed).stop.presented ≠ .opened ∧ s.general.minOff ≠ 0 ∧
    s.staging.floatMode = false ∧ ¬ (early s).ended ∧
    ({ floats with high := ⟨.opened, some .closed, .opened⟩, turn := .high } : FloatUnit).turn = .high ∧
    (({ floats with high := ⟨.opened, some .closed, .opened⟩ } : FloatUnit).excite .high .closed).high.presented ≠
      .opened := by decide

theorem witness_IdleLineTakesTheLowestSlot :
    (up.reading ∧ up.line.attempt = none ∧ up.line.lineHeld = false) ∧
    ((during .listen).reading ∧ ¬ (during .listen).ended) ∧
    (up.ended ∧ up.line.txEnabled = true ∧ (withLine { up.line with lineHeld := true }).line.lineHeld = true) := by decide

theorem witness_AttemptsEndInTheArbitrationField :
    (sending .claim (.claim 3 180) false).line.attempt = some ⟨.claim, false⟩ ∧
    (sending .claim (.claim 3 180) false).line.idle = false ∧
    ({ up.line with notFollowingCount := 2 } : LineUnit).notFollowingCount < 3 := by decide

theorem witness_OwnClaimCompletes :
    let s : State := { sending .claim (.claim 3 180) true with pump := claiming }
    s.line.attempt = some ⟨.claim, true⟩ ∧ s.line.claim.frame = some (.claim 3 180) ∧
    (∀ p ∈ [s.pump, fallback, { claiming with feedback := true }, withdrawing, { withdrawing with lockPending := true }],
      p.Sound ∧ p.state = .claiming) ∧
    s.pump.claimPhase = some .waiting ∧ fallback.claimPhase = some .fallback ∧
    withdrawing.claimPhase = some .withdrawing := by decide

theorem witness_OwnClaimCompletes_spent :
    let placed := inHand .window .placed
    let moved : Pump := { up.pump with state := .out, selector := .off }
    let waits : Pump := { moved with lockPending := true }
    (∀ p ∈ [placed, moved, waits, { locked with lockPending := true }], p.Sound) ∧
    placed.handClaim = some .placed ∧ placed.claimPhase ≠ some .waiting ∧ placed.claimPhase ≠ some .fallback ∧
    moved.state ≠ .claiming ∧ moved.handClaim ≠ some .placed ∧ moved.lockPending = false ∧ waits.state ≠ .locked ∧
    locked.state = .locked := by decide

theorem witness_OtherFramesComplete :
    let s : State := { sending .status (.status { PeerEntry.initial with summary := .hand } .clear .clear .clear) true with
      pump := { inHand .window .due with handStart := some 88000 } }
    (sending .notice (.noticeOpen .initial) true).line.attempt = some ⟨.notice, true⟩ ∧
    (sending .notice (.noticeOpen .initial) true).line.idle = false ∧
    (s.line.attempt = some ⟨.status, true⟩ ∧ s.pump.handClaim = some .due ∧ s.contactor = true ∧
      s.pump.handStart = some 88000 ∧ s.now + 0 ≤ 88000 + s.general.stagger * 1000 ∧
      88000 + s.general.stagger * 1000 < s.now + 1) ∧
    (sending .report (.alarmClear .a3 .initial) true).line.attempt = some ⟨.report, true⟩ ∧
    (sending .report (.alarmClear .a3 .initial) true).line.report.frame = some (.alarmClear .a3 .initial) ∧
    (sending .report (.alarmClear .a3 .initial) true).report.itemGone = false ∧
    (sending .report (.alarmClear .a3 .initial) true).line.report.next = none ∧
    ({ up.report with itemGone := true } : ReportUnit).itemGone = true ∧
    (s.ended ∧ s.startUp.address = some 2 ∧ s.isolated = false ∧ (s.peers.get 2).isolated = false ∧
      ({ s.peers.get 2 with isolated := true } : PeerEntry).isolated = true) ∧
    (⟨some (.alarmClear .a3 .initial), some (.alarmClear .a4 .initial)⟩ : Slot).next =
      some (.alarmClear .a4 .initial) := by decide

theorem witness_ReadbackMismatchEndsTheAttempt :
    let s := sending .status (.claim 0 0) true
    let claim : State := { sending .claim (.claim 3 180) true with
      line := { (sending .claim (.claim 3 180) true).line with claimWithdrawal := true, conflictAborts := 1 } }
    let report : State := { sending .report (.alarmClear .a3 .initial) true with
      line := { (sending .report (.alarmClear .a3 .initial) true).line with reportWithdrawal := true } }
    s.line.attempt = some ⟨.status, true⟩ ∧ s.line.idle = false ∧ s.line.conflictAborts < 2 ∧
    s.line.claimWithdrawal = false ∧ s.line.reportWithdrawal = false ∧ s.report.interval.isSome ∧
    2 ≤ ({ s.line with conflictAborts := 2 } : LineUnit).conflictAborts ∧
    (report.line.attempt = some ⟨.report, true⟩ ∧ report.line.idle = false ∧ report.line.reportWithdrawal = true) ∧
    (claim.line.attempt = some ⟨.claim, true⟩ ∧ claim.line.idle = false ∧ claim.line.claimWithdrawal = true ∧
      claim.line.conflictAborts < 2 ∧ claim.isolated = false ∧ claim.staging.startWish = .notHeld) ∧
    (∀ p ∈ [withdrawing, { withdrawing with lockPending := true }, fallback, { fallback with feedback := true },
      inHand .window .placed, { up.pump with state := .out, selector := .off }], p.Sound) ∧
    withdrawing.claimPhase = some .withdrawing ∧ withdrawing.lockPending = false ∧ fallback.claimPhase = some .fallback ∧
    (inHand .window .placed).handClaim = some .placed ∧ up.pump.state ≠ .claiming ∧
    up.pump.handClaim ≠ some .placed ∧ up.pump.lockPending = false := by decide

theorem witness_IsolationIsTold :
    let s := sending .status (.claim 0 0) false
    (up.ended ∧ up.line.txEnabled = true ∧ up.line.lineHeld = false ∧ up.line.attempt = none) ∧
    (cutOff.line.txEnabled = false ∧ cutOff.line.attempt = none ∧ cutOff.line.claimWithdrawal = false ∧
      cutOff.line.reportWithdrawal = false) ∧
    ({ s.line with notFollowingCount := 3 } : LineUnit).notFollowingCount = 3 ∧
    s.line.attempt = some ⟨.status, false⟩ ∧ s.startUp.address = some 2 ∧ s.line.sending = false ∧
    frameFault (3 : BitVec 3).toNat (BayAddress.number 2) statusPayload = none ∧
    (withPump claiming).pump.claimPhase = some .waiting := by decide

theorem witness_DiscardedFrameIsALineError :
    up.receives = true ∧ hear [true] = .discard .coding ∧
    frameFault 3 (13 : BitVec 4).toNat statusPayload = some .badSender ∧
    frameFault 0 (4 : BitVec 4).toNat [3, 0] = some .permittedLength ∧ up.report.interval.isSome := by decide

theorem witness_StatusFillsTheEntry :
    up.receives = true ∧ frameFault 3 (12 : BitVec 4).toNat statusPayload = none ∧
    (12 : BitVec 4).toNat = BayAddress.number 11 ∧ (1 : BitVec 4).toNat = BayAddress.number 0 ∧
    up.startUp.address ≠ some 11 := by decide

theorem witness_PeerClaimSetsGuardAndMark :
    up.receives = true ∧ frameFault 0 (4 : BitVec 4).toNat [3, 0, 180] = none ∧
    (4 : BitVec 4).toNat = BayAddress.number 3 ∧ up.startUp.address ≠ some 3 ∧ up.general.stagger ≠ 0 ∧
    (∀ p ∈ [up.pump, claiming], p.Sound) ∧ (withPump claiming).receives = true ∧ claiming.lockPending = false ∧ claiming.claimPhase = some .waiting ∧
    up.pump.state = .ready := by decide

theorem witness_OtherPeerFramesRefresh :
    up.receives = true ∧ frameFault 1 (4 : BitVec 4).toNat noticePayload = none ∧
    frameFault 4 (4 : BitVec 4).toNat (List.replicate 22 0) = none ∧
    frameFault 5 (4 : BitVec 4).toNat (List.replicate 21 0) = none ∧
    frameFault 6 (4 : BitVec 4).toNat (List.replicate 24 0) = none ∧
    (4 : BitVec 4).toNat = BayAddress.number 3 ∧ up.startUp.address ≠ some 3 ∧
    (up.peers.get 3).presence ≠ .fresh := by decide

theorem witness_TimeSetsHouseTime :
    up.receives = true ∧ up.ended ∧ 86400 ≤ (86400 : BitVec 24).toNat ∧ (86399 : BitVec 24).toNat < 86400 ∧
    2 < shorterDistance (0, 0) ((0 : BitVec 16).toNat, (3 : BitVec 24).toNat) ∧
    shorterDistance (0, 0) ((65535 : BitVec 16).toNat, (86398 : BitVec 24).toNat) ≤ 2 ∧
    forwardDistance (0, 3599) ((0 : BitVec 16).toNat, (3601 : BitVec 24).toNat) ≤ 2 ∧
    forwardDistance (0, 3599) (0, 3600) ≤
      forwardDistance (0, 3599) ((0 : BitVec 16).toNat, (3601 : BitVec 24).toNat) := by decide

theorem witness_IntervalCloses :
    let s : State := { up with startUp := { up.startUp with settings := some { settings with reporting := ⟨false, 0⟩ } } }
    let due : State := { up with report := { up.report with
      house := ⟨1, 3600, true⟩, interval := some ⟨.initial, 86400, false, true, some (1, 3600)⟩ } }
    s.report.interval = some ⟨.initial, 0, false, true, none⟩ ∧ s.receives = true ∧ s.ended ∧
    s.settings.reporting.auto = false ∧ s.report.queue.length < 4 ∧
    due.report.interval = some ⟨.initial, 86400, false, true, some (1, 3600)⟩ ∧
    some (1, 3600) = some due.report.house.point := by decide

theorem witness_TownRequestsAreTaken :
    up.receives = true ∧ up.ended ∧ up.settings.reporting.auto = true ∧ frameFault 2 14 [9] = none ∧
    unknownKind [9] = true := by decide

theorem witness_PeerTownDrawdownAndRearmTimesEnd :
    let s : State := { up with
      peers := up.peers.set 3 { PeerEntry.initial with presence := .fresh, age := 3500 }
      report := { up.report with lastTime := some 40000, townPresent := true }
      staging := { up.staging with drawdownExpiry := some 98 }
      alarms := up.alarms.set 2 { AlarmRecord.initial with armed := false, normalSince := some 40000 } }
    s.startUp.address ≠ some 3 ∧ (s.peers.get 3).presence = .fresh ∧ (s.peers.get 3).presence ≠ .absent ∧
    s.report.lastTime = some 40000 ∧ s.report.townPresent = true ∧ s.startUp.endedAt = some 3000 ∧
    s.staging.drawdownExpiry = some 98 ∧ 3000 ≤ s.now ∧ 98 ≤ 4294967295 ∧ (s.alarm .a3).armed = false ∧
    (s.alarm .a3).normalSince = some 40000 := by decide

theorem witness_GuardClaimAndFallbackTimesEnd :
    let s : State := { withPump { up.pump with guard := some 100000 } with
      staging := { up.staging with startWish := .claimed } }
    let alone : State := { s with
      staging := { up.staging with startWish := .unclaimed }, line := { up.line with lineHeld := true } }
    (∀ p ∈ [s.pump, claiming, fallback], p.Sound) ∧
    (s.pump.guard = some 100000 ∧ s.pump.state = .ready ∧ s.isolated = false ∧
      s.line.onLine .claim = false ∧ s.staging.startWish = .claimed) ∧
    (alone.pump.guard = some 100000 ∧ alone.isolated = true ∧ alone.pump.feedback = false ∧
      alone.staging.startWish = .unclaimed) ∧
    (up.startUp.address = some 2 ∧ claiming.state = .claiming ∧ claiming.claimTime = some 102000) ∧
    (fallback.state = .claiming ∧ fallback.fallbackTime = some 108000 ∧ fallback.feedback = false) ∧
    (sending .claim (.claim 3 180) true).line.committed .claim = true ∧ up.line.committed .claim = false := by decide

theorem witness_IsolatedStartDelayEnds :
    let s : State := { withLine { up.line with lineHeld := true } with
      staging := { up.staging with startDelay := .running 100004 } }
    s.staging.startDelay = .running 100004 ∧ s.ended ∧ s.isolated = true ∧ s.pump.Sound ∧ ¬ (early s).ended ∧
    (early s).staging.startDelay = .running 100004 := by decide

/-- In float mode with the START and STOP floats presenting CLOSED, and by a bay level at the restart level with the HIGH
float presenting CLOSED, the delay is DONE and the pump may start. -/
theorem witness_IsolatedStartDelayEnds_starts :
    let closed : FloatRecord := ⟨.closed, none, .closed⟩
    let s : State := { cutOff with
      startUp := { up.startUp with settings := some .fallback }
      floats := { up.floats with start := closed, stop := closed }
      staging := { up.staging with startDelay := .running 100004 } }
    let b : State := { quiet cutOff with
      probes := { up.probes with bay := { up.probes.bay with fitted := true, level := some 750 } }
      floats := { up.floats with high := closed, stop := closed }
      staging := { up.staging with startDelay := .running 100004 } }
    let t := after (.isolatedStartDelayEnd 0) s
    let c := after (.isolatedStartDelayEnd 0) b
    (∀ x ∈ [s, b], x.ended ∧ x.isolated = true ∧ x.staging.startDelay = .running 100004 ∧ x.pump.state = .ready ∧
      x.pump.guard = none ∧ x.general.pumpFitted = true ∧ x.pump.selector = .auto ∧ x.pump.minOff = none ∧
      x.screen.blinded = false ∧ x.supply.healthy = true ∧ x.supply.hold = false ∧ x.pump.starts = [] ∧
      0 < x.general.startsPerHour ∧ x.pump.feedback = false) ∧ (∀ x ∈ [s, b], x.pump.Sound) ∧
    t.staging.startDelay = .done ∧ t.staging.floatMode = true ∧ s.floats.stop.presented = .closed ∧
    c.staging.startDelay = .done ∧ c.staging.floatMode = false ∧ b.bayLevel = some 750 ∧
    b.settings.levels = settings.levels := by decide

theorem witness_FeedbackInTheProvingWindow :
    let hand := inHand .window .due
    (∀ p ∈ [proving, hand], p.Sound ∧ p.feedback = false) ∧ proving.window = some ⟨100000, 103000⟩ ∧
    100000 + 3000 ≤ 103000 ∧ 100000 + 40 ≤ 100000 + 40 ∧ 100000 + 40 < 100000 + 41 ∧ proving.state = .proving ∧
    hand.state = .hand ∧ hand.window = some ⟨100000, 103000⟩ ∧ up.staging.stopWish = false ∧
    up.settings.screen = some ⟨150, 400, 0, true⟩ ∧ up.ended ∧ up.screen.state = .idle ∧ up.supply.healthy = true ∧
    (withScreen forward).screen.state = .forward ∧ ¬ (early up).ended ∧
    (after (.runFeedbackChange 41 true) (withPump proving)).screen.state = .forward ∧
    ({ up.floats with stop := ⟨.closed, none, .closed⟩ } : FloatUnit).stop.presented ≠ .opened := by decide

theorem witness_FeedbackOutsideTheWindow :
    (∀ p ∈ [up.pump, running, stopping, { up.pump with openedAt := some 98001 }], p.Sound) ∧ up.pump.feedback = false ∧ up.pump.window = none ∧
    running.feedback = true ∧ running.state ≠ .stopping ∧ stopping.feedback = true ∧ stopping.state = .stopping ∧
    100000 + 0 < 98001 + 2000 ∧
    98001 + 2000 ≤ 100000 + 1 ∧ up.pump.openedAt = none ∧ up.pump.watch = .auto ∧
    (inHand .window .due).watch = .off ∧ (inHand .halted .noClaim).window = none := by decide

theorem witness_FailureCountsAndSetsTheState :
    let lost : Pump := { running with lossTimer := some 101000, failures := 5 }
    (∀ p ∈ [proving, lost, inHand .window .due], p.Sound) ∧
    (proving.feedback = false ∧ proving.window = some ⟨100000, 103000⟩) ∧
    (lost.lossTimer = some 101000 ∧ 5 ≤ lost.failures) ∧
    ({ proving with failures := 2 } : Pump).failures = 2 ∧ proving.failures < 5 ∧ proving.failures ≠ 2 ∧ up.ended ∧
    (inHand .window .due).feedback = false := by decide

theorem witness_ProvingRunCoolingAndMinOffEnd :
    running.provingRun = some 160000 ∧ cooling.cooling = some 200000 ∧ cooling.state = .cooling ∧
    (∀ p ∈ [cooling, { up.pump with cooling := some 200000, minOff := some 100000 }], p.Sound) ∧
    up.pump.state ≠ .cooling := by decide

theorem witness_StopWishActsThroughTheDelay :
    let p : Pump := { running with minRun := some 100000 }
    let q : Pump := { running with stopDelay := some 100000 }
    (∀ x ∈ [p, q], x.Sound ∧ x.state = .running) ∧ p.minRun = some 100000 ∧ p.stopDelay = none ∧
    q.stopDelay = some 100000 ∧ ({ up.staging with stopWish := true } : Staging).stopWish = true ∧
    up.staging.stopWish = false ∧ up.general.stopDelay ≠ 0 ∧
    ({ up with startUp := { up.startUp with settings := some { settings with
      general := { GeneralSettings.builtIn with stopDelay := 0 } } } } : State).general.stopDelay = 0 := by decide

theorem witness_LockoutsLockThePump :
    let stray : Pump := { claiming with feedback := true, strayTimer := some 100000 }
    (∀ p ∈ [stopping, { stopping with feedback := false }, stray, locked,
      { up.pump with feedback := true, strayTimer := some 100000 }],
      p.Sound) ∧ locked.state = .locked ∧ stopping.releaseTime = some 102000 ∧ stopping.feedback = true ∧ stray.strayTimer = some 100000 ∧
    stray.state = .claiming ∧ stray.claimPhase ≠ some .withdrawing ∧ up.line.committed .claim = false ∧
    up.general.pumpFitted = true ∧ ({ up with startUp := { up.startUp with settings := some { settings with
      general := { GeneralSettings.builtIn with pumpFitted := false } } } } : State).general.pumpFitted = false ∧
    (sending .claim (.claim 3 180) true).line.committed .claim = true := by decide

theorem witness_SecondsAndHoursAreCounted :
    up.report.nextSecond = some 101000 ∧ up.report.house.second < 86399 ∧
    (⟨65535, 86399, true⟩ : HouseTime).second = 86399 ∧ up.pump.counting = false ∧ running.counting = true ∧
    running.runSeconds < 59 ∧ ({ running with runSeconds := 59 } : Pump).runSeconds = 59 ∧
    running.buckets = List.replicate 23 0 ++ [0] ∧ up.pump.nextHour = some 3603000 ∧
    up.pump.buckets = 0 :: List.replicate 23 0 := by decide

theorem witness_SupplyLossAndRestore :
    let wish : State := { withPump claiming with staging := { up.staging with startWish := .claimed } }
    let lost : State := { up with supply := ⟨false, false, true⟩ }
    (∀ p ∈ [up.pump, proving, running, inHand .proved .noClaim, wish.pump], p.Sound) ∧
    (up.ended ∧ up.supply.healthy = true) ∧ (¬ (early up).ended ∧ false ≠ (early up).supply.healthy) ∧
    (wish.pump.state = .claiming ∧ wish.staging.startWish ≠ .notHeld ∧
      wish.pump.mayLoseClaim = true ∧ wish.pump.lockPending = false ∧ wish.line.committed .claim = false) ∧
    (lost.ended ∧ lost.supply.healthy = false ∧ lost.staging.startWish = .notHeld ∧ lost.screen.state = .idle) := by
  decide

theorem witness_SelectorMovesToOffAndAuto :
    let atOut : Pump := { up.pump with state := .out, selector := .off, cooling := some 200000 }
    (∀ p ∈ [up.pump, claiming, atOut, locked, inHand .proved .noClaim, inHand .halted .noClaim, running,
      { up.pump with feedback := true, strayTimer := some 101000 }], p.Sound) ∧
    .auto = up.pump.selector ∧ .off ≠ up.pump.selector ∧ up.ended ∧ up.general.pumpFitted = true ∧
    ¬ (early up).ended ∧ unfitted.general.pumpFitted = false ∧ claiming.mayLoseClaim = true ∧ atOut.state = .out ∧
    .auto ≠ atOut.selector ∧ (inHand .proved .noClaim).handPhase = some .proved ∧
    (inHand .halted .noClaim).handPhase ≠ some .proved ∧
    .auto ≠ (inHand .halted .noClaim).selector ∧
    (PumpPosition.off = if true = true then .off else if true then .hand else .auto) ∧
    (PumpPosition.auto = if false = true then .off else if false then .hand else .auto) ∧
    (sending .claim (.claim 3 180) true).line.committed .claim = true ∧ up.line.committed .claim = false ∧
    up.pump.watch = .auto ∧ running.watch ≠ .auto ∧ running.feedback = true ∧ up.settings.screen = some ⟨150, 400, 0, true⟩ ∧
    (after (.pumpSelectorMove 0 ⟨false, true⟩) (withPump (inHand .proved .noClaim))).screen.state = .forward := by decide

theorem witness_SelectorMovesToHand :
    (∀ p ∈ [up.pump, { up.pump with state := .out, selector := .off }, cooling, claiming, proving, running, stopping,
      { up.pump with feedback := true, strayTimer := some 102000 }, locked], p.Sound ∧ p.selector ≠ .hand) ∧
    up.ended ∧ up.general.pumpFitted = true ∧ up.pump.state = .ready ∧ up.supply.healthy = true ∧
    ({ up with supply := .initial } : State).supply.healthy = false ∧ claiming.mayLoseClaim = true ∧
    up.line.committed .claim = false ∧ up.pump.feedback = false ∧
    (let starts := [10, 20, 30, 40, 50, 60]
     up.general.startsPerHour = 6 ∧ starts.filter (fun x => decide (97 - x < 3600)) = starts ∧ 6 ≤ starts.length ∧
      ([10, 20] : List Nat).length < 6 ∧ up.staging.limitHeld = false ∧ (up.alarm .a6).abnormal = false ∧
      (up.alarmSetting .a6).report = true ∧ (up.alarm .a6).armed = true ∧
      ([0, 1] : List Nat).filter (fun x => decide (3600 - x < 3600)) ≠ [0, 1] ∧
      ({ up.staging with limitHeld := true } : Staging).limitHeld = true ∧
      (after (.pumpSelectorMove 0 ⟨true, false⟩) (quiet (withPump { up.pump with starts := starts }))).pump.starts =
        [20, 30, 40, 50, 60, 97]) := by decide

theorem witness_TriggersStartOrMarkACycle :
    up.panel.rakeNow = false ∧ ({ up with panel := ⟨true, false, false⟩ } : State).panel.rakeNow = true ∧
    ({ up.screen with differentialSince := some 90000 } : Screen).differentialSince = some 90000 ∧
    ({ up.screen with intervalAt := some 100000 } : Screen).intervalAt = some 100000 ∧ up.ended ∧
    up.screen.state = .idle ∧ up.supply.healthy = true ∧ (withScreen forward).screen.state = .forward ∧
    ¬ (early up).ended := by decide

theorem witness_CamAndScreenSelector :
    let opening : Screen := { forward with camStage := some .waitOpen, camClosed := true }
    (∀ c ∈ [opening, forward], c.Sound) ∧ false ≠ up.screen.camClosed ∧ up.screen.state ≠ .forward ∧
    opening.state = .forward ∧ opening.camStage = some .waitOpen ∧ opening.camClosed = true ∧ forward.state = .forward ∧
    forward.camStage = some .waitClose ∧ forward.camClosed = false ∧ .off ≠ up.screen.selector ∧ ¬ (early up).ended := by
  decide

theorem witness_OvercurrentAndForwardLimit :
    let c : Screen := { forward with overcurrentSince := some 100000, retries := 2 }
    let d : Screen := { forward with overcurrentSince := some 100000, retries := 3 }
    let e : Screen := { reversing with reverseOn := true, energiseAt := none, overcurrentSince := some 100200 }
    (∀ x ∈ [c, d, e], x.Sound) ∧ c.overcurrentSince = some 100000 ∧ c.state = .forward ∧ c.retries < 3 ∧
    3 ≤ d.retries ∧ e.overcurrentSince = some 100200 ∧ e.state = .reversing ∧ up.ended ∧
    up.screen.overcurrentSince = none ∧ up.screen.state ≠ .forward := by decide

theorem witness_JamRecoverySteps :
    let p : Screen := { up.screen with state := .pause, stateTimer := some 102000, retries := 2 }
    (∀ c ∈ [reversing, p], c.Sound) ∧ reversing.energiseAt = some 100200 ∧ reversing.state = .reversing ∧
    reversing.stateTimer = some 103000 ∧ p.state = .pause ∧ p.stateTimer = some 102000 := by decide

theorem witness_BlindingSetsAndClears :
    let c : Screen := { up.screen with blindSetSince := some 70000, blindClearSince := some 70000 }
    up.pump.Sound ∧ (if true then c.blindSetSince else c.blindClearSince) = some 70000 ∧
    (if false then c.blindSetSince else c.blindClearSince) = some 70000 ∧ c.blinded = false ∧ c.blinded = !true ∧
    up.pump.state ≠ .claiming ∧ up.startUp.address = some 2 ∧ up.ended := by decide

theorem witness_WeirStepsAtTheCompletion :
    let s : State := { asking .bay false 0 [] with weir := ⟨true, none, none, .dry, 1799, []⟩ }
    s.probes.exchange = some ⟨.bay, false, 0, .window 100020⟩ ∧ s.probes.queue = [] ∧ s.ended ∧ s.weir.on = true ∧
    s.settings.weir = settings.weir ∧ settings.weir.isSome ∧ 1800 ≤ s.weir.gapCount + 1 ∧ s.weir.log.length ≤ 8 := by decide

/-- A weir sample of 1,410 mm over the crest of 1,400 is a head of 10 mm, the onset head; each spill state, at the ends of
its counts; a full log, and a NOTICE slot that is empty and that is committed. -/
theorem witness_WeirStepsAtTheCompletion_head :
    let s : State := { asking .bay false 2 [] with
      probes := { (asking .bay false 2 []).probes with
        weir := { up.probes.weir with fitted := true }, outcomes := [(.weir, .sample 1410 .clear)] }
      weir := ⟨true, none, none, .onset ⟨.initial, 0, 59, 10, false, false, false⟩, 0, []⟩ }
    let r : SpillData := ⟨.initial, none, 4294967295, 10, 4294967295, false, false, false, false, false, 255⟩
    s.probes.exchange = some ⟨.bay, false, 2, .window 100020⟩ ∧ s.probes.queue = [] ∧ s.ended ∧ s.weir.on = true ∧
    s.settings.weir = some ⟨true, 1400, 10, 5, 60, 300, [(0, 0), (50, 120), (100, 340), (200, 960), (400, 2720)]⟩ ∧
    (({ s.probes with outcomes := s.probes.outcomes ++ [(.bay, .miss)] } : ProbeUnit).complete.weir.level.map
      fun w => w - 1400) = some 10 ∧
    60 ≤ 59 + 1 ∧ s.report.interval.isSome ∧
    ({ s.weir with spill := .opened r } : Weir).spill = .opened r ∧
    ({ s.weir with spill := .closing r 299 } : Weir).spill = .closing r 299 ∧ 300 ≤ 299 + 1 ∧
    (List.replicate 8 r) = [r, r, r, r, r, r, r, r] ∧ (List.replicate 8 r).length ≤ 8 ∧ s.line.onLine .notice = false ∧
    (sending .notice (.noticeOpen .initial) true).line.committed .notice = true ∧
    ({ sending .report (.spillRecord r) true with weir := { s.weir with log := List.replicate 8 r } } : State).carriesSpill =
      true ∧
    (sending .report (.spillRecord r) true).line.committed .report = true := by decide

theorem witness_EvaluationFormsThePicture :
    let s : State := { up with
      startUp := { up.startUp with address := none }
      pump := { Pump.initial with state := .out }
      staging := { up.staging with startDelay := .running 100000 } }
    s.ended ∧ s.staging.startDelay = .running 100000 ∧ s.pump.Sound ∧ s.pump.state = .out ∧
    s.startUp.address = none := by decide

theorem witness_EvaluationFormsThePicture_addressed :
    let s : State := { up with
      peers := up.peers.set 2 { PeerEntry.initial with
        presence := .fresh, age := 0, summary := .out, isolated := false, level := some 2310 }
      pump := { Pump.initial with state := .out }
      staging := { up.staging with startDelay := .running 100000 } }
    s.ended ∧ s.staging.startDelay = .running 100000 ∧ s.pump.Sound ∧ s.pump.state = .out ∧
    (s.startUp.address = some 2 ∧ s.withPublished (s.peers.get 2) = s.peers.get 2) := by decide

/-- A station whose own entry shows it as it stands, with a start delay that runs. -/
def delayed (p : Pump) (s : State) : State :=
  let u : State := { s with pump := p, staging := { up.staging with startDelay := .running 100000 } }
  { u with peers := up.peers.set 2 (u.withPublished { PeerEntry.initial with presence := .fresh, isolated := u.isolated }) }

/-- The second statement: a READY station that hears the house, one that is isolated with its guard running, and a pump
in RUNNING and in CLAIMING, each by a delay that ends; the pump state stands at the isolated one. -/
theorem witness_EvaluationFormsThePicture_wishes :
    let alone := delayed { up.pump with guard := some 100001 } cutOff
    (∀ s ∈ [delayed up.pump up, alone, delayed running up, delayed claiming up],
      s.ended ∧ s.pump.Sound ∧ s.staging.startDelay = .running 100000 ∧ s.startUp.address = some 2) ∧
    (∀ s ∈ [delayed up.pump up, alone, delayed running up, delayed claiming up],
      s.withPublished (s.peers.get 2) = s.peers.get 2) ∧
    alone.isolated = true ∧ (delayed up.pump up).isolated = false ∧
    (after (.isolatedStartDelayEnd 0) alone).pump.state = .ready := by decide

/-- The same by a completion with the weir function off and no bay level to be at the cut-out. -/
theorem witness_EvaluationFormsThePicture_completion :
    let q := delayed up.pump { asking .bay false 2 [] with weir := .initial }
    q.ended ∧ q.pump.Sound ∧ q.probes.exchange = some ⟨.bay, false, 2, .window 100020⟩ ∧ q.probes.queue = [] ∧
    q.weir.on = false ∧ q.withPublished (q.peers.get 2) = q.peers.get 2 ∧
    (after (.noReply 0) q).atCutOut (after (.noReply 0) q).bayLevel = false := by decide

theorem witness_RanksAreDistinct :
    let t : State := { up with startUp := { up.startUp with address := some 11 } }
    up.startUp.address = some 2 ∧ t.startUp.address = some 11 ∧ (2 : BayAddress) ≠ 11 ∧ t.peers = up.peers ∧
    t.staging.claimMarks = up.staging.claimMarks := by decide

/-- Both stations are in the set: one is READY and available, the other's entry holds its initial values under a claim
mark. An entry with a mark that shows HAND does not count as running by it. -/
theorem witness_RanksAreDistinct_both :
    let s : State := { up with
      peers := (up.peers.set 2 { PeerEntry.initial with presence := .fresh, summary := .ready, auto := true, available := true }).set
        11 { PeerEntry.initial with presence := .fresh }
      staging := { up.staging with claimMarks := up.staging.claimMarks.set 11 (some 180) } }
    let t : State := { s with startUp := { up.startUp with address := some 11 } }
    let none : State := { s with startUp := { up.startUp with address := none } }
    s.rankNow = some 1 ∧ t.rankNow = some 0 ∧ s.group 2 = 3 ∧ s.group 11 = 1 ∧ s.rankCredit 11 = 180 ∧
    (({ s.peers.get 11 with restricted := true } : PeerEntry).restricted = true) ∧ s.staging.claimMarks.get 2 = .none ∧
    none.startUp.address = .none := by decide

theorem witness_AlarmTurnsAreLatched :
    let s := held 95001 (withScreen { up.screen with state := .jammed, jamCause := some .overcurrent })
    up.ended ∧ (withScreen forward).screen.state = .forward ∧ (up.alarm .a8).abnormal = false ∧
    (up.alarmSetting .a8).report = true ∧ (up.alarm .a8).raise = none ∧ (up.alarm .a8).armed = true ∧
    ((quiet up).alarmSetting .a8).report = false ∧ s.startUp.resetButton = .pressed 95001 ∧ s.now + 0 < 95001 + 5000 ∧
    s.screen.state = .jammed ∧
    (let t : State := { s with alarms := up.alarms.set 8 ⟨true, none, some .initial, true, true, none, 0, 0, false⟩ }
     (t.alarm .a9).abnormal = true ∧ t.ended ∧
      ((t.turnNormal .a9).alarm .a9).clear = some .initial ∧ (t.turnNormal .a9).isolated = t.isolated) ∧
    (({ s with alarms := up.alarms.set 7 { AlarmRecord.initial with abnormal := true } } : State).alarm .a8).abnormal =
      true := by decide

theorem witness_SelectionPlacesTheFirstItem :
    let raised : State := { up with
      alarms := up.alarms.set 0 { AlarmRecord.initial with raise := some ⟨up.snapshot, .noCause⟩, clear := some .initial }
      report := { up.report with townPresent := true } }
    let cleared : State := { up with alarms := up.alarms.set 11 { AlarmRecord.initial with clear := some .initial } }
    (raised.alarm .a1).raise.isSome ∧ (cleared.alarm .a12).raise = none ∧ (cleared.alarm .a12).clear.isSome ∧
    (∀ j : Fin 12, j < 11 → (cleared.alarms.get j).raise = none ∧ (cleared.alarms.get j).clear = none) ∧
    (∀ j : Fin 12, (up.alarms.get j).raise = none ∧ (up.alarms.get j).clear = none) ∧
    ({ up.line with reportWithdrawal := true } : LineUnit).reportWithdrawal = true ∧
    up.line.reportWithdrawal = false ∧ up.line.report.frame = none ∧ up.report.townPresent = false ∧
    raised.report.townPresent = true ∧ raised.line.onLine .report = false ∧
    (sending .report (.alarmClear .a3 .initial) true).line.report.frame.isSome ∧
    (sending .report (.alarmClear .a3 .initial) true).line.committed .report = true ∧
    (sending .report (.alarmClear .a3 .initial) true).carried ≠
      (sending .report (.alarmClear .a3 .initial) true).selected := by decide

theorem witness_SelectionPlacesTheFirstItem_settled : up.SelectionSettled ∧
    exec (.probeByteDiscarded 0 ⟨0, true, true⟩) up = .next (after (.probeByteDiscarded 0 ⟨0, true, true⟩) up) :=
  ⟨by decide, rfl⟩

theorem witness_OnlyResetsUndoLatches :
    (up.ended ∧ (∀ s ∈ [up, withPump locked], s.PumpSound) ∧
      Instr.probeByteDiscarded 0 ⟨0, true, true⟩ ≠ .powerUp ∧
      ({ up.line with txHeld := true, txEnabled := false } : LineUnit).txHeld = true ∧
      (withPump locked).pump.state = .locked ∧
      (withScreen { up.screen with state := .jammed, jamCause := some .overcurrent }).screen.state = .jammed) ∧
    exec (.probeByteDiscarded 0 ⟨0, true, true⟩) up = .next (after (.probeByteDiscarded 0 ⟨0, true, true⟩) up) :=
  ⟨by decide, rfl⟩

theorem witness_FramesAreHeardAsSent :
    (14 < 16 ∧ frameFault 2 14 [9] = none) ∧ (1 < 16 ∧ frameFault 3 1 statusPayload = none) ∧
    12 < 16 ∧ frameFault 6 12 (List.replicate 24 0) = none := by decide

/-- Values at the ends of their ranges: the table's codes, a level of 9,999 mm and none, a credit of 1,440, times of the
last second of the last day, a volume and a duration at their maximum. -/
theorem witness_FramesAreHeardAsSent_payloads :
    let e : PeerEntry := { PeerEntry.initial with level := some 9999, credit := 1440, digest := 65535 }
    let m : HouseTime := ⟨65535, 86399, true⟩
    let r : SpillData := ⟨m, some m, 4294967295, 9999, 4294967295, true, true, true, true, true, 255⟩
    let a : Accumulators := ⟨⟨65535, true⟩, ⟨255, true⟩, ⟨255, true⟩, ⟨255, true⟩, ⟨255, true⟩, ⟨65535, true⟩,
      ⟨4294967295, true⟩, ⟨255, true⟩, ⟨65535, true⟩, some 9999⟩
    LevelInRange e.level ∧ LevelInRange PeerEntry.initial.level ∧ e.credit ≤ 1440 ∧ e.digest < 65536 ∧
    (AtLimit.code .clear = 0 ∧ AtLimit.code .over = 1 ∧ AtLimit.code .under = 2) ∧ m.InRange ∧ r.endTime = some m ∧
    r.duration ≤ 4294967295 ∧ r.volume ≤ 4294967295 ∧ r.peak ≤ 9999 ∧ r.lost ≤ 255 ∧ a.InRange ∧
    LevelInRange a.peak ∧ up.snapshot.house.InRange ∧ LevelInRange up.snapshot.houseLevel ∧
    LevelInRange up.snapshot.bayLevel ∧ LevelInRange up.snapshot.channelLevel ∧ LevelInRange up.snapshot.weirHead ∧
    up.snapshot.d ≤ 12 ∧ up.snapshot.dAuto ≤ 12 ∧ (∀ x ∈ up.snapshot.rank, x ≤ 11) ∧ up.snapshot.freshPeers ≤ 12 ∧
    (readStatus (Frame.status e .clear .over .under).payload).level = some 9999 := by decide

theorem witness_PumpStaysSound : (∀ s ∈ [up, withPump claiming, withPump running, withPump locked], s.PumpSound) ∧
    step { up with pending := [.resetPress 0] } = .next (after (.resetPress 0) up) := ⟨by decide, rfl⟩

theorem witness_ScreenAndLineStaySound :
    ((∀ s ∈ [up, withScreen forward, withScreen reversing], s.screen.Sound) ∧
      ∀ s ∈ [up, withScreen forward, { withLine { up.line with idle := true } with pending := [.lineIdle 0] }],
        s.LineSound) ∧
    step { withScreen forward with pending := [.resetPress 0] } =
      .next (after (.resetPress 0) (withScreen forward)) := ⟨by decide, rfl⟩

/-- `up` with its own entry as the station publishes it. -/
def published : State :=
  { up with peers := up.peers.set 2 { PeerEntry.initial with presence := .fresh, summary := .ready, auto := true } }

theorem witness_OwnEntryStaysPublished : (published.OwnPublished ∧ published.PumpSound) ∧
    step { published with pending := [.resetPress 0] } = .next (after (.resetPress 0) published) :=
  ⟨⟨fun _ own h => by cases h; decide, by decide⟩, rfl⟩

theorem witness_CountsAndLevelsStayInRange : (up.CountsInRange ∧ up.LevelsInRange) ∧
    step { up with pending := [.resetPress 0] } = .next (after (.resetPress 0) up) := by
  refine ⟨⟨⟨by decide, by decide, by decide, by decide, by decide, by decide, by decide, ?_, by decide, by decide⟩,
    ⟨?_, ?_, ?_, by decide, fun a => ?_, ?_, ?_⟩⟩, rfl⟩
  case refine_5 => exact (show (up.peers.get a).level = none by revert a; decide) ▸ by simp [LevelInRange]
  · intro i h; cases h; decide
  all_goals simp [ProbeRecord.InRange, LevelInRange, up, State.reset, ProbeUnit.initial, ProbeRecord.initial,
    PeerEntry.initial, Staging.initial, ReportUnit.initial, Accumulators.zero]

end Sys2Proof.Tests
end

/-! ## Ranges

Counts, logs, queues, clocks and levels in their ranges (R9, R43, R68, R93, R123, R125, R153, R166, R169, R171, R175),
carried through every operation of the model: one lemma per operation, named after it, so that the proof for a command
is the chain of the operations that its meaning calls, in the order it calls them. -/

namespace Sys2Proof.Machine

/-! ### The ranges, block by block -/

/-- The Probe Interface's levels lie in range (R9, R11). -/
def ProbeUnit.InRange (u : ProbeUnit) : Prop :=
  (∀ p, (u.record p).InRange) ∧ ∀ o ∈ u.outcomes, o.2.inRange = true

/-- A peer entry's age and level lie in range (R43, R44). -/
def PeerEntry.InRange (e : PeerEntry) : Prop := e.age ≤ 65535 ∧ LevelInRange e.level

/-- The spill log holds at most 8 records, and the gap count has not reached 30 min (R147, R153). -/
def Weir.InRange (w : Weir) : Prop := w.log.length ≤ 8 ∧ w.gapCount < 1800

/-- An interval lasts at most a day (R171). -/
def Interval.InRange (i : Interval) : Prop := i.length ≤ 86400

/-- The accumulators, the peak house level included, lie in range (R169, R170). -/
def Accumulators.Bounded (a : Accumulators) : Prop := a.InRange ∧ LevelInRange a.peak

/-- The Report Unit's house time, accumulators, queue and interval lie in range (R166, R169, R171, R175). -/
def ReportUnit.InRange (r : ReportUnit) : Prop :=
  r.house.InRange ∧ r.counts.Bounded ∧ r.queue.length ≤ 4 ∧ ∀ i ∈ r.interval, i.InRange

/-- Every count and every level of the state lies in its range. -/
structure State.Ranged (s : State) : Prop where
  runClock : s.startUp.runClock ≤ 4294967295
  probes : s.probes.InRange
  peers : ∀ a, (s.peers.get a).InRange
  houseLevel : LevelInRange s.staging.houseLevel
  pump : s.pump.InRange
  screen : s.screen.InRange
  weir : s.weir.InRange
  report : s.report.InRange

/-- The ranges block by block are those of the two invariants together. -/
theorem State.ranged_iff (s : State) : s.Ranged ↔ s.CountsInRange ∧ s.LevelsInRange := by
  constructor
  · intro ⟨hclock, ⟨hrec, hout⟩, hpeers, hlevel, hpump, hscreen, ⟨hlog, hgap⟩, hhouse, ⟨hcounts, hpeak⟩, hqueue, hint⟩
    exact ⟨⟨hpump, hscreen, hlog, hgap, hhouse, hcounts, hqueue, hint, hclock, fun a => (hpeers a).1⟩,
      ⟨hrec .bay, hrec .channel, hrec .weir, hout, fun a => (hpeers a).2, hlevel, hpeak⟩⟩
  · intro ⟨⟨hpump, hscreen, hlog, hgap, hhouse, hcounts, hqueue, hint, hclock, hage⟩,
      ⟨hbay, hchannel, hweir, hout, hlev, hlevel, hpeak⟩⟩
    refine ⟨hclock, ⟨fun p => ?_, hout⟩, fun a => ⟨hage a, hlev a⟩, hlevel, hpump, hscreen, ⟨hlog, hgap⟩, hhouse,
      ⟨hcounts, hpeak⟩, hqueue, hint⟩
    cases p <;> assumption

/-! ### What the operations of one block do to its range -/

/-- An accumulator ends an addition at or below its maximum (R169). -/
theorem Counter.add_le (limit amount : Nat) (c : Counter) : (c.add limit amount).value ≤ limit := by
  unfold Counter.add
  split
  · exact le_rfl
  · exact Nat.le_of_not_lt ‹_›

/-- An addition to an accumulator keeps them all in range (R169). -/
theorem Accumulators.Bounded.add {a : Accumulators} (h : a.Bounded) (g : CountId × Nat) : (a.add g).Bounded := by
  obtain ⟨⟨h1, h2, h3, h4, h5, h6, h7, h8, h9⟩, hpeak⟩ := h
  obtain ⟨i, n⟩ := g
  cases i
  case runSeconds => exact ⟨⟨Counter.add_le _ _ _, h2, h3, h4, h5, h6, h7, h8, h9⟩, hpeak⟩
  case starts => exact ⟨⟨h1, Counter.add_le _ _ _, h3, h4, h5, h6, h7, h8, h9⟩, hpeak⟩
  case failedStarts => exact ⟨⟨h1, h2, Counter.add_le _ _ _, h4, h5, h6, h7, h8, h9⟩, hpeak⟩
  case rakeCycles => exact ⟨⟨h1, h2, h3, Counter.add_le _ _ _, h5, h6, h7, h8, h9⟩, hpeak⟩
  case jamEvents => exact ⟨⟨h1, h2, h3, h4, Counter.add_le _ _ _, h6, h7, h8, h9⟩, hpeak⟩
  case spillSeconds => exact ⟨⟨h1, h2, h3, h4, h5, Counter.add_le _ _ _, h7, h8, h9⟩, hpeak⟩
  case spillLitres => exact ⟨⟨h1, h2, h3, h4, h5, h6, Counter.add_le _ _ _, h8, h9⟩, hpeak⟩
  case supplyLosses => exact ⟨⟨h1, h2, h3, h4, h5, h6, h7, Counter.add_le _ _ _, h9⟩, hpeak⟩
  case lineErrors => exact ⟨⟨h1, h2, h3, h4, h5, h6, h7, h8, Counter.add_le _ _ _⟩, hpeak⟩

theorem Accumulators.Bounded.addAll {a : Accumulators} (h : a.Bounded) (gs : List (CountId × Nat)) :
    (a.addAll gs).Bounded := by
  induction gs generalizing a with
  | nil => exact h
  | cons g gs ih => exact ih (h.add g)

/-- House time stays a day and a second of day (R166). -/
theorem HouseTime.InRange.next {t : HouseTime} (h : t.InRange) : t.next.InRange := by
  obtain ⟨hday, hsecond⟩ := h
  unfold HouseTime.next
  split
  · exact ⟨hday, by assumption⟩
  · exact ⟨Nat.mod_lt _ (by decide), Nat.zero_lt_succ _⟩

/-- The credit ring after a second of running (R68). -/
theorem Pump.InRange.ringSecond {p : Pump} (h : p.InRange) : p.ringSecond.InRange := by
  obtain ⟨hfail, hlen, hbuckets, hsec⟩ := h
  unfold Pump.ringSecond
  split
  · exact ⟨hfail, hlen, hbuckets, by assumption⟩
  · refine ⟨hfail, by simp [newestUp, hlen], fun b hb => ?_, Nat.zero_lt_succ _⟩
    rcases List.mem_append.mp hb with hb | hb
    · exact hbuckets b (List.mem_of_mem_dropLast hb)
    · rw [List.mem_singleton.mp hb]; exact Nat.min_le_left _ _

/-- The credit ring after an hour (R68). -/
theorem Pump.InRange.ringHour {p : Pump} (h : p.InRange) : p.ringHour.InRange := by
  obtain ⟨hfail, hlen, hbuckets, hsec⟩ := h
  refine ⟨hfail, by simp [Pump.ringHour, hlen], fun b hb => ?_, hsec⟩
  rcases List.mem_append.mp hb with hb | hb
  · exact hbuckets b (List.mem_of_mem_tail hb)
  · rw [List.mem_singleton.mp hb]; exact Nat.zero_le _

/-- A rake cycle starts with no retry made and no forward time (R121). -/
theorem Screen.startCycle_inRange (now : Nat) (c : Screen) : (c.startCycle now).InRange :=
  ⟨Nat.zero_le _, Nat.zero_le _, fun _ => Nat.zero_le _⟩

theorem Screen.abandon_inRange (c : Screen) : c.abandon.InRange :=
  ⟨Nat.zero_le _, Nat.zero_le _, fun _ => Nat.zero_le _⟩

/-- A screen that leaves its cycle, or goes FORWARD, keeps its counts in range (R125). -/
theorem Screen.InRange.of_state {c d : Screen} (h : c.InRange) (hms : d.forwardMs = c.forwardMs)
    (hretries : d.retries = c.retries) (hstate : d.state ≠ .reversing ∧ d.state ≠ .pause) : d.InRange := by
  obtain ⟨hforward, hle, _⟩ := h
  exact ⟨hms ▸ hforward, hretries ▸ hle, fun g => absurd g (by tauto)⟩

/-- A record's level is its last good level or none (R11). -/
theorem ProbeRecord.InRange.withLevel {r : ProbeRecord} (h : LevelInRange r.lastGood) : r.withLevel.InRange := by
  refine ⟨h, ?_⟩
  unfold ProbeRecord.withLevel
  dsimp only
  split
  · exact h
  · exact h
  all_goals exact fun x hx => absurd hx (by simp)

/-- A sample gathered is in range, and a record takes its last good level from a sample (R9, R10). -/
theorem ProbeRecord.InRange.graded {r : ProbeRecord} (h : r.InRange) {o : ProbeOutcome} (ho : o.inRange = true) :
    LevelInRange (r.graded o).lastGood := by
  cases o with
  | sample l m => exact fun x hx => by cases hx; exact of_decide_eq_true ho
  | miss => exact h.1

theorem ProbeUnit.InRange.outcome {u : ProbeUnit} (h : u.InRange) (p : ProbeId) : (u.outcome p).inRange = true := by
  unfold ProbeUnit.outcome
  cases e : u.outcomes.find? fun o => decide (o.1 = p) with
  | none => rfl
  | some o => exact h.2 o (List.mem_of_find?_eq_some e)

theorem ProbeUnit.InRange.gradedRecord {u : ProbeUnit} (h : u.InRange) (p : ProbeId) : (u.gradedRecord p).InRange := by
  unfold ProbeUnit.gradedRecord
  refine ProbeRecord.InRange.withLevel ?_
  split
  · exact (h.1 p).graded (h.outcome p)
  · exact (h.1 p).1

theorem ProbeUnit.InRange.complete {u : ProbeUnit} (h : u.InRange) : u.complete.InRange := by
  refine ⟨fun p => ?_, fun o ho => absurd ho (by simp [ProbeUnit.complete])⟩
  cases p <;> exact h.gradedRecord _

/-- Reading a record after a change of one (R1). -/
theorem ProbeUnit.record_onRecord (u : ProbeUnit) (p q : ProbeId) (f : ProbeRecord → ProbeRecord) :
    (u.onRecord p f).record q = if q = p then f (u.record q) else u.record q := by
  cases p <;> cases q <;> rfl

/-- A change of one record that keeps its levels (R1). -/
theorem ProbeUnit.InRange.onRecord {u : ProbeUnit} (h : u.InRange) (p : ProbeId) {f : ProbeRecord → ProbeRecord}
    (hf : ∀ r : ProbeRecord, r.InRange → (f r).InRange) : (u.onRecord p f).InRange := by
  refine ⟨fun q => ?_, by cases p <;> exact h.2⟩
  rw [ProbeUnit.record_onRecord]
  split
  · exact hf _ (h.1 q)
  · exact h.1 q

/-- An outcome joins those of the cycle (R7, R9). -/
theorem ProbeUnit.InRange.gather {u : ProbeUnit} (h : u.InRange) (p : ProbeId) {o : ProbeOutcome}
    (ho : o.inRange = true) : ({ u with outcomes := u.outcomes ++ [(p, o)] } : ProbeUnit).InRange := by
  refine ⟨h.1, fun x hx => ?_⟩
  rcases List.mem_append.mp hx with hx | hx
  · exact h.2 x hx
  · rw [List.mem_singleton.mp hx]; exact ho

theorem ProbeUnit.InRange.nextExchange {u : ProbeUnit} (h : u.InRange) (identify : Bool) (start : Nat) :
    (nextExchange identify start u).InRange := by
  unfold Machine.nextExchange
  split <;> exact h

theorem ProbeUnit.InRange.configured {u : ProbeUnit} (h : u.InRange) (l : Option LevelSettings) :
    (u.configured l).InRange := by
  unfold ProbeUnit.configured
  split <;> exact ⟨fun | .bay => h.1 .bay | .channel => h.1 .channel | .weir => h.1 .weir, h.2⟩

/-- A converted level lies from 0 to 9,999 mm (R9). -/
theorem toDatum_le (offset : Int) (reading : Nat) : toDatum offset reading ≤ 9999 := Nat.min_le_left _ _

/-- A median is one of the numbers (R50). -/
theorem mem_of_median {l : List Nat} {x : Nat} (h : median l = some x) : x ∈ l :=
  (List.mem_insertionSort _).mp (List.mem_of_getElem? h)

/-- A STATUS that passes the checks of R31 carries a level in range (R191). -/
theorem readStatus_level_inRange {sender : Nat} {payload : List Byte} (h : frameFault 3 sender payload = none) :
    LevelInRange (readStatus payload).level := by
  have hc : contentPasses 3 payload = true := by
    unfold frameFault at h
    by_contra hc
    simp [hc] at h
    split_ifs at h
  intro x hx
  simp only [contentPasses, Bool.and_eq_true, Bool.or_eq_true, decide_eq_true_eq] at hc
  simp only [readStatus] at hx
  split at hx <;> simp at hx
  omega

namespace State.Ranged

variable {s t : State}

/-- An operation that leaves every block with a range as it was keeps the ranges. -/
theorem of_kept (h : s.Ranged)
    (kept : t.startUp = s.startUp ∧ t.probes = s.probes ∧ t.peers = s.peers ∧ t.staging = s.staging ∧
      t.pump = s.pump ∧ t.screen = s.screen ∧ t.weir = s.weir ∧ t.report = s.report) : t.Ranged := by
  obtain ⟨h1, h2, h3, h4, h5, h6, h7, h8⟩ := kept
  exact ⟨h1 ▸ h.runClock, h2 ▸ h.probes, h3 ▸ h.peers, h4 ▸ h.houseLevel, h5 ▸ h.pump, h6 ▸ h.screen, h7 ▸ h.weir,
    h8 ▸ h.report⟩

theorem ite {c : Prop} [Decidable c] (hs : c → s.Ranged) (ht : ¬ c → t.Ranged) : (if c then s else t).Ranged := by
  split
  · exact hs ‹_›
  · exact ht ‹_›

/-! ### One updater for each block -/

theorem onStartUp {f : StartUp → StartUp} (h : s.Ranged) (hf : (f s.startUp).runClock ≤ 4294967295) :
    (s.onStartUp f).Ranged := { h with runClock := hf }

theorem onProbes {f : ProbeUnit → ProbeUnit} (h : s.Ranged) (hf : (f s.probes).InRange) : (s.onProbes f).Ranged :=
  { h with probes := hf }

theorem onFloats {f : FloatUnit → FloatUnit} (h : s.Ranged) : (s.onFloats f).Ranged := { h with }

theorem onLine {f : LineUnit → LineUnit} (h : s.Ranged) : (s.onLine f).Ranged := { h with }

theorem onStaging {f : Staging → Staging} (h : s.Ranged) (hf : LevelInRange (f s.staging).houseLevel) :
    (s.onStaging f).Ranged := { h with houseLevel := hf }

theorem onPump {f : Pump → Pump} (h : s.Ranged) (hf : (f s.pump).InRange) : (s.onPump f).Ranged :=
  { h with pump := hf }

theorem onSupply {f : Supply → Supply} (h : s.Ranged) : (s.onSupply f).Ranged := { h with }

theorem onScreen {f : Screen → Screen} (h : s.Ranged) (hf : (f s.screen).InRange) : (s.onScreen f).Ranged :=
  { h with screen := hf }

theorem onWeir {f : Weir → Weir} (h : s.Ranged) (hf : (f s.weir).InRange) : (s.onWeir f).Ranged := { h with weir := hf }

theorem onAlarms {f : Twelve AlarmRecord → Twelve AlarmRecord} (h : s.Ranged) : (s.onAlarms f).Ranged := { h with }

theorem onReport {f : ReportUnit → ReportUnit} (h : s.Ranged) (hf : (f s.report).InRange) : (s.onReport f).Ranged :=
  { h with report := hf }

theorem onPanel {f : Panel → Panel} (h : s.Ranged) : (s.onPanel f).Ranged := { h with }

theorem drawn (h : s.Ranged) : s.drawn.Ranged := { h with }

theorem dequeued (h : s.Ranged) : s.dequeued.Ranged := { h with }

theorem setAlarm {k : AlarmKind} {r : AlarmRecord} (h : s.Ranged) : (s.setAlarm k r).Ranged := h.onAlarms

theorem onEntry {a : BayAddress} {f : PeerEntry → PeerEntry} (h : s.Ranged) (hf : (f (s.peers.get a)).InRange) :
    (s.onEntry a f).Ranged := by
  refine { h with peers := fun b => ?_ }
  rw [State.onEntry_peers, Twelve.get_set]
  split
  · exact hf
  · exact h.peers b

/-- Of two things whose order is open, both keep the ranges in either order. -/
theorem eitherOrder {f g : State → State} (h : s.Ranged) (hf : ∀ u : State, u.Ranged → (f u).Ranged)
    (hg : ∀ u : State, u.Ranged → (g u).Ranged) : (eitherOrder f g s).Ranged := by
  rcases eitherOrder_cases s f g with e | e | e <;> rw [e]
  · exact hg _ (hf _ h)
  · exact hg _ (hf _ h.drawn)
  · exact hf _ (hg _ h.drawn)

/-! ### Slots -/

theorem place {i : SlotId} {f : Frame} (h : s.Ranged) : (s.place i f).Ranged := h.of_kept (by simp)

theorem leaveField (h : s.Ranged) : s.leaveField.Ranged := h.of_kept (by simp)

theorem withdraw {i : SlotId} (h : s.Ranged) : (s.withdraw i).Ranged := h.of_kept (by simp)

theorem withdrawClaim (h : s.Ranged) : s.withdrawClaim.Ranged := h.of_kept (by simp)

theorem offer (h : s.Ranged) : s.offer.Ranged := h.of_kept (by simp)

theorem dropAttempt (h : s.Ranged) : s.dropAttempt.Ranged := h.of_kept (by simp)

theorem completeAttempt {i : SlotId} (h : s.Ranged) : (s.completeAttempt i).Ranged := h.of_kept (by simp)

/-! ### Alarm table -/

theorem turnAbnormal {k : AlarmKind} {n : Snapshot} (h : s.Ranged) : (s.turnAbnormal k n).Ranged := by
  unfold State.turnAbnormal
  exact ite (fun _ => h) fun _ =>
    ite (fun _ => (ite (fun _ => h.onReport h.report) fun _ => h).setAlarm) fun _ => h.setAlarm

theorem turnNormal {k : AlarmKind} (h : s.Ranged) : (s.turnNormal k).Ranged := h.of_kept (by simp)

theorem chooseSnapshot {l : List Snapshot} (h : s.Ranged) : (s.chooseSnapshot l).2.Ranged := h.of_kept (by simp)

theorem turnAbnormalSince {k : AlarmKind} {l : List Snapshot} (h : s.Ranged) : (s.turnAbnormalSince l k).Ranged := by
  unfold State.turnAbnormalSince
  exact ite (fun _ => h.turnAbnormal) fun _ => h.chooseSnapshot.turnAbnormal

theorem retaken {k : AlarmKind} {was : State} (h : s.Ranged) : (s.retaken was k).Ranged := h.of_kept (by simp)

theorem handOver {k : AlarmKind} {l : List Snapshot} (h : s.Ranged) : (s.handOver l k).Ranged := by
  unfold State.handOver
  exact ite (fun _ => h.turnAbnormalSince) fun _ => h.turnNormal

theorem alarmEvent {k : AlarmKind} {l : List Snapshot} (h : s.Ranged) : (s.alarmEvent l k).Ranged :=
  h.turnAbnormalSince.turnNormal

theorem acceptAll (h : s.Ranged) : s.acceptAll.Ranged := h.onAlarms

theorem readConditions (h : s.Ranged) : s.readConditions.Ranged := by
  unfold State.readConditions
  induction AlarmKind.inOrder generalizing s with
  | nil => exact h
  | cons k ks ih => exact ih (ite (fun _ => h.turnAbnormal) fun _ => h)

/-! ### Report Unit -/

theorem count {i : CountId} {n : Nat} (h : s.Ranged) : (s.count i n).Ranged := by
  refine h.onReport ?_
  split <;> exact h.report

theorem beginInterval (h : s.Ranged) : s.beginInterval.Ranged := by
  obtain ⟨hhouse, _, hqueue, _⟩ := h.report
  refine h.onReport ⟨hhouse, ?_, hqueue, ?_⟩
  · simp [Accumulators.Bounded, Accumulators.InRange, Accumulators.zero, Counter.zero, LevelInRange]
  · rintro i ⟨⟩
    exact Nat.zero_le _

theorem emptyReport (h : s.Ranged) : s.emptyReport.Ranged := h.withdraw.onReport h.withdraw.report

/-- The queue takes a value of at most 4 records (R175). -/
theorem onQueue {q : List IntervalRecord} (h : s.Ranged) (hq : q.length ≤ 4) :
    (s.onReport fun r => { r with queue := q }).Ranged :=
  h.onReport ⟨h.report.1, h.report.2.1, hq, h.report.2.2.2⟩

theorem joinQueue {r : IntervalRecord} (h : s.Ranged) : (s.joinQueue r).Ranged := by
  unfold State.joinQueue
  split
  · exact ite (fun _ => h.onQueue (by simp)) fun _ => (ite (fun _ => h.emptyReport) fun _ => h).onQueue (by simp)
  · next hq =>
    refine h.onQueue ?_
    rcases e : s.report.queue with _ | ⟨a, _ | ⟨b, _ | ⟨c, _ | ⟨d, rest⟩⟩⟩⟩
    case cons.cons.cons.cons => exact absurd e (hq a b c d rest)
    all_goals simp

theorem closeInProgress (h : s.Ranged) : s.closeInProgress.Ranged := by
  unfold State.closeInProgress
  split
  · exact h
  · exact h.joinQueue.beginInterval

theorem fillReport (h : s.Ranged) : s.fillReport.Ranged := by
  unfold State.fillReport
  refine ite (fun _ => ?_) fun _ => h
  split
  · exact h
  · exact h.place.onReport h.place.report

theorem withdrawReport (h : s.Ranged) : s.withdrawReport.Ranged := by
  unfold State.withdrawReport
  split
  · exact h.emptyReport.fillReport
  · exact h.withdraw.onLine

theorem select (h : s.Ranged) : s.select.Ranged := by
  unfold State.select
  exact ite (fun _ => h) fun _ => ite (fun _ => h.fillReport) fun _ => ite (fun _ => h) fun _ =>
    ite (fun _ => h.withdrawReport) fun _ => h

theorem finish (h : s.Ranged) : s.finish.Ranged := h.select.offer

theorem reportSent {f : Frame} (h : s.Ranged) : (s.reportSent f).Ranged := by
  have ht : ((s.onReport fun r => { r with itemGone := false }).onLine
      fun u => { u with reportWithdrawal := false }).Ranged := (h.onReport h.report).onLine
  unfold State.reportSent
  refine ite (fun _ => ht) fun _ => ?_
  split
  · exact ht.setAlarm
  · exact ht.setAlarm
  · exact ht.onWeir ⟨(List.tail_sublist _).length_le.trans h.weir.1, h.weir.2⟩
  · exact ht.onReport ⟨h.report.1, h.report.2.1, (List.tail_sublist _).length_le.trans h.report.2.2.1, h.report.2.2.2⟩
  · exact ht

theorem reportBack (h : s.Ranged) : s.reportBack.Ranged := by
  unfold State.reportBack
  exact ite (fun _ => h.onLine.onReport h.report) fun _ => h

/-! ### Peer Table -/

theorem placeStatus (h : s.Ranged) : s.placeStatus.Ranged := h.of_kept (by simp)

theorem publish (h : s.Ranged) : s.publish.Ranged := by
  unfold State.publish
  split
  · exact h
  · exact ite (fun _ => h) fun _ => (h.onEntry (h.peers _)).placeStatus

theorem rewriteOwn (h : s.Ranged) : s.rewriteOwn.Ranged := by
  unfold State.rewriteOwn
  split
  · exact h
  · exact h.onEntry ⟨(h.peers _).1, (h.probes.1 .bay).2⟩

theorem setIsolatedFlag {v : Bool} (h : s.Ranged) : (s.setIsolatedFlag v).Ranged := by
  unfold State.setIsolatedFlag
  split
  · exact h
  · exact ite (fun _ => h) fun _ => (h.onEntry (h.peers _)).placeStatus

theorem clearClaimMark {a : BayAddress} (h : s.Ranged) : (s.clearClaimMark a).Ranged := h.onStaging h.houseLevel

theorem formA12 (h : s.Ranged) : s.formA12.Ranged := h.handOver

theorem refreshed {a : BayAddress} (h : s.Ranged) : (s.onEntry a PeerEntry.refreshed).Ranged :=
  h.onEntry ⟨Nat.zero_le _, (h.peers a).2⟩

theorem refreshPeer {a : BayAddress} (h : s.Ranged) : (s.refreshPeer a).Ranged := by
  unfold State.refreshPeer
  exact ite (fun _ => h.refreshed) fun _ => h.refreshed.formA12

/-! ### Time -/

theorem elapse (h : s.Ranged) (dt : Nat) : (s.elapse dt).Ranged := by
  refine { h with runClock := ?_, peers := fun a => ?_, screen := ?_, report := ?_ }
  · unfold State.elapse
    dsimp only
    split
    · exact h.runClock
    · exact Nat.min_le_left _ _
  · rw [show (s.elapse dt).peers.get a = _ from Twelve.get_form _ a]
    split
    · exact h.peers a
    · exact ⟨Nat.min_le_left _ _, (h.peers a).2⟩
  · obtain ⟨hms, hretries, hcycle⟩ := h.screen
    refine ⟨?_, hretries, hcycle⟩
    unfold State.elapse
    dsimp only
    split
    · exact Nat.min_le_left _ _
    · exact hms
  · obtain ⟨hhouse, hcounts, hqueue, hint⟩ := h.report
    unfold State.elapse
    dsimp only
    split
    · exact h.report
    · exact ⟨hhouse, hcounts.addAll _, hqueue, hint⟩

theorem reach (h : s.Ranged) (dt moment : Nat) : (s.reach dt moment).Ranged := h.elapse _

/-! ### Screen Controller -/

theorem trigger (h : s.Ranged) : s.trigger.Ranged := by
  unfold State.trigger
  refine ite (fun _ => h) fun _ => ?_
  split
  · exact ite (fun _ => h.onScreen (Screen.startCycle_inRange _ _)) fun _ => h
  · exact h.onScreen h.screen
  · exact h.onScreen h.screen
  · exact h.onScreen h.screen
  · exact h
  · exact h

theorem jam {c : JamCause} (h : s.Ranged) : (s.jam c).Ranged :=
  ((h.onScreen (h.screen.of_state rfl rfl (by simp))).count).handOver

theorem rakeSupplyLost (h : s.Ranged) : s.rakeSupplyLost.Ranged := by
  unfold State.rakeSupplyLost
  exact ite (fun _ => h.onScreen (Screen.abandon_inRange _)) fun _ => h

theorem restartInterval (h : s.Ranged) : s.restartInterval.Ranged := h.onScreen h.screen

theorem completeCycle (h : s.Ranged) : s.completeCycle.Ranged := by
  refine h.count.restartInterval.onScreen ?_
  split
  · exact ⟨Nat.zero_le _, Nat.zero_le _, fun _ => Nat.zero_le _⟩
  · exact h.screen.of_state rfl rfl (by simp)

theorem screenCompletion (h : s.Ranged) : s.screenCompletion.Ranged := h.onScreen h.screen

/-! ### Weir Unit -/

/-- The spill log takes a value of at most 8 records (R153). -/
theorem onLog {f : Weir → Weir} (h : s.Ranged) (hlog : (f s.weir).log.length ≤ 8)
    (hgap : (f s.weir).gapCount = s.weir.gapCount) : (s.onWeir f).Ranged := h.onWeir ⟨hlog, hgap ▸ h.weir.2⟩

theorem joinLog {r : SpillData} (h : s.Ranged) : (s.joinLog r).Ranged := by
  have hlog := h.weir.1
  unfold State.joinLog
  split
  · next a b rest e =>
    rw [e] at hlog
    refine ite (fun hlt => h.onLog (by simp [e]; omega) rfl) fun _ => ite (fun _ => h.onLog (by simpa using hlog) rfl)
      fun _ => ?_
    exact (ite (fun _ => h.emptyReport) fun _ => h).onLog (by simpa using hlog) rfl
  · next hshort =>
    refine h.onLog ?_ rfl
    rcases e : s.weir.log with _ | ⟨a, _ | ⟨b, rest⟩⟩
    case cons.cons => exact absurd e (hshort a b rest)
    all_goals simp

theorem setSpill {x : Spill} (h : s.Ranged) : (s.setSpill x).Ranged := (h.onWeir h.weir).publish

theorem setGap {n : Nat} (h : s.Ranged) (hn : n < 1800) : (s.setGap n).Ranged := h.onWeir ⟨h.weir.1, hn⟩

theorem countSpill {m n : Nat} (h : s.Ranged) : (s.countSpill m n).Ranged := h.count.count

theorem openSpill {r : OnsetRecord} {n : Nat} (h : s.Ranged) : (s.openSpill r n).Ranged := h.setSpill.countSpill.place

theorem closeSpill {r : SpillData} (h : s.Ranged) : (s.closeSpill r).Ranged := h.joinLog.place.setSpill

theorem weirHead {c : WeirSettings} {head flow : Nat} (h : s.Ranged) : (s.weirHead c head flow).Ranged := by
  have h0 : (s.setGap 0).Ranged := h.setGap (by decide)
  unfold State.weirHead
  dsimp only
  split
  · exact ite (fun _ => h0.setSpill) fun _ => h0
  · exact ite (fun _ => h0.setSpill) fun _ => ite (fun _ => h0.setSpill) fun _ => h0.openSpill
  · exact h0.setSpill.countSpill
  · exact ite (fun _ => h0.countSpill.setSpill) fun _ => ite (fun _ => h0.countSpill.setSpill) fun _ =>
      h0.countSpill.closeSpill

theorem weirGap (h : s.Ranged) : s.weirGap.Ranged := by
  have hnext {u : State} (hu : u.Ranged) (hg : ¬ s.weir.gapReached = true) : (u.setGap (s.weir.gapCount + 1)).Ranged :=
    hu.setGap (by simp only [Weir.gapReached, decide_eq_true_eq] at hg; omega)
  have h0 {u : State} (hu : u.Ranged) : (u.setGap 0).Ranged := hu.setGap (by decide)
  unfold State.weirGap
  split
  · exact h
  · exact ite (fun _ => (h0 h).setSpill) fun hg => (hnext h hg).setSpill
  · exact ite (fun _ => (h0 h.countSpill).closeSpill) fun hg => (hnext h.countSpill hg).setSpill
  · exact ite (fun _ => (h0 h.countSpill).closeSpill) fun hg => (hnext h.countSpill hg).setSpill

theorem weirStep (h : s.Ranged) : s.weirStep.Ranged := by
  unfold State.weirStep
  refine ite (fun _ => ?_) fun _ => h
  split
  · exact h
  · split
    · exact (h.onWeir h.weir).weirGap
    · exact (h.onWeir h.weir).weirHead

end State.Ranged
end Sys2Proof.Machine

namespace Sys2Proof.Machine

/-- The screen's counts when a retry begins: at most 2 have been made (R125). -/
theorem Screen.InRange.reversing {c d : Screen} (h : c.InRange) (hms : d.forwardMs = c.forwardMs)
    (hretries : d.retries = c.retries) (hlt : c.retries ≤ 2) : d.InRange :=
  ⟨hms ▸ h.1, hretries ▸ h.2.1, fun _ => hretries ▸ hlt⟩

theorem sample_inRange (offset : Int) (reading : Nat) (mark : AtLimit) :
    (ProbeOutcome.sample (toDatum offset reading) mark).inRange = true := decide_eq_true (toDatum_le _ _)

namespace State.Ranged

variable {s t : State}

/-! ### Pump Sequencer -/

theorem formAvailable (h : s.Ranged) : s.formAvailable.Ranged := (h.onStaging h.houseLevel).publish

/-- The items that a change of the pump keeps or stops are not among its counts (R71). -/
theorem changePump {f : Pump → Pump} (h : s.Ranged) (hf : (f s.pump).InRange) : (s.changePump f).Ranged := by
  obtain ⟨_, hstartUp, hprobes, _, hpeers, hstaging, _, hscreen, hweir, _, hreport, _⟩ := s.changePump_keeps f
  obtain ⟨_, _, _, _, hfail, _, hbuckets, hsec, _⟩ := s.changePump_pump f
  have hp := h.onPump hf
  refine ⟨hstartUp ▸ h.runClock, hprobes ▸ h.probes, hpeers ▸ h.peers, hstaging ▸ h.houseLevel, ?_, hscreen ▸ h.screen,
    hweir ▸ h.weir, hreport ▸ h.report⟩
  rw [Pump.InRange, hfail, hbuckets, hsec]
  exact hf

theorem limitWish (h : s.Ranged) : s.limitWish.Ranged := by
  refine h.onStaging ?_
  split <;> exact h.houseLevel

theorem pumpSource {old : PumpState} (h : s.Ranged) : (s.pumpSource old).Ranged := by
  unfold State.pumpSource
  exact ite (fun _ => h.trigger) fun _ => h

theorem movePump {f : Pump → Pump} (h : s.Ranged) (hf : (f s.pump).InRange) : (s.movePump f).Ranged :=
  (h.changePump hf).limitWish.formAvailable.handOver.pumpSource

theorem lock {c : LockCause} (h : s.Ranged) : (s.lock c).Ranged := by
  unfold State.lock
  exact ite (fun _ => h) fun _ => h.movePump h.pump

theorem setGuard (h : s.Ranged) : s.setGuard.Ranged := h.onPump h.pump

theorem claimResolved (h : s.Ranged) : s.claimResolved.Ranged := by
  unfold State.claimResolved
  exact ite (fun _ => h.lock) fun _ => ite (fun _ => h.movePump h.pump) fun _ => h

theorem loseClaim (h : s.Ranged) : s.loseClaim.Ranged := by
  unfold State.loseClaim
  split
  · exact h.withdrawClaim.claimResolved
  · exact h.withdrawClaim.movePump h.withdrawClaim.pump

theorem dropWish (h : s.Ranged) : s.dropWish.Ranged := by
  have ht := h.onStaging (f := fun g => { g with startWish := .notHeld }) h.houseLevel
  unfold State.dropWish
  exact ite (fun _ => ht.loseClaim) fun _ => ht

theorem reformAvailability (h : s.Ranged) : s.reformAvailability.Ranged := by
  unfold State.reformAvailability
  exact ite (fun _ => h.formAvailable.dropWish) fun _ => h.formAvailable

theorem placeClaim (h : s.Ranged) : s.placeClaim.Ranged := h.place

theorem beginClaim (h : s.Ranged) : s.beginClaim.Ranged := h.placeClaim.movePump h.placeClaim.pump

theorem ageStarts (h : s.Ranged) : s.ageStarts.Ranged := by
  have ht := h.onPump (f := Pump.aged s.startUp.runClock) h.pump
  unfold State.ageStarts
  exact ite (fun _ => h) fun _ => (ht.onStaging ht.houseLevel).formAvailable.handOver

theorem addStart (h : s.Ranged) : s.addStart.Ranged := h.onPump h.pump

theorem earlyProof (h : s.Ranged) : s.earlyProof.Ranged := h.count.lock

theorem checkEarlyProof (h : s.Ranged) : s.checkEarlyProof.Ranged := by
  unfold State.checkEarlyProof
  exact ite (fun _ => h.earlyProof) fun _ => h

theorem makeStart (h : s.Ranged) : s.makeStart.Ranged := by
  have ht := h.ageStarts.addStart.count (i := .starts) (n := 1)
  exact (ht.movePump ht.pump).checkEarlyProof

theorem fullListEvent {full : Bool} {l : List Snapshot} (h : s.Ranged) : (s.fullListEvent full l).Ranged := by
  unfold State.fullListEvent
  exact ite (fun _ => h.alarmEvent) fun _ => h

theorem handStart (h : s.Ranged) : s.handStart.Ranged := by
  have ht := h.ageStarts.addStart.count (i := .starts) (n := 1)
  unfold State.handStart
  exact ite (fun _ => (ht.movePump ht.pump).fullListEvent.checkEarlyProof) fun _ => h.movePump h.pump

theorem actOnStart (h : s.Ranged) : s.actOnStart.Ranged := by
  unfold State.actOnStart
  refine ite (fun _ => ?_) fun _ => h
  split
  · exact h
  · exact ite (fun _ => h) fun _ => h.beginClaim
  · exact ite (fun _ => h.makeStart) fun _ => h

theorem released (h : s.Ranged) : s.released.Ranged := h.movePump h.pump

theorem goStopping (h : s.Ranged) : s.goStopping.Ranged := by
  have ht := h.movePump (f := fun p => { p with state := .stopping, releaseTime := some (s.now + 2000) }) h.pump
  unfold State.goStopping
  exact ite (fun _ => ht) fun _ => ht.released

theorem actOnStop (h : s.Ranged) : s.actOnStop.Ranged := by
  unfold State.actOnStop
  refine ite (fun _ => h) fun _ => ite (fun _ => h.onPump h.pump) fun _ => ite (fun _ => h) fun _ => ?_
  split
  · exact h.goStopping
  · exact h.onPump h.pump

theorem stopFloatCutOut (h : s.Ranged) : s.stopFloatCutOut.Ranged := by
  unfold State.stopFloatCutOut
  exact ite (fun _ => h.goStopping) fun _ => h

theorem bayCutOut (h : s.Ranged) : s.bayCutOut.Ranged := by
  unfold State.bayCutOut
  exact ite (fun _ => h.goStopping) fun _ => h

theorem enterRunning (h : s.Ranged) : s.enterRunning.Ranged := (h.movePump h.pump).stopFloatCutOut.actOnStop

theorem failedTo (h : s.Ranged) : s.failedTo.Ranged := by
  have ht := h.onPump (f := fun p => { p with failures := min 6 (p.failures + 1) })
    ⟨Nat.min_le_left _ _, h.pump.2⟩
  unfold State.failedTo
  exact ite (fun _ => ht.lock) fun _ => ht.movePump ht.pump

theorem failure {k : AlarmKind} (h : s.Ranged) : (s.failure k).Ranged := h.failedTo.alarmEvent

theorem notProved (h : s.Ranged) : s.notProved.Ranged := h.count.failure

theorem proven (h : s.Ranged) : s.proven.Ranged := by
  unfold State.proven
  exact ite (fun _ => h.movePump h.pump) fun _ => h.enterRunning

theorem feedbackInWindow {w : ProvingWindow} (h : s.Ranged) : (s.feedbackInWindow w).Ranged := by
  unfold State.feedbackInWindow
  exact ite (fun _ => h.earlyProof) fun _ => h.proven

/-! ### Staging Unit -/

theorem setStartWish {w : StartWish} (h : s.Ranged) : (s.setStartWish w).Ranged := by
  unfold State.setStartWish
  exact ite (fun _ => h.dropWish) fun _ => h.onStaging h.houseLevel

theorem formA1 (h : s.Ranged) : s.formA1.Ranged := (h.onStaging h.houseLevel).handOver

theorem peakLevel (h : s.Ranged) : s.peakLevel.Ranged := by
  have hpeak := h.report.2.1.2
  unfold State.peakLevel
  split
  · exact h
  · next l e =>
    refine h.onReport ?_
    split
    · refine ⟨h.report.1, ⟨h.report.2.1.1, ?_⟩, h.report.2.2⟩
      rintro x ⟨⟩
      refine max_le (h.houseLevel l e) ?_
      cases hp : s.report.counts.peak with
      | none => exact Nat.zero_le _
      | some m => exact hpeak m hp
    · exact h.report

/-- The house level is a level of the peer table (R50). -/
theorem formHouseLevel (h : s.Ranged) : s.formHouseLevel.Ranged := by
  refine h.onStaging fun x hx => ?_
  obtain ⟨a, _, ha⟩ := List.mem_filterMap.mp (mem_of_median hx)
  exact (h.peers a).2 x ha

theorem formLevelSource (h : s.Ranged) : s.formLevelSource.Ranged := h.onStaging h.houseLevel

theorem formFloatMode (h : s.Ranged) : s.formFloatMode.Ranged := h.onStaging h.houseLevel

theorem formLatches (h : s.Ranged) : s.formLatches.Ranged := h.onStaging h.houseLevel

theorem formD (h : s.Ranged) : s.formD.Ranged := h.onStaging h.houseLevel

theorem formDAuto (h : s.Ranged) : s.formDAuto.Ranged := h.onStaging h.houseLevel

theorem formRank (h : s.Ranged) : s.formRank.Ranged := h.onStaging h.houseLevel

theorem formDelay (h : s.Ranged) : s.formDelay.Ranged := h.onStaging h.houseLevel

theorem formLimitHeld (h : s.Ranged) : s.formLimitHeld.Ranged := h.onStaging h.houseLevel

theorem formStopWish (h : s.Ranged) : s.formStopWish.Ranged := h.onStaging h.houseLevel

theorem formPicture (h : s.Ranged) : s.formPicture.Ranged :=
  h.formHouseLevel.formLevelSource.formFloatMode.formAvailable.formLatches.formD.formDAuto.formRank

theorem formWishes (h : s.Ranged) : s.formWishes.1.Ranged := h.formDelay.formLimitHeld.formStopWish.formA1.peakLevel.handOver

theorem act {w : State × StartWish} (h : w.1.Ranged) : (State.act w).Ranged := h.setStartWish.actOnStop.actOnStart

theorem evaluate (h : s.Ranged) : s.evaluate.Ranged := by
  unfold State.evaluate
  exact ite (fun _ => act h.ageStarts.formPicture.formWishes) fun _ => h

theorem floatDelay {b : Bool} (h : s.Ranged) : (s.floatDelay b).Ranged := by
  unfold State.floatDelay
  exact ite (fun _ => h.formDelay) fun _ => h

theorem floatStopWish {b : Bool} (h : s.Ranged) : (s.floatStopWish b).Ranged := by
  unfold State.floatStopWish
  exact ite (fun _ => h.formStopWish) fun _ => h

theorem floatWishes {b c : Bool} (h : s.Ranged) : (s.floatWishes b c).Ranged := by
  unfold State.floatWishes
  exact ite (fun _ => h.floatDelay.evaluate) fun _ => act h.floatDelay.floatStopWish

theorem isolationTaken (h : s.Ranged) : s.isolationTaken.Ranged := by
  unfold State.isolationTaken
  exact (ite (fun _ => h.setIsolatedFlag) fun _ => h.onStaging h.houseLevel).dropWish

theorem isolationChange {l : List Snapshot} {was : Bool} (h : s.Ranged) : (s.isolationChange l was).Ranged := by
  unfold State.isolationChange
  exact ite (fun _ => h) fun _ => h.isolationTaken.evaluate.handOver

/-! ### Probe Interface -/

theorem evaluateWithCutOut (h : s.Ranged) : s.evaluateWithCutOut.Ranged :=
  h.eitherOrder (fun _ => bayCutOut) fun _ => evaluate

theorem decideAtCompletion (h : s.Ranged) : s.decideAtCompletion.Ranged := by
  unfold State.decideAtCompletion
  exact ite (fun _ => h.eitherOrder (fun _ => weirStep) fun _ => evaluateWithCutOut) fun _ => h.evaluateWithCutOut

theorem completion (h : s.Ranged) : s.completion.Ranged := by
  have ht : s.completionTaken.Ranged := (h.onProbes h.probes.complete).rewriteOwn.placeStatus.screenCompletion
  have hd : s.completionTaken.decideIfEnded.Ranged := by
    unfold State.decideIfEnded
    exact ite (fun _ => ht.decideAtCompletion) fun _ => ht
  exact hd.handOver

theorem beginCycle {first : Nat} (h : s.Ranged) : (s.beginCycle first).Ranged := by
  have hq : ({ s.probes with
      queue := ProbeId.inOrder.filter fun p => (s.probes.record p).polled
      outcomes := []
      nextCycle := some (s.now + 1000) } : ProbeUnit).InRange := ⟨h.probes.1, fun o ho => absurd ho List.not_mem_nil⟩
  have ht := h.onProbes (f := fun u => nextExchange false first { u with
      queue := ProbeId.inOrder.filter fun p => (u.record p).polled
      outcomes := []
      nextCycle := some (s.now + 1000) }) (hq.nextExchange _ _)
  unfold State.beginCycle
  exact ite (fun _ => ht.completion) fun _ => ht

theorem beginListen {first : Nat} (h : s.Ranged) : (s.beginListen first).Ranged :=
  (h.onStartUp h.runClock).onLine.beginCycle

theorem exchangeEnded {identify : Bool} (h : s.Ranged) : (s.exchangeEnded identify).Ranged := by
  have ht := h.onProbes (f := fun u => { u with exchange := none }) h.probes
  unfold State.exchangeEnded
  exact ite (fun _ => ite (fun _ => ite (fun _ => ht.beginListen) fun _ => ht) fun _ => ht.completion)
    fun _ => h.onProbes (h.probes.nextExchange _ _)

theorem exchangeMissed {x : Exchange} (h : s.Ranged) : (s.exchangeMissed x).Ranged := by
  unfold State.exchangeMissed
  exact ite (fun _ => (h.onProbes (h.probes.onRecord _ (f := ProbeRecord.failIdentity) fun _ hr => hr)).exchangeEnded)
    fun _ => (h.onProbes (h.probes.gather _ rfl)).exchangeEnded

theorem attemptFailed {x : Exchange} (h : s.Ranged) : (s.attemptFailed x).Ranged := by
  unfold State.attemptFailed
  exact ite (fun _ => h.onProbes h.probes) fun _ => h.exchangeMissed

theorem readReplied {x : Exchange} {reply : List LinkByte} (h : s.Ranged) : (s.readReplied x reply).Ranged := by
  unfold State.readReplied
  split
  · exact (h.onProbes (h.probes.gather _ (sample_inRange _ _ _))).exchangeEnded
  · exact h.attemptFailed

theorem identifyReplied {x : Exchange} {reply : List LinkByte} (h : s.Ranged) :
    (s.identifyReplied x reply).Ranged := by
  unfold State.identifyReplied
  split
  · have hc := h.probes.onRecord x.probe (f := fun r => { r with identity := .confirmed }) fun _ hr => hr
    exact ite (fun _ => (h.onProbes hc).exchangeEnded) fun _ => h.exchangeMissed
  · exact h.attemptFailed

theorem startAttempt {identify : Bool} {dt : Nat} (h : s.Ranged) : (s.startAttempt identify dt).Ranged := by
  unfold State.startAttempt
  split
  · exact ite (fun _ => (h.reach dt _).onProbes h.probes) fun _ => h.elapse dt
  · exact h.elapse dt

/-! ### Float Monitor -/

theorem highChanged {old : FloatUnit} (h : s.Ranged) : (s.highChanged old).Ranged := by
  unfold State.highChanged
  exact ite (fun _ => h) fun _ => h.formA1

theorem floatsChanged {b c : Bool} (h : s.Ranged) : (s.floatsChanged b c).Ranged := by
  have ht : (if c then s.stopFloatChanged else s).Ranged := ite (fun _ => h.reformAvailability.stopFloatCutOut) fun _ => h
  unfold State.floatsChanged State.floatsWish
  exact ite (fun _ => ht.floatWishes) fun _ => ht

theorem afterExcitation {old : FloatUnit} (h : s.Ranged) : (s.afterExcitation old).Ranged :=
  (h.eitherOrder (fun _ => highChanged) fun _ => floatsChanged).handOver

/-! ### Line Interface and receptions -/

theorem claimCompleted (h : s.Ranged) : s.claimCompleted.Ranged := by
  have ht := h.setGuard.onLine (f := fun u => { u with claimWithdrawal := false })
  unfold State.claimCompleted
  exact ite (fun _ => ht.makeStart) fun _ => ite (fun _ => ht.onPump ht.pump) fun _ => ht.claimResolved

theorem claimBack (h : s.Ranged) : s.claimBack.Ranged := by
  have ht := h.onLine (f := fun u => { u with claim := .empty, claimWithdrawal := false })
  unfold State.claimBack
  exact ite (fun _ => ite (fun _ => ht.makeStart) fun _ => ite (fun _ => ht.onPump ht.pump)
    fun _ => ht.claimResolved.actOnStart) fun _ => h

theorem attemptBack (h : s.Ranged) : s.attemptBack.Ranged := h.claimBack.reportBack

theorem statusCompleted {f : Frame} (h : s.Ranged) : (s.statusCompleted f).Ranged := by
  have ha : (if s.isolated then s else s.setIsolatedFlag false).Ranged := ite (fun _ => h) fun _ => h.setIsolatedFlag
  unfold State.statusCompleted
  dsimp only
  split
  · exact ite (fun _ => ite (fun _ => ha.placeClaim.onPump ha.placeClaim.pump) fun _ => ha.onPump ha.pump) fun _ => ha
  · exact ha

theorem toldComplete {i : SlotId} {f : Frame} (h : s.Ranged) : (s.toldComplete i f).Ranged := by
  unfold State.toldComplete
  split
  · exact h.claimCompleted
  · exact h
  · exact h.statusCompleted
  · exact h.reportSent

theorem disableTransmitter {f : LineUnit → LineUnit} (h : s.Ranged) : (s.disableTransmitter f).Ranged := by
  unfold State.disableTransmitter
  exact (ite (fun _ => h.onLine.dropAttempt.leaveField) fun _ => h.onLine.dropAttempt).attemptBack.isolationChange

theorem latchConflict (h : s.Ranged) : s.latchConflict.Ranged := h.disableTransmitter

theorem endField (h : s.Ranged) : s.endField.Ranged := h.dropAttempt.onLine

theorem lineError (h : s.Ranged) : s.lineError.Ranged := h.count

theorem lineTaken (h : s.Ranged) : s.lineTaken.Ranged := by
  unfold State.lineTaken
  exact ite (fun _ => h.onLine.endField) fun _ => h.onLine

/-- A frame received keeps the ranges when its effect does so for a frame that passes the checks of R31. -/
theorem receive {cls sender : Nat} {payload : List Byte} {effect : BayAddress → State → State} (h : s.Ranged)
    (heffect : frameFault cls sender payload = none → ∀ (a : BayAddress) (u : State), u.Ranged → (effect a u).Ranged) :
    (s.receive cls sender payload effect).Ranged := by
  unfold State.receive
  refine ite (fun _ => finish ?_) fun _ => h
  split
  · exact ite (fun _ => h.lineTaken.latchConflict) fun _ => heffect ‹_› _ _ h.lineTaken
  · exact h.lineTaken.lineError

theorem claimHeard {payload : List Byte} {a : BayAddress} (h : s.Ranged) : (s.claimHeard payload a).Ranged := by
  have hm := h.refreshed (a := a) |>.setGuard
  have ht : (((s.onEntry a PeerEntry.refreshed).setGuard.markClaim a (claimCredit payload)).yieldClaim).Ranged := by
    unfold State.yieldClaim
    have hc := hm.onStaging (f := fun g => { g with claimMarks := g.claimMarks.set a (some (claimCredit payload)) })
      hm.houseLevel
    exact ite (fun _ => loseClaim hc) fun _ => hc
  unfold State.claimHeard
  exact ite (fun _ => ht.evaluate) fun _ => ht.evaluate.handOver

theorem statusHeard {payload : List Byte} {a : BayAddress} (hlevel : LevelInRange (readStatus payload).level)
    (h : s.Ranged) : (s.statusHeard payload a).Ranged :=
  ((h.refreshPeer.onEntry ⟨(h.refreshPeer.peers a).1, hlevel⟩).clearClaimMark).formA12

theorem noticeHeard {payload : List Byte} {a : BayAddress} (h : s.Ranged) : (s.noticeHeard payload a).Ranged :=
  h.refreshPeer.onStaging h.refreshPeer.houseLevel

/-! ### The town and the clocks -/

theorem townRequest {effect : State → State} (h : s.Ranged) (heffect : ∀ u : State, u.Ranged → (effect u).Ranged) :
    (s.townRequest effect).Ranged := by
  unfold State.townRequest
  exact ite (fun _ => finish (ite (fun _ => heffect _ h.lineTaken) fun _ => h.lineTaken)) fun _ => h

theorem setTime {new : HouseTime} (h : s.Ranged) (hnew : new.InRange) : (s.setTime new).Ranged :=
  h.onReport ⟨hnew, h.report.2⟩

/-- A change of the interval in progress that keeps its length (R171). -/
theorem mapInterval {f : Interval → Interval} {o : Option Interval} (h : ∀ i ∈ o, i.InRange)
    (hf : ∀ i : Interval, i.InRange → (f i).InRange) : ∀ i ∈ o.map f, i.InRange := by
  rintro i hi
  obtain ⟨j, hj, rfl⟩ := Option.map_eq_some_iff.mp hi
  exact hf j (h j hj)

theorem timeJump (h : s.Ranged) : s.timeJump.Ranged := by
  obtain ⟨hhouse, hcounts, hqueue, hint⟩ := h.report
  have hmark := mapInterval hint (f := fun i => { i with
    timeSet := true, closeDue := s.settings.reporting.closeDue s.report.house }) fun _ hi => hi
  exact (h.onReport ⟨hhouse, hcounts, hqueue, hmark⟩).onWeir h.weir

theorem takeTime {new : HouseTime} (h : s.Ranged) (hnew : new.InRange) : (s.takeTime new).Ranged := by
  unfold State.takeTime
  exact ite (fun _ => (h.setTime hnew).timeJump) fun _ => ite (fun _ => (h.setTime hnew).closeInProgress)
    fun _ => h.setTime hnew

theorem takeDrawdown {m n : Nat} (h : s.Ranged) : (s.takeDrawdown m n).Ranged := by
  refine h.onStaging ?_
  split <;> exact h.houseLevel

theorem clockSecond (h : s.Ranged) : s.clockSecond.Ranged := by
  obtain ⟨hhouse, hcounts, hqueue, hint⟩ := h.report
  have ht := h.onReport (f := fun r => { r with
      house := r.house.next
      nextSecond := r.nextSecond.map (· + 1000)
      interval := r.interval.map Interval.second })
    ⟨hhouse.next, hcounts, hqueue, mapInterval hint fun _ _ => Nat.min_le_left _ _⟩
  unfold State.clockSecond
  exact ite (fun _ => (ht.onPump h.pump.ringSecond).count) fun _ => ht

/-! ### Pump times, supply and selector -/

theorem endFallback (h : s.Ranged) : s.endFallback.Ranged := by
  have ht := h.onPump (f := fun p => { p with fallbackTime := none }) h.pump
  unfold State.endFallback
  dsimp only
  split
  · exact ht.withdrawClaim.makeStart
  · exact ht.withdrawClaim

theorem feedbackPresent (h : s.Ranged) : s.feedbackPresent.Ranged := by
  unfold State.feedbackPresent
  split
  · exact ite (fun _ => (h.onPump h.pump).feedbackInWindow) fun _ => h.notProved.onPump h.notProved.pump
  · exact h.onPump h.pump

theorem feedbackAbsent (h : s.Ranged) : s.feedbackAbsent.Ranged := by
  have ht := h.onPump (f := fun p => { p with
    feedback := false
    lossTimer := if p.proved then some (s.now + 1000) else none
    strayTimer := none
    openedAt := none }) h.pump
  unfold State.feedbackAbsent
  exact ite (fun _ => ht.released) fun _ => ht

theorem lockStray (h : s.Ranged) : s.lockStray.Ranged := by
  unfold State.lockStray
  exact ite (fun _ => h.lock) fun _ => h

theorem strayFeedback (h : s.Ranged) : s.strayFeedback.Ranged := by
  have ht := h.onPump (f := fun p => { p with strayTimer := none, lockPending := decide (p.state = .claiming) }) h.pump
  unfold State.strayFeedback
  exact ite (fun _ => ht.lockStray) fun _ => ite (fun _ => ht.loseClaim) fun _ => ht

theorem pumpSupplyLost (h : s.Ranged) : s.pumpSupplyLost.Ranged := by
  unfold State.pumpSupplyLost
  split
  · exact h.movePump h.pump
  · exact h.movePump h.pump
  · exact ite (fun _ => h) fun _ => h.movePump h.pump
  · exact h

theorem supplyLoss (h : s.Ranged) : s.supplyLoss.Ranged :=
  h.onSupply.count.pumpSupplyLost.reformAvailability.rakeSupplyLost

theorem supplyBack (h : s.Ranged) : s.supplyBack.Ranged := h.onSupply.reformAvailability.trigger

theorem leaveClaim (h : s.Ranged) : s.leaveClaim.Ranged := by
  unfold State.leaveClaim
  exact ite (fun _ => h.withdrawClaim) fun _ => h

theorem moveToOff (h : s.Ranged) : s.moveToOff.Ranged := by
  unfold State.moveToOff
  split
  · exact h
  · exact h
  · exact h
  · exact h.leaveClaim.movePump h.leaveClaim.pump

theorem moveToAuto (h : s.Ranged) : s.moveToAuto.Ranged := by
  unfold State.moveToAuto
  split
  · exact h.movePump h.pump
  · exact ite (fun _ => h.enterRunning) fun _ => ite (fun _ => h.movePump h.pump) fun _ => h.goStopping
  · exact h

theorem moveToHand (h : s.Ranged) : s.moveToHand.Ranged := by
  unfold State.moveToHand
  split
  · exact h.handStart
  · exact h.handStart
  · exact h.handStart
  · exact h.leaveClaim.handStart
  · exact h.movePump h.pump
  · exact h.movePump h.pump
  · exact h.movePump h.pump
  · exact h

theorem moveSelector {x : PumpPosition} (h : s.Ranged) : (s.moveSelector x).Ranged := by
  cases x
  case off => exact h.moveToOff
  case hand => exact h.moveToHand
  case auto => exact h.moveToAuto

/-! ### Rake -/

theorem moveScreen {x : ScreenPosition} (h : s.Ranged) : (s.moveScreen x).Ranged := by
  unfold State.moveScreen
  split
  · exact ite (fun _ => h.onScreen ⟨Nat.zero_le _, Nat.zero_le _, fun _ => Nat.zero_le _⟩) fun _ =>
      ite (fun _ => h.onScreen (h.screen.of_state rfl rfl (by simp))) fun _ => h
  · exact ite (fun _ => h.onScreen (h.screen.of_state rfl rfl (by simp))) fun _ => h

theorem camMoved {b : Bool} (h : s.Ranged) : (s.camMoved b).Ranged := by
  unfold State.camMoved
  split
  · exact h.onScreen h.screen
  · exact h.completeCycle
  · exact h

theorem overcurrentTaken (h : s.Ranged) : s.overcurrentTaken.Ranged := by
  unfold State.overcurrentTaken
  split
  · exact ite (fun hlt => h.onScreen (h.screen.reversing rfl rfl (Nat.le_of_lt_succ hlt))) fun _ => h.jam
  · exact h.jam
  · exact h

theorem setBlinded {v : Bool} (h : s.Ranged) : (s.setBlinded v).Ranged :=
  (h.onScreen h.screen).reformAvailability.handOver

/-! ### Start-up and latch reset -/

theorem beginMemory {a : Option BayAddress} (h : s.Ranged) : (s.beginMemory a).Ranged := h.onStartUp h.runClock

theorem beginIdentify (h : s.Ranged) : s.beginIdentify.Ranged := by
  have hq : ({ s.probes with
      queue := ProbeId.inOrder.filter fun p => (s.probes.record p).fitted } : ProbeUnit).InRange := h.probes
  have ht := (h.onStartUp (f := fun c => { c with step := .identify, stepBegan := s.now }) h.runClock).onProbes
    (f := fun u => nextExchange true s.now { u with queue := ProbeId.inOrder.filter fun p => (u.record p).fitted })
    (hq.nextExchange _ _)
  unfold State.beginIdentify
  exact ite (fun _ => ht.beginListen) fun _ => ht

theorem takeSettings {m : MemoryResult} {k : Checksum} {v : SectionFlags} {c : Settings} (h : s.Ranged) :
    (s.takeSettings m k v c).Ranged :=
  (((h.onStartUp h.runClock).onProbes (h.probes.configured _)).onStaging h.houseLevel).publish.beginIdentify

theorem startClocks (h : s.Ranged) : s.startClocks.Ranged :=
  ((h.onStartUp (Nat.zero_le _)).onReport h.report).onPump h.pump

theorem enableTransmitter (h : s.Ranged) : s.enableTransmitter.Ranged := h.onLine

theorem freshenOwn (h : s.Ranged) : s.freshenOwn.Ranged := by
  unfold State.freshenOwn
  split
  · exact h
  · exact h.onEntry ⟨Nat.zero_le _, (h.peers _).2⟩

theorem firstPump (h : s.Ranged) : s.firstPump.Ranged := h.movePump h.pump

theorem firstScreen (h : s.Ranged) : (s.onScreen Screen.firstState).Ranged := by
  refine h.onScreen ?_
  unfold Screen.firstState
  split
  · exact h.screen.of_state rfl rfl (by simp)
  · exact h.screen

theorem weirOn (h : s.Ranged) : s.weirOn.Ranged := h.onWeir h.weir

theorem flagIsolation (h : s.Ranged) : s.flagIsolation.Ranged := by
  unfold State.flagIsolation
  exact ite (fun _ => h.setIsolatedFlag) fun _ => h

theorem firstSupply (h : s.Ranged) : s.firstSupply.Ranged := by
  unfold State.firstSupply
  exact ite (fun _ => h) fun _ => h.supplyLoss

theorem takeHandFromOut (h : s.Ranged) : s.takeHandFromOut.Ranged := by
  unfold State.takeHandFromOut
  exact ite (fun _ => h.handStart) fun _ => h

theorem endStartUp (h : s.Ranged) : s.endStartUp.Ranged :=
  h.startClocks.enableTransmitter.freshenOwn.beginInterval.firstPump.firstScreen.restartInterval.weirOn.flagIsolation
    |>.firstSupply.takeHandFromOut.placeStatus.readConditions

theorem pumpLatchReset (h : s.Ranged) : s.pumpLatchReset.Ranged := by
  have ht := h.onPump (f := fun p => { p with failures := 0, cooling := none }) ⟨Nat.zero_le _, h.pump.2⟩
  unfold State.pumpLatchReset
  exact ite (fun _ => (ht.movePump ht.pump).takeHandFromOut) fun _ => ht

theorem screenLatchReset (h : s.Ranged) : (s.onScreen Screen.latchReset).Ranged :=
  h.onScreen ⟨h.screen.1, Nat.zero_le _, fun _ => Nat.zero_le _⟩

theorem resetLatches (h : s.Ranged) : s.resetLatches.Ranged :=
  ((((h.onLine.eitherOrder (fun _ => pumpLatchReset) fun _ => screenLatchReset).onSupply).handOver.handOver
    |>.reformAvailability).isolationChange).retaken.retaken

theorem latchReset (h : s.Ranged) : s.latchReset.Ranged := h.eitherOrder (fun _ => acceptAll) fun _ => resetLatches

/-- The machine after power-up is in range (R190). -/
theorem reset : State.reset.Ranged := by
  have hnone (x : Nat) (hx : x ∈ (none : Option Nat)) : x ≤ 9999 := absurd hx (by simp)
  refine ⟨Nat.zero_le _, ⟨fun p => ?_, fun o ho => absurd ho List.not_mem_nil⟩, fun a => ?_, hnone, by decide, by decide,
    ⟨by decide, by decide⟩, by decide, ⟨by decide, hnone⟩, by decide, fun i hi => absurd hi (Option.not_mem_none i)⟩
  · cases p <;> exact ⟨hnone, hnone⟩
  · rw [show State.reset.peers.get a = .initial from Twelve.get_all _ a]
    exact ⟨le_rfl, hnone⟩

theorem poweredUp (s : State) : s.poweredUp.Ranged := { reset with }

end State.Ranged
end Sys2Proof.Machine

namespace Sys2Proof.Machine

/-- The next state that a command answers is in range. -/
def Result.Ranged : Result → Prop
  | .next t => t.Ranged
  | .fault _ => True
  | .refused _ => True

namespace State.Ranged

variable {s : State}

/-! ### Commands -/

theorem restart (dt : Nat) (h : s.Ranged) : (execRestart dt s).Ranged := by
  unfold execRestart
  split
  · exact (poweredUp s).onPanel
  · exact h.elapse dt

theorem resetPress (dt : Nat) (h : s.Ranged) : (execResetPress dt s).Ranged := by
  have ht := h.elapse dt
  exact ite (fun _ => ht) fun _ => ite (fun _ => ht.onPanel.onStartUp ht.runClock) fun _ => ht.onPanel

theorem latchResetCommand (dt : Nat) (h : s.Ranged) : (execLatchReset dt s).Ranged := by
  have ht := h.elapse dt
  unfold execLatchReset
  dsimp only
  split
  · exact ite (fun _ => (ht.onStartUp ht.runClock).onPanel.latchReset.finish) fun _ => ht
  · exact ht

theorem strapsDecided (dt : Nat) (number : BitVec 4) (h : s.Ranged) : (execStrapsDecided dt number s).Ranged :=
  ite (fun _ => (h.elapse dt).beginMemory) fun _ => h.elapse dt

theorem strapsTimeout (dt : Nat) (h : s.Ranged) : (execStrapsTimeout dt s).Ranged :=
  ite (fun _ => (h.reach dt _).beginMemory) fun _ => h.elapse dt

theorem memoryAttemptStart (dt : Nat) (h : s.Ranged) : (execMemoryAttemptStart dt s).Ranged := by
  unfold execMemoryAttemptStart
  split
  · exact (h.reach dt _).onStartUp (h.reach dt _).runClock
  · exact h.elapse dt

theorem memoryNotAcknowledged (dt : Nat) (h : s.Ranged) : (execMemoryNotAcknowledged dt s).Ranged := by
  have ht := h.elapse dt
  exact ite (fun _ => ite (fun _ => ht.onStartUp ht.runClock) fun _ => ht.takeSettings) fun _ => ht

theorem memoryReadComplete (dt : Nat) (image : List Byte) (h : s.Ranged) :
    (execMemoryReadComplete dt image s).Ranged := by
  have ht := h.elapse dt
  exact ite (fun _ => ite (fun _ => ht.takeSettings) fun _ => ht.takeSettings) fun _ => ht

theorem endOfStartUp (dt : Nat) (h : s.Ranged) : (execEndOfStartUp dt s).Ranged :=
  ite (fun _ => (h.reach dt _).endStartUp.finish) fun _ => h.elapse dt

theorem probeCycleBegin (dt : Nat) (h : s.Ranged) : (execProbeCycleBegin dt s).Ranged := by
  unfold execProbeCycleBegin
  split
  · exact h.elapse dt
  · exact ite (fun _ => (h.reach dt _).beginCycle.finish) fun _ => h.elapse dt

theorem noReply (dt : Nat) (h : s.Ranged) : (execNoReply dt s).Ranged := by
  unfold execNoReply
  split
  · exact (h.reach dt _).exchangeMissed.finish
  · exact h.elapse dt

theorem probeReplyEnd (dt : Nat) (reply : List LinkByte) (h : s.Ranged) : (execProbeReplyEnd dt reply s).Ranged := by
  have ht := h.elapse dt
  unfold execProbeReplyEnd
  split
  · exact ite (fun _ => ht) fun _ => ite (fun _ => ht.identifyReplied.finish) fun _ => ht.readReplied.finish
  · exact ht

theorem floatExcitation (dt : Nat) (float : FloatId) (reading : FloatReading) (h : s.Ranged) :
    (execFloatExcitation dt float reading s).Ranged := by
  have ht := (h.reach dt s.floats.pulseEnd).onFloats (f := fun u => (u.excite float reading).pulseEnded)
  exact ite (fun _ => ite (fun _ => ht.afterExcitation.finish) fun _ => ht.highChanged) fun _ => h.elapse dt

theorem lineIdle (dt : Nat) (h : s.Ranged) : (execLineIdle dt s).Ranged :=
  ite (fun _ => (h.elapse dt).onLine.isolationChange.finish) fun _ => h.elapse dt

theorem startBitRead (dt : Nat) (h : s.Ranged) : (execStartBitRead dt s).Ranged :=
  ite (fun _ => (h.elapse dt).onLine) fun _ => h.elapse dt

theorem arbitrationLost (dt : Nat) (h : s.Ranged) : (execArbitrationLost dt s).Ranged :=
  ite (fun _ => (h.elapse dt).endField) fun _ => h.elapse dt

theorem frameCommitted (dt : Nat) (h : s.Ranged) : (execFrameCommitted dt s).Ranged :=
  ite (fun _ => (h.elapse dt).onLine) fun _ => h.elapse dt

theorem frameComplete (dt : Nat) (h : s.Ranged) : (execFrameComplete dt s).Ranged := by
  have ht := h.elapse dt
  unfold execFrameComplete
  dsimp only
  split
  · split
    · exact ht.completeAttempt.toldComplete.finish
    · exact ht
  · exact ht

theorem notFollowing (dt : Nat) (h : s.Ranged) : (execNotFollowing dt s).Ranged := by
  have ha := (h.elapse dt).dropAttempt.onLine (f := fun u => { u with
    idle := false, notFollowingCount := u.notFollowingCount + 1 }) |>.lineError
  exact ite (fun _ => (ite (fun _ => ha.disableTransmitter) fun _ => ha).finish) fun _ => h.elapse dt

theorem arbitrationReadbackFault (dt : Nat) (h : s.Ranged) : (execArbitrationReadbackFault dt s).Ranged :=
  ite (fun _ => (h.elapse dt).endField.lineError.finish) fun _ => h.elapse dt

theorem readbackMismatch (dt : Nat) (h : s.Ranged) : (execReadbackMismatch dt s).Ranged := by
  have ha := (h.elapse dt).dropAttempt.onLine (f := fun u => { u with conflictAborts := u.conflictAborts + 1 })
    |>.lineError
  exact ite (fun _ => (ite (fun _ => ha.eitherOrder (fun _ => attemptBack) fun _ => latchConflict)
    fun _ => ha.attemptBack).finish) fun _ => h.elapse dt

theorem txHeld (dt : Nat) (h : s.Ranged) : (execTxHeld dt s).Ranged :=
  ite (fun _ => (h.elapse dt).disableTransmitter.finish) fun _ => h.elapse dt

theorem lineHeld (dt : Nat) (h : s.Ranged) : (execLineHeld dt s).Ranged :=
  ite (fun _ => (h.elapse dt).onLine.isolationChange.finish) fun _ => h.elapse dt

theorem frameDiscarded (dt : Nat) (bits : List Bool) (h : s.Ranged) : (execFrameDiscarded dt bits s).Ranged := by
  refine ite (fun _ => ?_) fun _ => h.elapse dt
  split
  · exact (h.elapse dt).lineTaken.lineError.finish
  · exact h.elapse dt

theorem addressConflict (dt : Nat) (cls : BitVec 3) (payload : List Byte) (h : s.Ranged) :
    (execAddressConflict dt cls payload s).Ranged := by
  unfold execAddressConflict
  dsimp only
  split
  · exact h.elapse dt
  · exact (h.elapse dt).receive fun _ _ _ => refreshPeer

theorem status (dt : Nat) (sender : BitVec 4) (payload : List Byte) (h : s.Ranged) :
    (execStatus dt sender payload s).Ranged :=
  (h.elapse dt).receive fun hpass _ _ => statusHeard (readStatus_level_inRange hpass)

theorem claim (dt : Nat) (sender : BitVec 4) (payload : List Byte) (h : s.Ranged) :
    (execClaim dt sender payload s).Ranged := (h.elapse dt).receive fun _ _ _ => claimHeard

theorem spillNotice (dt : Nat) (sender : BitVec 4) (payload : List Byte) (h : s.Ranged) :
    (execSpillNotice dt sender payload s).Ranged := (h.elapse dt).receive fun _ _ _ => noticeHeard

theorem time (dt : Nat) (day : BitVec 16) (second : BitVec 24) (h : s.Ranged) :
    (execTime dt day second s).Ranged :=
  (h.elapse dt).townRequest fun _ hu => ite (fun hsecond => hu.takeTime ⟨day.isLt, hsecond⟩) fun _ => hu

theorem closeInterval (dt : Nat) (h : s.Ranged) : (execCloseInterval dt s).Ranged :=
  (h.elapse dt).townRequest fun _ hu => ite (fun _ => hu) fun _ => hu.closeInProgress

theorem unknownTownKind (dt : Nat) (payload : List Byte) (h : s.Ranged) : (execUnknownTownKind dt payload s).Ranged := by
  have ht := h.elapse dt
  unfold execUnknownTownKind
  dsimp only
  split
  · exact ite (fun _ => ht.lineTaken.lineError.finish) fun _ => ht
  · exact ite (fun _ => ht.townRequest fun _ hu => hu) fun _ => ht

theorem peerStale (dt : Nat) (peer : BayAddress) (h : s.Ranged) : (execPeerStale dt peer s).Ranged := by
  refine ite (fun _ => ?_) fun _ => h.elapse dt
  have ht := h.elapse (max dt (3500 - (s.peers.get peer).age))
  exact (ht.onEntry (f := PeerEntry.gone) (ht.peers peer)).clearClaimMark.formA12.finish

/-- The entry of a peer that has become ABSENT keeps its age and has no level (R43). -/
theorem peerAbsent (dt : Nat) (peer : BayAddress) (h : s.Ranged) : (execPeerAbsent dt peer s).Ranged := by
  refine ite (fun _ => ?_) fun _ => h.elapse dt
  have ht := h.elapse (max dt (30000 - (s.peers.get peer).age))
  have hf := (ht.onEntry (a := peer) (f := PeerEntry.forgotten) ⟨(ht.peers peer).1, fun x hx => absurd hx (by
    simp [PeerEntry.forgotten, PeerEntry.initial])⟩).clearClaimMark (a := peer)
  exact (hf.onStaging hf.houseLevel).formA12.finish

theorem isolatedStartDelayEnd (dt : Nat) (h : s.Ranged) : (execIsolatedStartDelayEnd dt s).Ranged := by
  unfold execIsolatedStartDelayEnd
  split
  · exact ((h.reach dt _).onStaging h.houseLevel).evaluate.finish
  · exact h.elapse dt

theorem drawdownExpiry (dt : Nat) (h : s.Ranged) : (execDrawdownExpiry dt s).Ranged := by
  unfold execDrawdownExpiry
  split
  · exact (h.reach dt _).onStaging h.houseLevel
  · exact h.elapse dt

theorem runClockSecond (dt : Nat) (h : s.Ranged) : (execRunClockSecond dt s).Ranged := by
  unfold execRunClockSecond
  split
  · exact h.elapse dt
  · exact (h.reach dt _).clockSecond

theorem creditHour (dt : Nat) (h : s.Ranged) : (execCreditHour dt s).Ranged := by
  unfold execCreditHour
  split
  · exact h.elapse dt
  · exact (h.reach dt _).onPump h.pump.ringHour

theorem townAbsent (dt : Nat) (h : s.Ranged) : (execTownAbsent dt s).Ranged := by
  unfold execTownAbsent
  split
  · exact h.elapse dt
  · exact ite (fun _ => ((h.reach dt _).onReport (h.reach dt _).report).finish) fun _ => h.elapse dt

theorem intervalBoundary (dt : Nat) (h : s.Ranged) : (execIntervalBoundary dt s).Ranged :=
  ite (fun _ => (h.elapse dt).closeInProgress.finish) fun _ => h.elapse dt

theorem intervalLengthLimit (dt : Nat) (h : s.Ranged) : (execIntervalLengthLimit dt s).Ranged :=
  ite (fun _ => (h.elapse dt).closeInProgress.finish) fun _ => h.elapse dt

theorem rearm (dt : Nat) (kind : AlarmKind) (h : s.Ranged) : (execRearm dt kind s).Ranged := by
  unfold execRearm
  split
  · exact (h.reach dt _).setAlarm
  · exact h.elapse dt

theorem guardExpiry (dt : Nat) (h : s.Ranged) : (execGuardExpiry dt s).Ranged := by
  unfold execGuardExpiry
  split
  · exact h.elapse dt
  · exact ((h.reach dt _).onPump h.pump).actOnStart.finish

theorem claimTimeEnd (dt : Nat) (h : s.Ranged) : (execClaimTimeEnd dt s).Ranged := by
  unfold execClaimTimeEnd
  split
  · exact h.elapse dt
  · exact ite (fun _ => (h.reach dt _).onPump h.pump) fun _ => h.reach dt _

theorem fallbackTimeEnd (dt : Nat) (h : s.Ranged) : (execFallbackTimeEnd dt s).Ranged := by
  unfold execFallbackTimeEnd
  split
  · exact h.elapse dt
  · exact ite (fun _ => (h.reach dt _).endFallback.finish) fun _ => h.reach dt _

theorem runFeedbackChange (dt : Nat) (present : Bool) (h : s.Ranged) : (execRunFeedbackChange dt present s).Ranged :=
  ite (fun _ => h.elapse dt) fun _ =>
    (ite (fun _ => (h.elapse dt).feedbackPresent) fun _ => (h.elapse dt).feedbackAbsent).finish

theorem proofTimeEnd (dt : Nat) (h : s.Ranged) : (execProofTimeEnd dt s).Ranged := by
  unfold execProofTimeEnd
  split
  · exact h.elapse dt
  · exact ite (fun _ => h.reach dt _) fun _ => (h.reach dt _).notProved.finish

theorem feedbackLost (dt : Nat) (h : s.Ranged) : (execFeedbackLost dt s).Ranged := by
  unfold execFeedbackLost
  split
  · exact h.elapse dt
  · exact (h.reach dt _).failure.finish

theorem provingRunEnd (dt : Nat) (h : s.Ranged) : (execProvingRunEnd dt s).Ranged := by
  unfold execProvingRunEnd
  split
  · exact h.elapse dt
  · exact (h.reach dt _).onPump ⟨Nat.zero_le _, h.pump.2⟩

theorem minRunEnd (dt : Nat) (h : s.Ranged) : (execMinRunEnd dt s).Ranged := by
  unfold execMinRunEnd
  split
  · exact h.elapse dt
  · exact ((h.reach dt _).onPump h.pump).actOnStop.finish

theorem stopDelayEnd (dt : Nat) (h : s.Ranged) : (execStopDelayEnd dt s).Ranged := by
  unfold execStopDelayEnd
  split
  · exact h.elapse dt
  · next t _ =>
    have hu := (h.reach dt t).onPump (f := fun p => { p with stopDelay := none }) h.pump
    exact ite (fun _ => hu.goStopping.finish) fun _ => hu

theorem releaseTimeEnd (dt : Nat) (h : s.Ranged) : (execReleaseTimeEnd dt s).Ranged := by
  unfold execReleaseTimeEnd
  split
  · exact h.elapse dt
  · exact ite (fun _ => (h.reach dt _).lock.finish) fun _ => h.reach dt _

theorem feedbackWithoutCommand (dt : Nat) (h : s.Ranged) : (execFeedbackWithoutCommand dt s).Ranged := by
  unfold execFeedbackWithoutCommand
  split
  · exact h.elapse dt
  · exact (h.reach dt _).strayFeedback.finish

theorem coolingTimeEnd (dt : Nat) (h : s.Ranged) : (execCoolingTimeEnd dt s).Ranged := by
  unfold execCoolingTimeEnd
  split
  · exact h.elapse dt
  · next t _ =>
    have hu := (h.reach dt t).onPump (f := fun p => { p with cooling := none }) h.pump
    exact ite (fun _ => (hu.movePump hu.pump).finish) fun _ => hu

theorem minOffEnd (dt : Nat) (h : s.Ranged) : (execMinOffEnd dt s).Ranged := by
  unfold execMinOffEnd
  split
  · exact h.elapse dt
  · exact ((h.reach dt _).onPump h.pump).reformAvailability.finish

theorem supplyStateChange (dt : Nat) (healthy : Bool) (h : s.Ranged) :
    (execSupplyStateChange dt healthy s).Ranged := by
  have hu := (h.elapse dt).onSupply (f := fun v => { v with healthy := healthy })
  exact ite (fun _ => h.elapse dt) fun _ =>
    ite (fun _ => (ite (fun _ => hu.supplyBack.handOver) fun _ => hu.supplyLoss.handOver).finish) fun _ => hu

theorem pumpSelectorMove (dt : Nat) (inputs : SelectorInputs) (h : s.Ranged) :
    (execPumpSelectorMove dt inputs s).Ranged := by
  have hu := (h.elapse dt).onPump (f := fun p => { p with selector := selectorPosition inputs }) h.pump
  exact ite (fun _ => h.elapse dt) fun _ =>
    ite (fun _ => hu.moveSelector.reformAvailability.finish) fun _ => hu.publish.finish

theorem screenSelectorMove (dt : Nat) (position : ScreenPosition) (h : s.Ranged) :
    (execScreenSelectorMove dt position s).Ranged := by
  have hu := (h.elapse dt).onScreen (f := fun c => { c with selector := position }) (h.elapse dt).screen
  exact ite (fun _ => h.elapse dt) fun _ => ite (fun _ => hu.moveScreen) fun _ => hu

theorem rakeNow (dt : Nat) (h : s.Ranged) : (execRakeNow dt s).Ranged :=
  ite (fun _ => h.elapse dt) fun _ => (h.elapse dt).onPanel.trigger

theorem differentialTrigger (dt : Nat) (h : s.Ranged) : (execDifferentialTrigger dt s).Ranged := by
  unfold execDifferentialTrigger
  split
  · exact h.elapse dt
  · exact ((h.reach dt _).onScreen (h.reach dt _).screen).trigger

theorem intervalTrigger (dt : Nat) (h : s.Ranged) : (execIntervalTrigger dt s).Ranged := by
  unfold execIntervalTrigger
  split
  · exact h.elapse dt
  · exact (h.reach dt _).restartInterval.trigger

theorem camChange (dt : Nat) (closed : Bool) (h : s.Ranged) : (execCamChange dt closed s).Ranged := by
  have hu := (h.elapse dt).onScreen (f := fun c => { c with camClosed := closed }) (h.elapse dt).screen
  exact ite (fun _ => h.elapse dt) fun _ => ite (fun _ => hu.camMoved) fun _ => hu

theorem forwardTimeLimit (dt : Nat) (h : s.Ranged) : (execForwardTimeLimit dt s).Ranged :=
  ite (fun _ => (h.elapse _).jam.finish) fun _ => h.elapse dt

theorem rakeOvercurrentInput (dt : Nat) (active : Bool) (h : s.Ranged) :
    (execRakeOvercurrentInput dt active s).Ranged := (h.elapse dt).onScreen (h.elapse dt).screen

theorem overcurrent (dt : Nat) (h : s.Ranged) : (execOvercurrent dt s).Ranged := by
  unfold execOvercurrent
  split
  · exact h.elapse dt
  · exact (h.reach dt _).overcurrentTaken.finish

theorem reverseEnergise (dt : Nat) (h : s.Ranged) : (execReverseEnergise dt s).Ranged := by
  unfold execReverseEnergise
  split
  · exact h.elapse dt
  · exact ite (fun _ => (h.reach dt _).onScreen (h.reach dt _).screen) fun _ => h.reach dt _

theorem reversingEnd (dt : Nat) (h : s.Ranged) : (execReversingEnd dt s).Ranged := by
  unfold execReversingEnd
  split
  · next hstate _ =>
    exact (h.reach dt _).onScreen ((h.reach dt _).screen.reversing rfl rfl (h.screen.2.2 (.inl hstate)))
  · exact h.elapse dt

theorem pauseEnd (dt : Nat) (h : s.Ranged) : (execPauseEnd dt s).Ranged := by
  unfold execPauseEnd
  split
  · next t hstate _ =>
    exact (h.reach dt t).onScreen ⟨(h.reach dt t).screen.1, Nat.succ_le_succ (h.screen.2.2 (.inr hstate)),
      fun g => absurd g (by simp)⟩
  · exact h.elapse dt

theorem blindSet (dt : Nat) (h : s.Ranged) : (execBlindSet dt s).Ranged := by
  unfold execBlindSet
  split
  · exact h.elapse dt
  · exact ite (fun _ => h.reach dt _) fun _ => (h.reach dt _).setBlinded.finish

theorem blindClear (dt : Nat) (h : s.Ranged) : (execBlindClear dt s).Ranged := by
  unfold execBlindClear
  split
  · exact h.elapse dt
  · exact ite (fun _ => (h.reach dt _).setBlinded.finish) fun _ => h.reach dt _

theorem accept (dt : Nat) (h : s.Ranged) : (execAccept dt s).Ranged :=
  ite (fun _ => h.elapse dt) fun _ => ite (fun _ => (h.elapse dt).onPanel.acceptAll) fun _ => (h.elapse dt).onPanel

theorem buttonRelease (dt : Nat) (button : Button) (h : s.Ranged) : (execButtonRelease dt button s).Ranged := by
  have ht := h.elapse dt
  cases button
  case rakeNow => exact ht.onPanel
  case accept => exact ht.onPanel
  case reset => exact ite (fun _ => ht.onPanel) fun _ => ht

/-- Whatever command it is, the next state is in range. -/
theorem exec (c : Instr) (h : s.Ranged) : Result.Ranged (exec c s) := by
  cases c with
  | powerUp => exact poweredUp s
  | resetPress dt => exact h.resetPress dt
  | latchReset dt => exact h.latchResetCommand dt
  | restart dt => exact h.restart dt
  | strapsDecided dt number => exact h.strapsDecided dt number
  | strapsTimeout dt => exact h.strapsTimeout dt
  | memoryAttemptStart dt => exact h.memoryAttemptStart dt
  | memoryNotAcknowledged dt => exact h.memoryNotAcknowledged dt
  | memoryReadComplete dt image => exact h.memoryReadComplete dt image
  | endOfStartUp dt => exact h.endOfStartUp dt
  | probeCycleBegin dt => exact h.probeCycleBegin dt
  | read dt => exact h.startAttempt
  | identify dt => exact h.startAttempt
  | noReply dt => exact h.noReply dt
  | probeReplyEnd dt reply => exact h.probeReplyEnd dt reply
  | probeByteDiscarded dt _ => exact h.elapse dt
  | floatExcitation dt float reading => exact h.floatExcitation dt float reading
  | lineIdle dt => exact h.lineIdle dt
  | arbitrationLost dt => exact h.arbitrationLost dt
  | frameCommitted dt => exact h.frameCommitted dt
  | frameComplete dt => exact h.frameComplete dt
  | notFollowing dt => exact h.notFollowing dt
  | arbitrationReadbackFault dt => exact h.arbitrationReadbackFault dt
  | readbackMismatch dt => exact h.readbackMismatch dt
  | txHeld dt => exact h.txHeld dt
  | lineHeld dt => exact h.lineHeld dt
  | frameDiscarded dt bits => exact h.frameDiscarded dt bits
  | addressConflict dt cls payload => exact h.addressConflict dt cls payload
  | status dt sender payload => exact h.status dt sender payload
  | claim dt sender payload => exact h.claim dt sender payload
  | spillNotice dt sender payload => exact h.spillNotice dt sender payload
  | alarmReport dt _ _ => exact (h.elapse dt).receive fun _ _ _ => refreshPeer
  | spillRecord dt _ _ => exact (h.elapse dt).receive fun _ _ _ => refreshPeer
  | intervalReport dt _ _ => exact (h.elapse dt).receive fun _ _ _ => refreshPeer
  | time dt day second => exact h.time dt day second
  | closeInterval dt => exact h.closeInterval dt
  | drawdown dt _ _ => exact (h.elapse dt).townRequest fun _ => takeDrawdown
  | acceptAlarms dt => exact (h.elapse dt).townRequest fun _ => acceptAll
  | unknownTownKind dt payload => exact h.unknownTownKind dt payload
  | peerStale dt peer => exact h.peerStale dt peer
  | peerAbsent dt peer => exact h.peerAbsent dt peer
  | isolatedStartDelayEnd dt => exact h.isolatedStartDelayEnd dt
  | drawdownExpiry dt => exact h.drawdownExpiry dt
  | runClockSecond dt => exact h.runClockSecond dt
  | creditHour dt => exact h.creditHour dt
  | guardExpiry dt => exact h.guardExpiry dt
  | claimTimeEnd dt => exact h.claimTimeEnd dt
  | fallbackTimeEnd dt => exact h.fallbackTimeEnd dt
  | runFeedbackChange dt present => exact h.runFeedbackChange dt present
  | proofTimeEnd dt => exact h.proofTimeEnd dt
  | feedbackLost dt => exact h.feedbackLost dt
  | provingRunEnd dt => exact h.provingRunEnd dt
  | minRunEnd dt => exact h.minRunEnd dt
  | stopDelayEnd dt => exact h.stopDelayEnd dt
  | releaseTimeEnd dt => exact h.releaseTimeEnd dt
  | feedbackWithoutCommand dt => exact h.feedbackWithoutCommand dt
  | coolingTimeEnd dt => exact h.coolingTimeEnd dt
  | minOffEnd dt => exact h.minOffEnd dt
  | supplyStateChange dt healthy => exact h.supplyStateChange dt healthy
  | pumpSelectorMove dt inputs => exact h.pumpSelectorMove dt inputs
  | screenSelectorMove dt position => exact h.screenSelectorMove dt position
  | rakeNow dt => exact h.rakeNow dt
  | differentialTrigger dt => exact h.differentialTrigger dt
  | intervalTrigger dt => exact h.intervalTrigger dt
  | camChange dt closed => exact h.camChange dt closed
  | forwardTimeLimit dt => exact h.forwardTimeLimit dt
  | rakeOvercurrentInput dt active => exact h.rakeOvercurrentInput dt active
  | overcurrent dt => exact h.overcurrent dt
  | reverseEnergise dt => exact h.reverseEnergise dt
  | reversingEnd dt => exact h.reversingEnd dt
  | pauseEnd dt => exact h.pauseEnd dt
  | blindSet dt => exact h.blindSet dt
  | blindClear dt => exact h.blindClear dt
  | rearm dt kind => exact h.rearm dt kind
  | accept dt => exact h.accept dt
  | townAbsent dt => exact h.townAbsent dt
  | intervalBoundary dt => exact h.intervalBoundary dt
  | intervalLengthLimit dt => exact h.intervalLengthLimit dt
  | startBitRead dt => exact h.startBitRead dt
  | buttonRelease dt button => exact h.buttonRelease dt button

theorem step (h : s.Ranged) : Result.Ranged (step s) := by
  unfold Machine.step
  split
  · exact h.elapse 1
  · exact h.dequeued.exec _

end State.Ranged
end Sys2Proof.Machine

open Sys2Proof.Machine in
/-- Settles O59: the ranges are carried through every operation that a command's meaning calls. -/
theorem countsAndLevelsStayInRange : Obligations.CountsAndLevelsStayInRange := by
  intro s t hcounts hlevels hstep
  have h : Result.Ranged (step s) := ((State.ranged_iff s).mpr ⟨hcounts, hlevels⟩).step
  rw [hstep] at h
  exact (State.ranged_iff t).mp h

/-! ## The probe link

Bytes on the link (R3, R4, R6) and the judgement of replies (R7 to R9, R14). -/

namespace Sys2Proof.Machine

/-! ### Bytes as they are sent -/

/-- Bit `i` of the number that flags make is flag `i`. -/
theorem testBit_flagBits (fs : List Bool) (i : Nat) : (flagBits fs).testBit i = fs.getD i false := by
  induction fs generalizing i with
  | nil => simp [flagBits]
  | cons b fs ih =>
    have hbit : flagBits (b :: fs) = Nat.bit b (flagBits fs) := by rw [Nat.bit_val]; rfl
    rw [hbit]
    cases i with
    | zero => simp
    | succ i => rw [Nat.testBit_bit_succ, ih]; simp

/-- A byte is the number that its eight bits make, the least significant first. -/
theorem ofNat_flagBits (b : Byte) : BitVec.ofNat 8 (flagBits ((List.range 8).map b.toNat.testBit)) = b := by
  refine BitVec.eq_of_getLsbD_eq fun i hi => ?_
  rw [BitVec.getLsbD_ofNat, testBit_flagBits]
  simp only [hi, decide_true, Bool.true_and, List.getD_eq_getElem?_getD, List.getElem?_map,
    List.getElem?_range hi, Option.map_some, Option.getD_some]
  rfl

/-- The running parity of a list of bits is the parity of the number of ones among them. -/
theorem foldl_parity (f : Nat → Bool) (l : List Nat) (odd : Bool) :
    l.foldl (fun odd i => odd != f i) odd = (odd != decide ((l.map f).count true % 2 = 1)) := by
  induction l generalizing odd with
  | nil => simp
  | cons i l ih =>
    rw [List.foldl_cons, ih, List.map_cons, List.count_cons]
    rcases Nat.mod_two_eq_zero_or_one ((l.map f).count true) with h | h <;> cases f i <;> cases odd <;>
      simp [h, Nat.add_mod]

/-- With its parity bit a sent byte holds an odd number of ones (R3). -/
theorem odd_ones_sent (b : Byte) : ((serialBits (sentByte b)).take 10).count true % 2 = 1 := by
  have hbits : (serialBits (sentByte b)).take 10 =
      (false :: (List.range 8).map b.toNat.testBit) ++ [!oddOnes b] := rfl
  rw [hbits, List.count_append, oddOnes, foldl_parity]
  rcases Nat.mod_two_eq_zero_or_one (((List.range 8).map b.toNat.testBit).count true) with h | h <;>
    simp only [List.count_cons, h] <;> simp [h, Nat.add_mod]

/-- Eleven bits on the link are read as the byte that was sent (R3). -/
theorem ofSerialBits_serialBits (x : LinkByte) : ofSerialBits (serialBits x) = some x := by
  have hread : ofSerialBits (serialBits x) =
      some ⟨BitVec.ofNat 8 (flagBits ((List.range 8).map x.data.toNat.testBit)), x.parity, x.stop⟩ := rfl
  rw [hread, ofNat_flagBits]

/-! ### Attempts (R6) -/

/-- An attempt that the exchange in progress is due to make opens the reply window (R6). -/
theorem State.startAttempt_due {s : State} {dt : Nat} {p : ProbeId} {identify : Bool} {repeats start : Nat}
    (h : s.probes.exchange = some ⟨p, identify, repeats, .due start⟩) :
    s.startAttempt identify dt = (s.reach dt start).onProbes fun u =>
      { u with exchange := some ⟨p, identify, repeats, .window ((s.reach dt start).now + 23)⟩ } := by
  simp [State.startAttempt, h]

/-- READ and IDENTIFY start the attempt of their kind (R6). -/
theorem exec_attempt (identify : Bool) (dt : Nat) (s : State) :
    exec (if identify then .identify dt else .read dt) s = .next (s.startAttempt identify dt) := by
  cases identify <;> rfl

/-- What the request of an attempt puts on the probe link (R3, R6). -/
theorem State.probeRequest_window {t : State} {p : ProbeId} {identify : Bool} {repeats closes : Nat}
    (h : t.probes.exchange = some ⟨p, identify, repeats, .window closes⟩) :
    t.probeRequest = some (request p identify) := by
  simp [State.probeRequest, h]

/-! ### Samples and identities (R7 to R9, R14) -/

/-- A byte is free of error when its stop bit was found and its parity bit makes the ones odd (R3). -/
theorem parityError_eq_false {b : Byte} {parity stop : Bool} :
    parityError ⟨b, parity, stop⟩ = false ↔ stop = true ∧ parity = !oddOnes b := by
  cases h : oddOnes b <;> cases parity <;> cases stop <;> simp [parityError, h]

/-- The sample that four bytes of content give (R8). -/
theorem readSample_eq_some {high low status check : Byte} {reading : Nat} {mark : AtLimit} :
    readSample [high, low, status, check] = some (reading, mark) ↔
      check.toNat = 255 - (high.toNat + low.toNat + status.toNat) % 256 ∧
        ((status.getLsbD 0 = true ∧ status.getLsbD 1 = false ∧ reading = 9999 ∧ mark = .over) ∨
         (status.getLsbD 0 = false ∧ status.getLsbD 1 = true ∧ reading = 0 ∧ mark = .under) ∨
         (status.getLsbD 0 = false ∧ status.getLsbD 1 = false ∧ reading = high.toNat * 256 + low.toNat ∧
           reading ≤ 9999 ∧ mark = .clear)) := by
  have hcheck : field [high, low, status, check] 3 1 = check.toNat := by simp [field, readBig]
  have hsum : field [high, low, status, check] 0 1 + field [high, low, status, check] 1 1 +
      field [high, low, status, check] 2 1 = high.toNat + low.toNat + status.toNat := by simp [field, readBig]
  have hbit (i : Nat) : (field [high, low, status, check] 2 1).testBit i = status.getLsbD i := by
    simp [field, readBig, BitVec.testBit_toNat]
  have hreading : field [high, low, status, check] 0 2 = high.toNat * 256 + low.toNat := by
    simp [field, readBig, List.range_succ]
  simp only [readSample, hcheck, hsum, hbit, hreading]
  by_cases hc : check.toNat = 255 - (high.toNat + low.toNat + status.toNat) % 256
  · cases status.getLsbD 0 <;> cases status.getLsbD 1
    case false.false =>
      by_cases hle : high.toNat * 256 + low.toNat ≤ 9999 <;> simp [hc, hle]
      · constructor
        · rintro ⟨rfl, rfl⟩; exact ⟨rfl, hle, rfl⟩
        · rintro ⟨rfl, _, rfl⟩; exact ⟨rfl, rfl⟩
      · rintro rfl h; exact absurd h (by omega)
    all_goals simp [hc, eq_comm]
  · simp [hc]

/-- The kind code that two bytes of content give (R14). -/
theorem readKind_eq_some {kind check : Byte} {n : Nat} :
    readKind [kind, check] = some n ↔ check.toNat = 255 - kind.toNat ∧ n = kind.toNat := by
  have h0 : field [kind, check] 0 1 = kind.toNat := by simp [field, readBig]
  have h1 : field [kind, check] 1 1 = check.toNat := by simp [field, readBig]
  simp only [readKind, h0, h1]
  split <;> simp_all [eq_comm]

section
variable {α : Type} {length : Nat} {content : List Byte → Option α} {reply : List LinkByte}

/-- A reply of its full length is a parity error exactly when one of its bytes has one (R7). -/
theorem judgeReply_eq_parityError (hlength : reply.length = length) :
    judgeReply length content reply = .parityError ↔ reply.any parityError = true := by
  have htake : reply.take length = reply := List.take_of_length_le hlength.le
  unfold judgeReply judgeBytes
  rw [htake]
  cases h : reply.any parityError
  · simp only [hlength, ne_eq, not_true_eq_false, if_false]
    cases content (reply.map (·.data)) <;> simp
  · simp

/-- A reply of its full length is good exactly when no byte has a parity error and its content passes (R7). -/
theorem judgeReply_eq_good (hlength : reply.length = length) {x : α} :
    judgeReply length content reply = .good x ↔
      reply.any parityError = false ∧ content (reply.map (·.data)) = some x := by
  have htake : reply.take length = reply := List.take_of_length_le hlength.le
  unfold judgeReply judgeBytes
  rw [htake]
  cases h : reply.any parityError
  · simp only [hlength, ne_eq, not_true_eq_false, if_false]
    cases content (reply.map (·.data)) <;> simp
  · simp

/-- A reply of fewer bytes, none with a parity error, is malformed (R7). -/
theorem judgeReply_short (hclean : ∀ b ∈ reply, parityError b = false) (hlength : reply.length < length) :
    judgeReply length content reply = .malformed := by
  have htake : reply.take length = reply := List.take_of_length_le hlength.le
  have hany : reply.any parityError = false := by simpa using hclean
  simp [judgeReply, judgeBytes, htake, hany, hlength.ne]

/-- What follows a reply's full length is no part of it (R6). -/
theorem judgeReply_append (hlength : reply.length = length) (more : List LinkByte) :
    judgeReply length content (reply ++ more) = judgeReply length content reply := by
  simp [judgeReply, ← hlength]

end

/-- What is neither a parity error nor good is malformed (R7). -/
theorem ReplyResult.eq_malformed_iff {α : Type} {r : ReplyResult α} :
    r = .malformed ↔ r ≠ .parityError ∧ ∀ x, r ≠ .good x := by
  cases r <;> simp

end Sys2Proof.Machine

section
open Sys2Proof Sys2Proof.Machine

/-- Settles O14: the byte lets time pass only, and the counts held aside join their accumulators as it does. -/
theorem probeByteIsDiscarded : Obligations.ProbeByteIsDiscarded := by
  intro s dt byte
  refine ⟨s.elapse dt, rfl, by simp [State.SameBut], rfl, fun a => ?_, rfl, ?_, ?_⟩
  · rw [show (s.elapse dt).peers.get a = _ from Twelve.get_form _ a]
    split <;> rfl
  · by_cases hdt : dt = 0 <;> simp [State.elapse, hdt, ReportUnit.accumulated, Accumulators.addAll]
  · by_cases hdt : dt = 0 <;> simp [State.elapse, hdt]

/-- Settles O9: the attempt opens its window, and eleven serial bits carry each byte of its request. -/
theorem attemptSendsTheRequest : Obligations.AttemptSendsTheRequest := by
  refine ⟨fun s dt p identify repeats start h => ?_, fun x b => ?_⟩
  · refine ⟨_, (exec_attempt identify dt s).trans (by rw [State.startAttempt_due h]), by simp [State.SameBut], by simp,
      State.probeRequest_window rfl, ?_⟩
    rw [State.probeDriven, State.probeRequest_window rfl]
    simp [request]
  · exact ⟨rfl, ofSerialBits_serialBits x, rfl, rfl, odd_ones_sent b⟩

/-- Settles O13: a reply's bytes are checked for parity, then for their number, then for their content. -/
theorem samplesAreCheckedAndConverted : Obligations.SamplesAreCheckedAndConverted := by
  refine ⟨?_, ?_, ?_, ?_⟩
  · intro high low status check parity stop reading mark result clean hresult hclean
    have hany : ([⟨high, parity 0, stop 0⟩, ⟨low, parity 1, stop 1⟩, ⟨status, parity 2, stop 2⟩,
        ⟨check, parity 3, stop 3⟩] : List LinkByte).any parityError = false ↔ clean := by
      simp only [List.any_cons, List.any_nil, Bool.or_false, Bool.or_eq_false_iff, parityError_eq_false, hclean,
        Fin.forall_fin_succ]
      simp
      tauto
    have herror : result = .parityError ↔ ¬ clean := by
      rw [hresult, judgeReply_eq_parityError (length := 4) rfl, ← hany, Bool.not_eq_false]
    have hgood (x : Nat × AtLimit) : result = .good x ↔ clean ∧ readSample [high, low, status, check] = some x := by
      rw [hresult, judgeReply_eq_good (length := 4) rfl, hany]; simp
    refine ⟨herror, ?_, by rw [hgood, readSample_eq_some]⟩
    rw [ReplyResult.eq_malformed_iff, ne_eq, herror, not_not]
    simp
  · intro offset reading
    simp only [toDatum]
    omega
  · exact fun reply more => ⟨fun h => judgeReply_append h more, fun h => judgeReply_append h more,
      fun hclean => ⟨judgeReply_short hclean, judgeReply_short hclean⟩⟩
  · intro kind check parity stop n
    rw [judgeReply_eq_good (length := 2) rfl]
    simp only [List.any_cons, List.any_nil, Bool.or_false, Bool.or_eq_false_iff, parityError_eq_false,
      List.map_cons, List.map_nil, readKind_eq_some, Fin.forall_fin_two]
    tauto

end

/-! ## Exchanges on the probe link

How an exchange goes on when its reply is missing or has ended (R5 to R7, R14). -/

namespace Sys2Proof.Machine

variable {s : State}

/-- A change of one record changes nothing else of the Probe Interface. -/
@[simp] theorem ProbeUnit.onRecord_keeps (u : ProbeUnit) (p : ProbeId) (f : ProbeRecord → ProbeRecord) :
    (u.onRecord p f).deltaH = u.deltaH ∧ (u.onRecord p f).exchange = u.exchange ∧ (u.onRecord p f).queue = u.queue ∧
    (u.onRecord p f).outcomes = u.outcomes ∧ (u.onRecord p f).nextCycle = u.nextCycle := by
  cases p <;> exact ⟨rfl, rfl, rfl, rfl, rfl⟩

/-- The records are read alike from two Probe Interfaces that hold the same three. -/
theorem ProbeUnit.record_congr {u v : ProbeUnit} (hbay : v.bay = u.bay) (hchannel : v.channel = u.channel)
    (hweir : v.weir = u.weir) (p : ProbeId) : v.record p = u.record p := by
  cases p <;> assumption

/-- The Probe Interface with the next exchange of its round in progress (R5, R6). -/
def ProbeUnit.goingOn (u : ProbeUnit) (identify : Bool) (q : ProbeId) (rest : List ProbeId) (start : Nat) : ProbeUnit :=
  { u with exchange := some ⟨q, identify, 0, .due start⟩, queue := rest }

@[simp] theorem ProbeUnit.goingOn_record (u : ProbeUnit) (identify : Bool) (q : ProbeId) (rest : List ProbeId)
    (start : Nat) (p : ProbeId) : (u.goingOn identify q rest start).record p = u.record p :=
  ProbeUnit.record_congr rfl rfl rfl p

theorem nextExchange_cons {u : ProbeUnit} {q : ProbeId} {rest : List ProbeId} (h : u.queue = q :: rest)
    (identify : Bool) (start : Nat) : nextExchange identify start u = u.goingOn identify q rest start := by
  simp [nextExchange, h, ProbeUnit.goingOn]

theorem nextExchange_nil {u : ProbeUnit} (h : u.queue = []) (identify : Bool) (start : Nat) :
    nextExchange identify start u = { u with exchange := none } := by
  simp [nextExchange, h]

/-- With another probe to come, the next exchange begins 5 ms after the end of one (R6). -/
theorem State.exchangeEnded_next {q : ProbeId} {rest : List ProbeId} (h : s.probes.queue = q :: rest)
    (identify : Bool) :
    s.exchangeEnded identify = s.onProbes fun u => u.goingOn identify q rest (s.now + 5) := by
  simp [State.exchangeEnded, State.onProbes, h, nextExchange_cons h]

/-- A READ exchange that is missed gathers a miss (R7). -/
theorem State.exchangeMissed_read {p q : ProbeId} {rest : List ProbeId} (h : s.probes.queue = q :: rest)
    (repeats : Nat) (stage : ExchangeStage) :
    s.exchangeMissed ⟨p, false, repeats, stage⟩ = s.onProbes fun u =>
      ({ u with outcomes := u.outcomes ++ [(p, .miss)] } : ProbeUnit).goingOn false q rest (s.now + 5) := by
  simp only [State.exchangeMissed]
  exact State.exchangeEnded_next (by exact h) _

/-- An IDENTIFY exchange that is missed leaves a FAILED identity (R14). -/
theorem State.exchangeMissed_identify {p q : ProbeId} {rest : List ProbeId} (h : s.probes.queue = q :: rest)
    (repeats : Nat) (stage : ExchangeStage) :
    s.exchangeMissed ⟨p, true, repeats, stage⟩ = s.onProbes fun u =>
      (u.onRecord p ProbeRecord.failIdentity).goingOn true q rest (s.now + 5) := by
  simp only [State.exchangeMissed]
  exact State.exchangeEnded_next (by simp [h]) _

/-- An attempt fails with a repeat to come (R7). -/
theorem State.attemptFailed_repeat {x : Exchange} (h : x.repeats < 2) :
    s.attemptFailed x = s.onProbes fun u =>
      { u with exchange := some { x with repeats := x.repeats + 1, stage := .due (s.now + 5) } } := by
  simp [State.attemptFailed, h]

/-- After 2 repeats a failed attempt ends the exchange as a missing reply does (R7). -/
theorem State.attemptFailed_last {x : Exchange} (h : 2 ≤ x.repeats) : s.attemptFailed x = s.exchangeMissed x := by
  simp [State.attemptFailed, Nat.not_lt.mpr h]

/-- A good READ reply gives a sample at the house datum (R8, R9). -/
theorem State.readReplied_good {x : Exchange} {reply : List LinkByte} {reading : Nat} {mark : AtLimit}
    (h : judgeReply 4 readSample reply = .good (reading, mark)) :
    s.readReplied x reply = (s.onProbes fun u => { u with
      outcomes := u.outcomes ++
        [(x.probe, .sample (toDatum (u.record x.probe).offset reading) mark)] }).exchangeEnded false := by
  simp [State.readReplied, h]

theorem State.readReplied_bad {x : Exchange} {reply : List LinkByte}
    (h : ∀ reading mark, judgeReply 4 readSample reply ≠ .good (reading, mark)) :
    s.readReplied x reply = s.attemptFailed x := by
  unfold State.readReplied
  split
  · exact absurd ‹_› (h _ _)
  · rfl

/-- An IDENTIFY reply with the probe's own kind code confirms it, and any other kind code fails it (R14). -/
theorem State.identifyReplied_good {x : Exchange} {reply : List LinkByte} {kind : Nat}
    (h : judgeReply 2 readKind reply = .good kind) :
    s.identifyReplied x reply = if kind = x.probe.kindCode then
      (s.onProbes fun u => u.onRecord x.probe fun r => { r with identity := .confirmed }).exchangeEnded true
    else s.exchangeMissed x := by
  simp [State.identifyReplied, h]

theorem State.identifyReplied_bad {x : Exchange} {reply : List LinkByte}
    (h : ∀ kind, judgeReply 2 readKind reply ≠ .good kind) : s.identifyReplied x reply = s.attemptFailed x := by
  unfold State.identifyReplied
  split
  · exact absurd ‹_› (h _)
  · rfl

/-! ### The commands that end an attempt -/

/-- NO_REPLY at the close of a window (R7). -/
theorem exec_noReply {dt : Nat} {p : ProbeId} {identify : Bool} {repeats closes : Nat}
    (h : s.probes.exchange = some ⟨p, identify, repeats, .window closes⟩) :
    exec (.noReply dt) s =
      .next ((s.reach dt closes).exchangeMissed ⟨p, identify, repeats, .window closes⟩).finish := by
  simp [exec, execNoReply, h]

/-- PROBE_REPLY_END at a moment when a reply may end (R6). -/
theorem exec_probeReplyEnd {dt : Nat} {p : ProbeId} {identify : Bool} {repeats closes : Nat} {reply : List LinkByte}
    (h : s.probes.exchange = some ⟨p, identify, repeats, .window closes⟩) (hreply : reply ≠ [])
    (hopen : closes ≤ s.now + dt + 20) (hclosed : s.now + dt ≤ closes + 12) :
    exec (.probeReplyEnd dt reply) s = .next (if identify then
      ((s.elapse dt).identifyReplied ⟨p, identify, repeats, .window closes⟩ reply).finish
      else ((s.elapse dt).readReplied ⟨p, identify, repeats, .window closes⟩ reply).finish) := by
  simp [exec, execProbeReplyEnd, h, hreply, replyMayEnd, hopen, hclosed]

theorem State.onProbes_finish {f : ProbeUnit → ProbeUnit} :
    (s.onProbes f).finish.probes = f s.probes ∧ (s.onProbes f).finish.now = s.now := by simp

/-- A selection and an offer follow a change of the Probe Interface, and nothing else (R26, R177). -/
theorem State.onProbes_finish_selects (s : State) (f : ProbeUnit → ProbeUnit) :
    State.SelectedFrom { s with probes := (s.onProbes f).finish.probes } (s.onProbes f).finish := by
  rw [State.onProbes_finish.1]
  exact (s.onProbes f).finish_selects

/-- What the end of a READ reply leaves in the Probe Interface, with another probe to come (R7, R9). -/
theorem State.readReplied_next {p q : ProbeId} {rest : List ProbeId} {repeats : Nat} {stage : ExchangeStage}
    {reply : List LinkByte} (hqueue : s.probes.queue = q :: rest) :
    ∃ v, s.readReplied ⟨p, false, repeats, stage⟩ reply = s.onProbes (fun _ => v) ∧
      (∀ x, v.record x = s.probes.record x) ∧
      (∀ reading mark, judgeReply 4 readSample reply = .good (reading, mark) →
        v = { s.probes with
          exchange := some ⟨q, false, 0, .due (s.now + 5)⟩, queue := rest
          outcomes := s.probes.outcomes ++ [(p, .sample (toDatum (s.probes.record p).offset reading) mark)] }) ∧
      ((∀ reading mark, judgeReply 4 readSample reply ≠ .good (reading, mark)) → repeats < 2 →
        v = { s.probes with exchange := some ⟨p, false, repeats + 1, .due (s.now + 5)⟩ }) ∧
      ((∀ reading mark, judgeReply 4 readSample reply ≠ .good (reading, mark)) → 2 ≤ repeats →
        v = { s.probes with
          exchange := some ⟨q, false, 0, .due (s.now + 5)⟩, queue := rest
          outcomes := s.probes.outcomes ++ [(p, .miss)] }) := by
  by_cases hgood : ∃ reading mark, judgeReply 4 readSample reply = .good (reading, mark)
  · obtain ⟨reading, mark, hgood⟩ := hgood
    refine ⟨_, (State.readReplied_good hgood).trans (State.exchangeEnded_next (by exact hqueue) _),
      fun x => ProbeUnit.record_congr rfl rfl rfl x, fun r m h => ?_, fun h => absurd hgood (h _ _),
      fun h => absurd hgood (h _ _)⟩
    obtain ⟨rfl, rfl⟩ : reading = r ∧ mark = m := by simpa [hgood] using h
    rfl
  · have hbad (reading : Nat) (mark : AtLimit) : judgeReply 4 readSample reply ≠ .good (reading, mark) :=
      fun h => hgood ⟨reading, mark, h⟩
    rcases Nat.lt_or_ge repeats 2 with hlt | hge
    · exact ⟨_, (State.readReplied_bad hbad).trans (State.attemptFailed_repeat hlt),
        fun x => ProbeUnit.record_congr rfl rfl rfl x, fun r m h => absurd h (hbad r m), fun _ _ => rfl,
        fun _ h => absurd hlt (Nat.not_lt.mpr h)⟩
    · exact ⟨_, (State.readReplied_bad hbad).trans ((State.attemptFailed_last hge).trans
        (State.exchangeMissed_read hqueue _ _)), fun x => ProbeUnit.record_congr rfl rfl rfl x,
        fun r m h => absurd h (hbad r m), fun _ h => absurd h (Nat.not_lt.mpr hge), fun _ _ => rfl⟩

/-- What a change of one record and the next exchange leave (R14). -/
theorem ProbeUnit.onRecord_goingOn (u : ProbeUnit) (p q : ProbeId) (f : ProbeRecord → ProbeRecord) (identify : Bool)
    (rest : List ProbeId) (start : Nat) :
    ((u.onRecord p f).goingOn identify q rest start).outcomes = u.outcomes ∧
    ((u.onRecord p f).goingOn identify q rest start).deltaH = u.deltaH ∧
    (∀ x, x ≠ p → ((u.onRecord p f).goingOn identify q rest start).record x = u.record x) ∧
    ((u.onRecord p f).goingOn identify q rest start).record p = f (u.record p) ∧
    ((u.onRecord p f).goingOn identify q rest start).exchange = some ⟨q, identify, 0, .due start⟩ ∧
    ((u.onRecord p f).goingOn identify q rest start).queue = rest := by
  obtain ⟨hdelta, _, _, hout, _⟩ := u.onRecord_keeps p f
  refine ⟨hout, hdelta, fun x hne => ?_, ?_, rfl, rfl⟩
  all_goals rw [ProbeUnit.goingOn_record, ProbeUnit.record_onRecord]
  · exact if_neg hne
  · exact if_pos rfl

/-- What the end of an IDENTIFY reply leaves in the Probe Interface, with another probe to come (R7, R14). -/
theorem State.identifyReplied_next {p q : ProbeId} {rest : List ProbeId} {repeats : Nat} {stage : ExchangeStage}
    {reply : List LinkByte} (hqueue : s.probes.queue = q :: rest) :
    ∃ v, s.identifyReplied ⟨p, true, repeats, stage⟩ reply = s.onProbes (fun _ => v) ∧
      v.outcomes = s.probes.outcomes ∧ v.deltaH = s.probes.deltaH ∧ (∀ x, x ≠ p → v.record x = s.probes.record x) ∧
      (judgeReply 2 readKind reply = .good p.kindCode →
        v.record p = { s.probes.record p with identity := .confirmed } ∧
        v.exchange = some ⟨q, true, 0, .due (s.now + 5)⟩ ∧ v.queue = rest) ∧
      (∀ kind, judgeReply 2 readKind reply = .good kind → kind ≠ p.kindCode →
        v.record p = { s.probes.record p with identity := .failed, quality := .fault } ∧
        v.exchange = some ⟨q, true, 0, .due (s.now + 5)⟩ ∧ v.queue = rest) ∧
      ((∀ kind, judgeReply 2 readKind reply ≠ .good kind) → repeats < 2 →
        v = { s.probes with exchange := some ⟨p, true, repeats + 1, .due (s.now + 5)⟩ }) ∧
      ((∀ kind, judgeReply 2 readKind reply ≠ .good kind) → 2 ≤ repeats →
        v.record p = { s.probes.record p with identity := .failed, quality := .fault } ∧
        v.exchange = some ⟨q, true, 0, .due (s.now + 5)⟩ ∧ v.queue = rest) := by
  obtain ⟨hout, hdelta, hothers, hfailed⟩ :=
    s.probes.onRecord_goingOn p q ProbeRecord.failIdentity true rest (s.now + 5)
  by_cases hgood : ∃ kind, judgeReply 2 readKind reply = .good kind
  · obtain ⟨kind, hgood⟩ := hgood
    have hkind (k : Nat) (h : judgeReply 2 readKind reply = .good k) : kind = k := by simpa [hgood] using h
    by_cases hown : kind = p.kindCode
    · obtain ⟨hout, hdelta, hothers, hconfirmed⟩ :=
        s.probes.onRecord_goingOn p q (fun r => { r with identity := .confirmed }) true rest (s.now + 5)
      exact ⟨_, (State.identifyReplied_good hgood).trans ((if_pos hown).trans
        (State.exchangeEnded_next (by simp [hqueue]) _)), hout, hdelta, hothers, fun _ => hconfirmed,
        fun k h hne => absurd (hkind k h ▸ hown) hne, fun h => absurd hgood (h _), fun h => absurd hgood (h _)⟩
    · exact ⟨_, (State.identifyReplied_good hgood).trans ((if_neg hown).trans
        (State.exchangeMissed_identify hqueue _ _)), hout, hdelta, hothers, fun h => absurd (hkind _ h) hown,
        fun _ _ _ => hfailed, fun h => absurd hgood (h _), fun h => absurd hgood (h _)⟩
  · have hbad (kind : Nat) : judgeReply 2 readKind reply ≠ .good kind := fun h => hgood ⟨kind, h⟩
    rcases Nat.lt_or_ge repeats 2 with hlt | hge
    · exact ⟨_, (State.identifyReplied_bad hbad).trans (State.attemptFailed_repeat hlt), rfl, rfl,
        fun x _ => ProbeUnit.record_congr rfl rfl rfl x, fun h => absurd h (hbad _), fun k h => absurd h (hbad k),
        fun _ _ => rfl, fun _ h => absurd hlt (Nat.not_lt.mpr h)⟩
    · exact ⟨_, (State.identifyReplied_bad hbad).trans ((State.attemptFailed_last hge).trans
        (State.exchangeMissed_identify hqueue _ _)), hout, hdelta, hothers, fun h => absurd h (hbad _),
        fun k h => absurd h (hbad k), fun _ h => absurd h (Nat.not_lt.mpr hge), fun _ _ => hfailed⟩

end Sys2Proof.Machine

section
open Sys2Proof Sys2Proof.Machine

/-- Settles O11: the exchange is missed, and the next one of its round takes its place. -/
theorem noReplyEndsTheExchange : Obligations.NoReplyEndsTheExchange := by
  intro s dt p q identify repeats closes rest hx hqueue
  cases identify with
  | false =>
    refine ⟨_, (exec_noReply hx).trans (by rw [State.exchangeMissed_read (by exact hqueue)]),
      State.onProbes_finish_selects _ _, ?_⟩
    rw [State.onProbes_finish.1, State.onProbes_finish.2]
    exact ⟨rfl, rfl, rfl, rfl, fun _ => ⟨rfl, ProbeUnit.record_congr rfl rfl rfl⟩, nofun⟩
  | true =>
    refine ⟨_, (exec_noReply hx).trans (by rw [State.exchangeMissed_identify (by exact hqueue)]),
      State.onProbes_finish_selects _ _, ?_⟩
    obtain ⟨hout, hdelta, hothers, hfailed, _⟩ :=
      s.probes.onRecord_goingOn p q ProbeRecord.failIdentity true rest ((s.reach dt closes).now + 5)
    rw [State.onProbes_finish.1, State.onProbes_finish.2]
    exact ⟨rfl, rfl, (s.probes.onRecord_keeps p _).2.2.2.2, hdelta, nofun, fun _ => ⟨hout, hfailed, hothers⟩⟩

end

/-! ## What an evaluation, a cut-out and the Weir Unit's step leave alone

The completion of a probe cycle and a float reading set off an evaluation, a cut-out and the alarm kinds that follow them.
`State.Follows` says what these leave as it was, with the STATUS that shows the own entry as it stands (R45, R46); it is
carried through the operations as the ranges are. -/

namespace Sys2Proof.Machine

/-- The STATUS that the station would place now (R46). -/
def State.ownStatus (s : State) (own : BayAddress) : Frame :=
  .status (s.peers.get own) s.probes.bay.atLimit s.probes.channel.atLimit s.probes.weir.atLimit

/-- After the end of start-up the STATUS slot holds the own entry as it stands (R46). -/
def State.StatusShown (s : State) : Prop :=
  s.ended → ∀ own, s.startUp.address = some own →
    s.line.status.frame = some (s.ownStatus own) ∨ s.line.status.next = some (s.ownStatus own)

/-- The kinds whose conditions follow an evaluation, the pump, or the probes and floats (R69, R85, R95, R19). -/
def decisionKinds : List AlarmKind := [.a1, .a5, .a6, .a9]

/-- `t` comes from `u` by evaluations, changes of the pump, steps of the Weir Unit and what follows these; `steady` when no
evaluation is among them, and nothing has formed the house level or A1. -/
structure State.Follows (steady : Bool) (u t : State) : Prop where
  startUp : t.startUp = u.startUp
  probes : t.probes = u.probes
  alarms : ∀ k, k ∉ decisionKinds → t.alarm k = u.alarm k
  peers : ∀ a, u.startUp.address ≠ some a → t.peers.get a = u.peers.get a
  own : ∀ a, (t.peers.get a).level = (u.peers.get a).level ∧ (t.peers.get a).credit = (u.peers.get a).credit
  status : u.StatusShown → t.StatusShown
  steady : steady = true → t.staging.houseLevel = u.staging.houseLevel ∧ t.staging.a1 = u.staging.a1 ∧
    t.alarm .a1 = u.alarm .a1

variable (s : State)

/-! ### Alarm records -/

theorem State.alarm_congr {s t : State} (h : t.alarms = s.alarms) (k : AlarmKind) : t.alarm k = s.alarm k := by
  rw [State.alarm, State.alarm, h]

theorem State.turnAbnormal_alarm_ne {k j : AlarmKind} (n : Snapshot) (h : k ≠ j) :
    (s.turnAbnormal k n).alarm j = s.alarm j := by
  unfold State.turnAbnormal
  dsimp only
  (repeat' split) <;> first | rfl | exact State.alarm_setAlarm_ne _ _ h

theorem State.turnNormal_alarm_ne {k j : AlarmKind} (h : k ≠ j) : (s.turnNormal k).alarm j = s.alarm j := by
  unfold State.turnNormal
  dsimp only
  (repeat' split) <;> first | rfl | exact State.alarm_setAlarm_ne _ _ h

theorem State.turnAbnormalSince_alarm_ne {k j : AlarmKind} (l : List Snapshot) (h : k ≠ j) :
    (s.turnAbnormalSince l k).alarm j = s.alarm j := by
  unfold State.turnAbnormalSince
  split
  · exact s.turnAbnormal_alarm_ne _ h
  · exact (State.turnAbnormal_alarm_ne _ _ h).trans (State.alarm_congr (by simp) j)

/-- A condition handed over touches the record of its own kind only (R156). -/
theorem State.handOver_alarm_ne {k j : AlarmKind} (l : List Snapshot) (h : k ≠ j) :
    (s.handOver l k).alarm j = s.alarm j := by
  unfold State.handOver
  split
  · exact s.turnAbnormalSince_alarm_ne l h
  · exact s.turnNormal_alarm_ne h

/-! ### The STATUS slot -/

theorem State.place_slot (i : SlotId) (f : Frame) :
    ((s.place i f).line.slot i).frame = some f ∨ ((s.place i f).line.slot i).next = some f := by
  unfold State.place
  dsimp only
  (repeat' split) <;> cases i <;> simp [LineUnit.slot, LineUnit.setSlot]

theorem State.place_status_slot {i : SlotId} (h : i ≠ .status) (f : Frame) :
    (s.place i f).line.status = s.line.status := by
  unfold State.place
  dsimp only
  (repeat' split) <;> cases i <;> first | rfl | exact absurd rfl h

theorem State.leaveField_status_slot : s.leaveField.line.status = s.line.status := by
  unfold State.leaveField
  (repeat' split) <;> rfl

theorem State.withdraw_status_slot {i : SlotId} (h : i ≠ .status) : (s.withdraw i).line.status = s.line.status := by
  unfold State.withdraw
  (repeat' split)
  · cases i <;> first | rfl | exact absurd rfl h
  · rw [State.leaveField_status_slot]
    cases i <;> first | rfl | exact absurd rfl h
  · cases i <;> first | rfl | exact absurd rfl h

theorem State.withdrawClaim_status_slot : s.withdrawClaim.line.status = s.line.status := by
  unfold State.withdrawClaim
  split <;> exact s.withdraw_status_slot (by decide)

theorem State.finish_status_slot : s.finish.line.status = s.line.status := by
  obtain ⟨_, hline, _⟩ := s.finish_selects
  have hslot := congrArg LineUnit.status hline
  exact hslot

/-- A STATUS placed is the one that the own entry gives (R46). -/
theorem State.placeStatus_shown : s.placeStatus.StatusShown := by
  intro hended own hown
  obtain ⟨_, hstartUp, hprobes, _, hpeers, _⟩ := s.placeStatus_keeps
  rw [State.ended, hstartUp] at hended
  rw [hstartUp] at hown
  rw [State.ownStatus, hpeers, hprobes]
  have heq : s.placeStatus = s.place .status (s.ownStatus own) := by
    simp [State.placeStatus, hown, hended, State.ownStatus]
  rw [heq]
  exact s.place_slot .status _

theorem State.StatusShown.of_kept {s t : State} (h : s.StatusShown) (hstartUp : t.startUp = s.startUp)
    (hprobes : t.probes = s.probes) (hpeers : t.peers = s.peers) (hslot : t.line.status = s.line.status) :
    t.StatusShown := by
  intro hended own hown
  rw [State.ended, hstartUp] at hended
  rw [State.ownStatus, hslot, hpeers, hprobes]
  exact h hended own (hstartUp ▸ hown)

namespace State.Follows

variable {s u t w : State} {steady : Bool}

theorem refl (s : State) : s.Follows steady s := ⟨rfl, rfl, fun _ _ => rfl, fun _ _ => rfl, fun _ => ⟨rfl, rfl⟩, id,
  fun _ => ⟨rfl, rfl, rfl⟩⟩

theorem trans (h : u.Follows steady t) (g : t.Follows steady w) : u.Follows steady w where
  startUp := g.startUp.trans h.startUp
  probes := g.probes.trans h.probes
  alarms k hk := (g.alarms k hk).trans (h.alarms k hk)
  peers a ha := (g.peers a (by rwa [h.startUp])).trans (h.peers a ha)
  own a := ⟨(g.own a).1.trans (h.own a).1, (g.own a).2.trans (h.own a).2⟩
  status := g.status ∘ h.status
  steady hsteady := by
    obtain ⟨hlevel, ha1, halarm⟩ := g.steady hsteady
    rw [hlevel, ha1, halarm]
    exact h.steady hsteady

/-- An operation that leaves the alarms, the peer table and the STATUS slot as they were. -/
theorem of_slots_kept (h : u.Follows steady s)
    (kept : t.startUp = s.startUp ∧ t.probes = s.probes ∧ t.alarms = s.alarms ∧ t.peers = s.peers ∧
      t.line.status = s.line.status)
    (hsteady : steady = true → t.staging.houseLevel = s.staging.houseLevel ∧ t.staging.a1 = s.staging.a1) :
    u.Follows steady t := by
  obtain ⟨hstartUp, hprobes, halarms, hpeers, hslot⟩ := kept
  exact h.trans ⟨hstartUp, hprobes, fun k _ => State.alarm_congr halarms k, fun a _ => by rw [hpeers],
    fun a => by rw [hpeers]; exact ⟨rfl, rfl⟩, fun g => g.of_kept hstartUp hprobes hpeers hslot,
    fun hs => ⟨(hsteady hs).1, (hsteady hs).2, State.alarm_congr halarms .a1⟩⟩

/-- An operation that leaves the Staging Unit as it was too. -/
theorem of_kept (h : u.Follows steady s)
    (kept : t.startUp = s.startUp ∧ t.probes = s.probes ∧ t.alarms = s.alarms ∧ t.peers = s.peers ∧
      t.line.status = s.line.status) (hstaging : t.staging = s.staging) : u.Follows steady t :=
  h.of_slots_kept kept fun _ => by rw [hstaging]; exact ⟨rfl, rfl⟩

theorem ite {c : Prop} [Decidable c] (hs : c → u.Follows steady s) (ht : ¬ c → u.Follows steady t) :
    u.Follows steady (if c then s else t) := by
  split
  · exact hs ‹_›
  · exact ht ‹_›

theorem eitherOrder {f g : State → State} (h : u.Follows steady s)
    (hf : ∀ w : State, u.Follows steady w → u.Follows steady (f w))
    (hg : ∀ w : State, u.Follows steady w → u.Follows steady (g w)) : u.Follows steady (eitherOrder f g s) := by
  have hd : u.Follows steady s.drawn := h.of_kept ⟨rfl, rfl, rfl, rfl, rfl⟩ rfl
  rcases eitherOrder_cases s f g with e | e | e <;> rw [e]
  · exact hg _ (hf _ h)
  · exact hg _ (hf _ hd)
  · exact hf _ (hg _ hd)

/-! ### Blocks, slots and the peer table -/

theorem onStaging {f : Staging → Staging} (h : u.Follows steady s)
    (hf : steady = true → (f s.staging).houseLevel = s.staging.houseLevel ∧ (f s.staging).a1 = s.staging.a1) :
    u.Follows steady (s.onStaging f) := h.of_slots_kept ⟨rfl, rfl, rfl, rfl, rfl⟩ hf

/-- The wishes, the marks and the flags of the Staging Unit are no part of the house level or A1. -/
theorem setWish {x : StartWish} (h : u.Follows steady s) :
    u.Follows steady (s.onStaging fun g => { g with startWish := x }) := h.onStaging fun _ => ⟨rfl, rfl⟩

theorem onPump {f : Pump → Pump} (h : u.Follows steady s) : u.Follows steady (s.onPump f) :=
  h.of_kept ⟨rfl, rfl, rfl, rfl, rfl⟩ rfl

theorem onScreen {f : Screen → Screen} (h : u.Follows steady s) : u.Follows steady (s.onScreen f) :=
  h.of_kept ⟨rfl, rfl, rfl, rfl, rfl⟩ rfl

theorem onWeir {f : Weir → Weir} (h : u.Follows steady s) : u.Follows steady (s.onWeir f) :=
  h.of_kept ⟨rfl, rfl, rfl, rfl, rfl⟩ rfl

theorem onReport {f : ReportUnit → ReportUnit} (h : u.Follows steady s) : u.Follows steady (s.onReport f) :=
  h.of_kept ⟨rfl, rfl, rfl, rfl, rfl⟩ rfl

theorem count {i : CountId} {n : Nat} (h : u.Follows steady s) : u.Follows steady (s.count i n) := h.onReport

theorem place {i : SlotId} {f : Frame} (h : u.Follows steady s) (hi : i ≠ .status) : u.Follows steady (s.place i f) :=
  h.of_kept (by simp [s.place_status_slot hi]) (by simp)

theorem withdraw {i : SlotId} (h : u.Follows steady s) (hi : i ≠ .status) : u.Follows steady (s.withdraw i) :=
  h.of_kept (by simp [s.withdraw_status_slot hi]) (by simp)

theorem withdrawClaim (h : u.Follows steady s) : u.Follows steady s.withdrawClaim :=
  h.of_kept (by simp [s.withdrawClaim_status_slot]) (by simp)

theorem emptyReport (h : u.Follows steady s) : u.Follows steady s.emptyReport := (h.withdraw (by decide)).onReport

theorem finish (h : u.Follows steady s) : u.Follows steady s.finish := h.of_kept (by simp [s.finish_status_slot]) (by simp)

/-- A condition of one of the kinds named is handed over; A1's changes its own record (R156). -/
theorem handOver {k : AlarmKind} {l : List Snapshot} (h : u.Follows steady s) (hk : k ∈ decisionKinds)
    (hsteady : steady = true → k ≠ .a1) : u.Follows steady (s.handOver l k) := by
  obtain ⟨_, hstartUp, hprobes, _, hline, hpeers, hstaging, _⟩ := s.handOver_keeps l k
  exact h.trans ⟨hstartUp, hprobes, fun j hj => s.handOver_alarm_ne l (ne_of_mem_of_not_mem hk hj),
    fun a _ => by rw [hpeers], fun a => by rw [hpeers]; exact ⟨rfl, rfl⟩,
    fun g => g.of_kept hstartUp hprobes hpeers (by rw [hline]),
    fun hs => ⟨by rw [hstaging], by rw [hstaging], s.handOver_alarm_ne l (hsteady hs)⟩⟩

theorem placeStatus (h : u.Follows steady s) : u.Follows steady s.placeStatus := by
  obtain ⟨_, hstartUp, hprobes, _, hpeers, hstaging, _, _, _, _, halarms, _⟩ := s.placeStatus_keeps
  exact h.trans ⟨hstartUp, hprobes, fun k _ => State.alarm_congr halarms k, fun a _ => by rw [hpeers],
    fun a => by rw [hpeers]; exact ⟨rfl, rfl⟩, fun _ => s.placeStatus_shown,
    fun _ => ⟨by rw [hstaging], by rw [hstaging], State.alarm_congr halarms .a1⟩⟩

/-- The own entry published keeps its level and credit, and the STATUS placed shows it (R45, R46). -/
theorem publish (h : u.Follows steady s) : u.Follows steady s.publish := by
  unfold State.publish
  split
  · exact h
  · next own hown =>
    refine ite (fun _ => h) fun _ => ?_
    obtain ⟨_, hstartUp, hprobes, _, hpeers, hstaging, _, _, _, _, halarms, _⟩ :=
      (s.onEntry own s.withPublished).placeStatus_keeps
    have hget (a : BayAddress) : (s.onEntry own s.withPublished).placeStatus.peers.get a =
        if own = a then s.withPublished (s.peers.get own) else s.peers.get a := by
      rw [hpeers, State.onEntry_peers, Twelve.get_set]
    refine h.trans ⟨hstartUp, hprobes, fun k _ => State.alarm_congr halarms k, fun a ha => ?_, fun a => ?_,
      fun _ => State.placeStatus_shown _,
      fun _ => ⟨by rw [hstaging]; rfl, by rw [hstaging]; rfl, State.alarm_congr halarms .a1⟩⟩
    · rw [hget, if_neg (by rintro rfl; exact ha hown)]
    · rw [hget]
      split
      · next e => exact e ▸ ⟨rfl, rfl⟩
      · exact ⟨rfl, rfl⟩

/-! ### Pump Sequencer -/

theorem formAvailable (h : u.Follows steady s) : u.Follows steady s.formAvailable :=
  (h.onStaging fun _ => ⟨rfl, rfl⟩).publish

theorem endHandClaim (h : u.Follows steady s) : u.Follows steady s.endHandClaim := by
  unfold State.endHandClaim
  exact ite (fun _ => h) fun _ => (ite (fun _ => h.withdrawClaim) fun _ => h).onPump

theorem pumpSource {old : PumpState} (h : u.Follows steady s) : u.Follows steady (s.pumpSource old) := by
  unfold State.pumpSource State.trigger
  refine ite (fun _ => ite (fun _ => h) fun _ => ?_) fun _ => h
  split
  · exact ite (fun _ => h.onScreen) fun _ => h
  all_goals first | exact h.onScreen | exact h

theorem limitWish (h : u.Follows steady s) : u.Follows steady s.limitWish :=
  h.onStaging fun _ => by split <;> exact ⟨rfl, rfl⟩

theorem changePump {f : Pump → Pump} (h : u.Follows steady s) : u.Follows steady (s.changePump f) :=
  h.onPump.endHandClaim.onPump

theorem movePump {f : Pump → Pump} (h : u.Follows steady s) : u.Follows steady (s.movePump f) :=
  (h.changePump.limitWish.formAvailable.handOver (by decide) fun _ => by decide).pumpSource

theorem lock {c : LockCause} (h : u.Follows steady s) : u.Follows steady (s.lock c) := by
  unfold State.lock
  exact ite (fun _ => h) fun _ => h.movePump

theorem claimResolved (h : u.Follows steady s) : u.Follows steady s.claimResolved := by
  unfold State.claimResolved
  exact ite (fun _ => h.lock) fun _ => ite (fun _ => h.movePump) fun _ => h

theorem loseClaim (h : u.Follows steady s) : u.Follows steady s.loseClaim := by
  unfold State.loseClaim
  split
  · exact h.withdrawClaim.claimResolved
  · exact h.withdrawClaim.movePump

theorem dropWish (h : u.Follows steady s) : u.Follows steady s.dropWish := by
  unfold State.dropWish
  exact ite (fun _ => h.setWish.loseClaim) fun _ => h.setWish

theorem reformAvailability (h : u.Follows steady s) : u.Follows steady s.reformAvailability := by
  unfold State.reformAvailability
  exact ite (fun _ => h.formAvailable.dropWish) fun _ => h.formAvailable

theorem beginClaim (h : u.Follows steady s) : u.Follows steady s.beginClaim :=
  (h.place (by decide) : u.Follows steady s.placeClaim).movePump

theorem ageStarts (h : u.Follows steady s) : u.Follows steady s.ageStarts := by
  unfold State.ageStarts
  exact ite (fun _ => h) fun _ =>
    (h.onPump.onStaging fun _ => ⟨rfl, rfl⟩).formAvailable.handOver (by decide) fun _ => by decide

theorem makeStart (h : u.Follows steady s) : u.Follows steady s.makeStart := by
  unfold State.makeStart State.checkEarlyProof
  exact ite (fun _ => h.ageStarts.onPump.count.movePump.count.lock) fun _ => h.ageStarts.onPump.count.movePump

theorem actOnStart (h : u.Follows steady s) : u.Follows steady s.actOnStart := by
  unfold State.actOnStart
  refine ite (fun _ => ?_) fun _ => h
  split
  · exact h
  · exact ite (fun _ => h) fun _ => h.beginClaim
  · exact ite (fun _ => h.makeStart) fun _ => h

theorem goStopping (h : u.Follows steady s) : u.Follows steady s.goStopping := by
  unfold State.goStopping
  exact ite (fun _ => h.movePump) fun _ => h.movePump.movePump

theorem actOnStop (h : u.Follows steady s) : u.Follows steady s.actOnStop := by
  unfold State.actOnStop
  refine ite (fun _ => h) fun _ => ite (fun _ => h.onPump) fun _ => ite (fun _ => h) fun _ => ?_
  split
  · exact h.goStopping
  · exact h.onPump

theorem stopFloatCutOut (h : u.Follows steady s) : u.Follows steady s.stopFloatCutOut := by
  unfold State.stopFloatCutOut
  exact ite (fun _ => h.goStopping) fun _ => h

theorem bayCutOut (h : u.Follows steady s) : u.Follows steady s.bayCutOut := by
  unfold State.bayCutOut
  exact ite (fun _ => h.goStopping) fun _ => h

/-! ### Staging Unit -/

theorem setStartWish {x : StartWish} (h : u.Follows steady s) : u.Follows steady (s.setStartWish x) := by
  unfold State.setStartWish
  exact ite (fun _ => h.dropWish) fun _ => h.setWish

theorem formA1 (h : u.Follows false s) : u.Follows false s.formA1 := (h.onStaging nofun).handOver (by decide) nofun

theorem peakLevel (h : u.Follows steady s) : u.Follows steady s.peakLevel := by
  unfold State.peakLevel
  split
  · exact h
  · exact h.onReport

/-- The picture that an evaluation forms holds the house level (R50). -/
theorem formPicture (h : u.Follows false s) : u.Follows false s.formPicture := by
  have ha := (((h.onStaging nofun).onStaging nofun).onStaging nofun :
    u.Follows false s.formHouseLevel.formLevelSource.formFloatMode).formAvailable
  exact ((((ha.onStaging nofun).onStaging nofun).onStaging nofun).onStaging nofun : u.Follows false
    s.formHouseLevel.formLevelSource.formFloatMode.formAvailable.formLatches.formD.formDAuto.formRank)

theorem formDelay (h : u.Follows steady s) : u.Follows steady s.formDelay := h.onStaging fun _ => ⟨rfl, rfl⟩

theorem formLimitHeld (h : u.Follows steady s) : u.Follows steady s.formLimitHeld := h.onStaging fun _ => ⟨rfl, rfl⟩

theorem formStopWish (h : u.Follows steady s) : u.Follows steady s.formStopWish := h.onStaging fun _ => ⟨rfl, rfl⟩

theorem formWishes (h : u.Follows false s) : u.Follows false s.formWishes.1 :=
  h.formDelay.formLimitHeld.formStopWish.formA1.peakLevel.handOver (by decide) nofun

theorem act {x : State × StartWish} (h : u.Follows steady x.1) : u.Follows steady (State.act x) :=
  h.setStartWish.actOnStop.actOnStart

theorem evaluate (h : u.Follows false s) : u.Follows false s.evaluate := by
  unfold State.evaluate
  exact ite (fun _ => act h.ageStarts.formPicture.formWishes) fun _ => h

/-! ### Weir Unit -/

theorem joinLog {r : SpillData} (h : u.Follows steady s) : u.Follows steady (s.joinLog r) := by
  unfold State.joinLog
  split
  · exact ite (fun _ => h.onWeir) fun _ => ite (fun _ => h.onWeir) fun _ =>
      (ite (fun _ => h.emptyReport) fun _ => h).onWeir
  · exact h.onWeir

theorem setSpill {x : Spill} (h : u.Follows steady s) : u.Follows steady (s.setSpill x) := h.onWeir.publish

theorem setGap {n : Nat} (h : u.Follows steady s) : u.Follows steady (s.setGap n) := h.onWeir

theorem countSpill {m n : Nat} (h : u.Follows steady s) : u.Follows steady (s.countSpill m n) := h.count.count

theorem openSpill {r : OnsetRecord} {n : Nat} (h : u.Follows steady s) : u.Follows steady (s.openSpill r n) :=
  h.setSpill.countSpill.place (by decide)

theorem closeSpill {r : SpillData} (h : u.Follows steady s) : u.Follows steady (s.closeSpill r) :=
  (h.joinLog.place (by decide)).setSpill

theorem weirHead {c : WeirSettings} {m n : Nat} (h : u.Follows steady s) : u.Follows steady (s.weirHead c m n) := by
  unfold State.weirHead
  dsimp only
  split
  · exact ite (fun _ => h.setGap.setSpill) fun _ => h.setGap
  · exact ite (fun _ => h.setGap.setSpill) fun _ => ite (fun _ => h.setGap.setSpill) fun _ => h.setGap.openSpill
  · exact h.setGap.setSpill.countSpill
  · exact ite (fun _ => h.setGap.countSpill.setSpill) fun _ => ite (fun _ => h.setGap.countSpill.setSpill) fun _ =>
      h.setGap.countSpill.closeSpill

theorem weirGap (h : u.Follows steady s) : u.Follows steady s.weirGap := by
  unfold State.weirGap
  split
  · exact h
  · exact ite (fun _ => h.setGap.setSpill) fun _ => h.setGap.setSpill
  · exact ite (fun _ => h.countSpill.setGap.closeSpill) fun _ => h.countSpill.setGap.setSpill
  · exact ite (fun _ => h.countSpill.setGap.closeSpill) fun _ => h.countSpill.setGap.setSpill

theorem weirStep (h : u.Follows steady s) : u.Follows steady s.weirStep := by
  unfold State.weirStep
  refine ite (fun _ => ?_) fun _ => h
  split
  · exact h
  · split
    · exact h.onWeir.weirGap
    · exact h.onWeir.weirHead

/-! ### Decisions of a completion and what follows a float reading -/

theorem evaluateWithCutOut (h : u.Follows false s) : u.Follows false s.evaluateWithCutOut :=
  h.eitherOrder (fun _ => bayCutOut) fun _ => evaluate

theorem decideIfEnded (h : u.Follows false s) : u.Follows false s.decideIfEnded := by
  unfold State.decideIfEnded State.decideAtCompletion
  exact ite (fun _ => ite (fun _ => h.eitherOrder (fun _ => weirStep) fun _ => evaluateWithCutOut)
    fun _ => h.evaluateWithCutOut) fun _ => h

theorem highChanged {old : FloatUnit} (h : u.Follows false s) : u.Follows false (s.highChanged old) := by
  unfold State.highChanged
  exact ite (fun _ => h) fun _ => h.formA1

theorem floatDelay {b : Bool} (h : u.Follows steady s) : u.Follows steady (s.floatDelay b) := by
  unfold State.floatDelay
  exact ite (fun _ => h.formDelay) fun _ => h

theorem floatStopWish {b : Bool} (h : u.Follows steady s) : u.Follows steady (s.floatStopWish b) := by
  unfold State.floatStopWish
  exact ite (fun _ => h.formStopWish) fun _ => h

theorem floatWishes {b c : Bool} (h : u.Follows false s) : u.Follows false (s.floatWishes b c) := by
  unfold State.floatWishes
  exact ite (fun _ => h.floatDelay.evaluate) fun _ => act h.floatDelay.floatStopWish

theorem stopFloatChanged {c : Bool} (h : u.Follows steady s) : u.Follows steady (if c then s.stopFloatChanged else s) :=
  ite (fun _ => h.reformAvailability.stopFloatCutOut) fun _ => h

theorem floatsChanged {b c : Bool} (h : u.Follows false s) : u.Follows false (s.floatsChanged b c) := by
  unfold State.floatsChanged State.floatsWish
  exact ite (fun _ => h.stopFloatChanged.floatWishes) fun _ => h.stopFloatChanged

theorem afterExcitation {old : FloatUnit} (h : u.Follows false s) : u.Follows false (s.afterExcitation old) :=
  (h.eitherOrder (fun _ => highChanged) fun _ => floatsChanged).handOver (by decide) nofun

end State.Follows
end Sys2Proof.Machine

/-! ## Stops by a cut-out

A pump in PROVING or RUNNING that a cut-out stops, in whatever order the cut-out and an evaluation are taken (R90, R91). -/

namespace Sys2Proof.Machine

variable {s : State} {n m : Nat}

/-- The pump drives its motor in Auto, with no claim in progress (R76, R86, R88). -/
structure Pump.Driving (p : Pump) : Prop where
  state : p.state = .proving ∨ p.state = .running
  noClaim : p.claimPhase = none

/-- The pump has been stopped at the moment `n`, and its min-off time of `m` seconds runs: in STOPPING while the feedback
is present, and in READY without it (R90, R91, R96). -/
structure Pump.StoppedAt (n m : Nat) (p : Pump) : Prop where
  opened : p.closed = false
  minOff : p.minOff = some (n + m * 1000)
  stopping : p.feedback = true → p.state = .stopping ∧ p.releaseTime = some (n + 2000)
  ready : p.feedback = false → p.state = .ready
  noClaim : p.claimPhase = none

theorem Pump.Sound.driving {p : Pump} (h : p.Sound) (hstate : p.state = .proving ∨ p.state = .running) :
    p.Driving := by
  obtain ⟨hphase, _⟩ := h
  refine ⟨hstate, ?_⟩
  rcases hstate with e | e <;> simpa [e] using hphase

theorem Pump.Driving.closed {p : Pump} (h : p.Driving) : p.closed = true := by
  rcases h.state with e | e <;> simp [Pump.closed, e]

theorem Pump.Driving.cutOutActs {p : Pump} (h : p.Driving) : p.cutOutActs = true := by
  rcases h.state with e | e <;> simp [Pump.cutOutActs, e]

theorem Pump.Driving.mayWish {p : Pump} (h : p.Driving) : p.mayWish = false := by
  rcases h.state with e | e <;> simp [Pump.mayWish, e]

/-- A stopped pump is in STOPPING or in READY. -/
theorem Pump.StoppedAt.state {p : Pump} (h : p.StoppedAt n m) : p.state = .stopping ∨ p.state = .ready := by
  cases e : p.feedback
  · exact .inr (h.ready e)
  · exact .inl (h.stopping e).1

theorem Pump.StoppedAt.cutOutActs {p : Pump} (h : p.StoppedAt n m) : p.cutOutActs = false := by
  rcases h.state with e | e <;> simp [Pump.cutOutActs, e]

theorem Pump.StoppedAt.not_running {p : Pump} (h : p.StoppedAt n m) : p.state ≠ .running := by
  rcases h.state with e | e <;> simp [e]

theorem Pump.closed_of_stopped {p : Pump} (h : p.state = .stopping ∨ p.state = .ready) : p.closed = false := by
  rcases h with e | e <;> simp [Pump.closed, e]

/-- Without a claim phase there is no claim to lose (R76). -/
theorem Pump.mayLoseClaim_of_none {p : Pump} (h : p.claimPhase = none) : p.mayLoseClaim = false := by
  simp [Pump.mayLoseClaim, h]

/-! ### Changes of the pump -/

/-- Outside HAND a hand claim is left behind by the change (R110). -/
theorem Pump.tidied_handClaim {p : Pump} (h : p.state ≠ .hand) (now : Nat) (minOff : Option Nat) (old : Pump)
    (c : Option HandClaim) : Pump.tidied now minOff old { p with handClaim := c } = Pump.tidied now minOff old p := by
  have hwatch : ({ p with handClaim := c } : Pump).watch = p.watch := rfl
  have hclosed : ({ p with handClaim := c } : Pump).closed = p.closed := rfl
  have hproving : ({ p with handClaim := c } : Pump).proving = p.proving := rfl
  have hproved : ({ p with handClaim := c } : Pump).proved = p.proved := rfl
  simp only [Pump.tidied, hwatch, hclosed, hproving, hproved, h, keepIf, decide_false, Bool.false_eq_true, if_false]
  rfl

/-- A change of the pump to a state other than HAND is the change with the times and items of the new state (R71). -/
theorem State.movePump_pump_tidied (s : State) (f : Pump → Pump) (h : (f s.pump).state ≠ .hand) :
    (s.movePump f).pump = Pump.tidied s.now (s.after s.general.minOff) s.pump (f s.pump) := by
  have hclaim : ∃ c, (s.onPump f).endHandClaim.pump = { f s.pump with handClaim := c } := by
    unfold State.endHandClaim
    split
    · exact ⟨_, rfl⟩
    · dsimp only
      split <;> exact ⟨_, by simp; rfl⟩
  obtain ⟨c, hc⟩ := hclaim
  rw [State.movePump_pump, State.changePump, State.onPump_pump, hc]
  exact Pump.tidied_handClaim h _ _ _ _

theorem State.movePump_startWish (f : Pump → Pump) (h : s.staging.startWish = .notHeld) :
    (s.movePump f).staging.startWish = .notHeld := by
  simp only [State.movePump, State.pumpSource_keeps, State.handOver_keeps, State.formAvailable,
    State.publish_keeps, State.onStaging_staging, State.limitWish, State.changePump_keeps]
  split
  · exact h
  · rfl

/-- A start wish that is not held is not acted on (R76, R82). -/
theorem State.actOnStart_of_notHeld (h : s.staging.startWish = .notHeld) : s.actOnStart = s := by
  simp [State.actOnStart, h]

theorem State.actOnStop_of_not_running (h : s.pump.state ≠ .running) : s.actOnStop = s := by
  simp [State.actOnStop, h]

/-- With no claim in progress a start wish is cleared without more (R62). -/
theorem State.dropWish_of_noClaim (h : s.pump.claimPhase = none) :
    s.dropWish = s.onStaging fun g => { g with startWish := .notHeld } := by
  simp [State.dropWish, Pump.mayLoseClaim_of_none h]

theorem State.reformAvailability_pump (h : s.pump.claimPhase = none) : s.reformAvailability.pump = s.pump := by
  unfold State.reformAvailability
  dsimp only
  split
  · rw [State.dropWish_of_noClaim (by simpa [State.formAvailable] using h)]
    simp [State.formAvailable]
  · simp [State.formAvailable]

/-- The start list alone changes as it ages (R84). -/
theorem State.ageStarts_pump (s : State) : ∃ l, s.ageStarts.pump = { s.pump with starts := l } := by
  unfold State.ageStarts
  dsimp only
  split
  · exact ⟨_, rfl⟩
  · exact ⟨_, by simp [State.formAvailable]; rfl⟩

/-! ### The stop -/

/-- A driving pump as it enters STOPPING: its contactor opens, and the min-off time and the release time start (R91,
R96). -/
theorem Pump.Driving.tidied_stopping {p : Pump} (h : p.Driving) (now : Nat) (minOff release : Option Nat) :
    let q := Pump.tidied now minOff p { p with state := .stopping, releaseTime := release }
    q.state = .stopping ∧ q.feedback = p.feedback ∧ q.minOff = minOff ∧ q.releaseTime = release := by
  have hopen : ({ p with state := .stopping, releaseTime := release } : Pump).closed = false := rfl
  simp [Pump.tidied, keepIf, h.closed, hopen]

/-- A pump in STOPPING as it is released (R91). -/
theorem Pump.tidied_released {p : Pump} (h : p.state = .stopping) (now : Nat) (x minOff : Option Nat) :
    let q := Pump.tidied now x p { p with state := .ready, minOff := minOff }
    q.state = .ready ∧ q.feedback = p.feedback ∧ q.minOff = minOff := by
  have hopen : p.closed = false := by simp [Pump.closed, h]
  simp [Pump.tidied, hopen]

/-- A pump outside CLAIMING holds no claim phase after a change (R76). -/
theorem Pump.tidied_noClaim {p : Pump} (h : p.state ≠ .claiming) (now : Nat) (x : Option Nat) (old : Pump) :
    (Pump.tidied now x old p).claimPhase = none := by
  simp [Pump.tidied, keepIf, h]

/-- A driving pump that goes to STOPPING is stopped, through STOPPING to READY with the feedback absent (R91). -/
theorem State.goStopping_stops (h : s.pump.Driving) (hm : s.general.minOff ≠ 0) :
    s.goStopping.pump.StoppedAt s.now s.general.minOff := by
  have hafter : s.after s.general.minOff = some (s.now + s.general.minOff * 1000) := by simp [State.after, hm]
  obtain ⟨f, hf⟩ : ∃ f : Pump → Pump, f = fun p => { p with state := .stopping, releaseTime := some (s.now + 2000) } :=
    ⟨_, rfl⟩
  have hstop : s.goStopping = if (s.movePump f).pump.feedback then s.movePump f else (s.movePump f).released := by
    rw [hf]; rfl
  have hpump : (s.movePump f).pump = Pump.tidied s.now (s.after s.general.minOff) s.pump (f s.pump) :=
    s.movePump_pump_tidied f (by simp [hf])
  obtain ⟨hstate, hfeedback, hminOff, hrelease⟩ :=
    h.tidied_stopping s.now (s.after s.general.minOff) (some (s.now + 2000))
  have hnoClaim : (s.movePump f).pump.claimPhase = none := by
    rw [hpump]; exact Pump.tidied_noClaim (by simp [hf]) _ _ _
  simp only [hf] at hpump
  rw [← hpump, ← hf] at hstate hminOff hrelease
  obtain ⟨hnow, hstartUp, _⟩ := s.movePump_keeps f
  rw [hstop]
  split
  · next hpresent =>
    exact ⟨Pump.closed_of_stopped (.inl hstate), hminOff.trans hafter, fun _ => ⟨hstate, hrelease⟩,
      fun habsent => absurd (habsent.symm.trans hpresent) Bool.false_ne_true, hnoClaim⟩
  · next habsent =>
    have hreleased := (s.movePump f).movePump_pump_tidied (fun p => { p with
      state := .ready, minOff := (s.movePump f).after (s.movePump f).general.minOff }) (by simp)
    obtain ⟨hready, hsame, hmin⟩ := Pump.tidied_released hstate (s.movePump f).now
      ((s.movePump f).after (s.movePump f).general.minOff) ((s.movePump f).after (s.movePump f).general.minOff)
    have hgeneral : (s.movePump f).general = s.general := by rw [State.general, State.settings, hstartUp]; rfl
    have hafter' : (s.movePump f).after (s.movePump f).general.minOff = s.after s.general.minOff := by
      rw [State.after, State.after, hnow, hgeneral]
    rw [State.released, hreleased]
    exact ⟨Pump.closed_of_stopped (.inr hready), hmin.trans (hafter'.trans hafter),
      fun hpresent => absurd (hsame.symm.trans hpresent) habsent, fun _ => hready,
      Pump.tidied_noClaim (by simp) _ _ _⟩

theorem State.goStopping_startWish (h : s.staging.startWish = .notHeld) :
    s.goStopping.staging.startWish = .notHeld := by
  unfold State.goStopping
  dsimp only
  split
  · exact State.movePump_startWish _ h
  · exact State.movePump_startWish _ (State.movePump_startWish _ h)

/-! ### The evaluation beside the stop -/

/-- While the min-off time runs no start wish is raised (R61). -/
theorem State.startWishNow_of_minOff (h : s.pump.minOff.isSome = true) : s.startWishNow = .notHeld := by
  have hoff : s.pump.minOff.isNone = false := by simpa [Option.isNone_eq_false_iff] using h
  simp [State.startWishNow, State.startConditions, State.otherStartConditions, hoff]

theorem State.startWishNow_of_driving (h : s.pump.Driving) : s.startWishNow = .notHeld := by
  simp [State.startWishNow, h.mayWish]

/-- A stopped pump with no start wish does nothing (R62, R82, R89). -/
theorem State.act_of_stopped (h : s.pump.StoppedAt n m) : (State.act (s, .notHeld)).pump = s.pump := by
  have hwish : s.setStartWish .notHeld = s.onStaging fun g => { g with startWish := .notHeld } := by
    rw [State.setStartWish, if_pos rfl, State.dropWish_of_noClaim h.noClaim]
  have hstop : (s.setStartWish .notHeld).actOnStop = s.setStartWish .notHeld := by
    rw [hwish]; exact State.actOnStop_of_not_running h.not_running
  rw [State.act, hstop, hwish, State.actOnStart_of_notHeld (by rfl)]
  rfl

/-- A driving pump with no start wish drives on, or is stopped by a stop wish with no stop delay (R62, R89). -/
theorem State.act_of_driving (h : s.pump.Driving) (hm : s.general.minOff ≠ 0) :
    (State.act (s, .notHeld)).pump.Driving ∨ (State.act (s, .notHeld)).pump.StoppedAt s.now s.general.minOff := by
  obtain ⟨t, ht⟩ : ∃ t, t = s.onStaging fun g => { g with startWish := .notHeld } := ⟨_, rfl⟩
  have hwish : s.setStartWish .notHeld = t := by
    rw [State.setStartWish, if_pos rfl, State.dropWish_of_noClaim h.noClaim, ht]
  have hdriving : t.pump.Driving := ht ▸ h
  have hnone : t.staging.startWish = .notHeld := by rw [ht]; rfl
  have hstart (u : State) (hu : u.staging.startWish = .notHeld) : u.actOnStart.pump = u.pump := by
    rw [State.actOnStart_of_notHeld hu]
  simp only [State.act, hwish]
  unfold State.actOnStop
  split
  · exact .inl (by rwa [hstart t hnone])
  split
  · exact .inl (by rw [hstart _ (by exact hnone)]; exact ⟨hdriving.state, hdriving.noClaim⟩)
  split
  · exact .inl (by rwa [hstart t hnone])
  split
  · refine .inr ?_
    rw [hstart _ (State.goStopping_startWish hnone)]
    have hstops := State.goStopping_stops hdriving (by rw [ht]; exact hm)
    rw [ht] at hstops ⊢
    exact hstops
  · exact .inl (by rw [hstart _ (by exact hnone)]; exact ⟨hdriving.state, hdriving.noClaim⟩)

/-- An evaluation leaves a stopped pump as it is (R49, R61). -/
theorem State.evaluate_of_stopped (h : s.pump.StoppedAt n m) : s.evaluate.pump.StoppedAt n m := by
  obtain ⟨l, hl⟩ := s.ageStarts_pump
  have hstopped : s.ageStarts.formPicture.formWishes.1.pump.StoppedAt n m := by
    simp only [State.formWishes_keeps, State.formPicture_keeps, hl]
    exact ⟨h.opened, h.minOff, h.stopping, h.ready, h.noClaim⟩
  have hwish : s.ageStarts.formPicture.formWishes.2 = .notHeld :=
    State.startWishNow_of_minOff (by simp [hl, h.minOff])
  unfold State.evaluate
  split
  · rw [← Prod.mk.eta (p := s.ageStarts.formPicture.formWishes), hwish, State.act_of_stopped hstopped]
    exact hstopped
  · exact h

/-- An evaluation leaves a driving pump driving, or stops it (R49, R63). -/
theorem State.evaluate_of_driving (h : s.pump.Driving) (hm : s.general.minOff ≠ 0) :
    s.evaluate.pump.Driving ∨ s.evaluate.pump.StoppedAt s.now s.general.minOff := by
  obtain ⟨l, hl⟩ := s.ageStarts_pump
  have hdriving : s.ageStarts.formPicture.formWishes.1.pump.Driving := by
    simp only [State.formWishes_keeps, State.formPicture_keeps, hl]
    exact ⟨h.state, h.noClaim⟩
  have hwish : s.ageStarts.formPicture.formWishes.2 = .notHeld := by
    refine State.startWishNow_of_driving ?_
    simp only [State.formDelay_keeps, State.formPicture_keeps, hl]
    exact ⟨h.state, h.noClaim⟩
  have hnow : s.ageStarts.formPicture.formWishes.1.now = s.now := by simp
  have hgeneral : s.ageStarts.formPicture.formWishes.1.general = s.general := by
    simp [State.general, State.settings]
  unfold State.evaluate
  split
  · rw [← Prod.mk.eta (p := s.ageStarts.formPicture.formWishes), hwish, ← hnow, ← hgeneral]
    exact State.act_of_driving hdriving (hgeneral ▸ hm)
  · exact .inl h

/-! ### The bay cut-out at a completion -/

theorem State.bayCutOut_of_stopped (h : s.pump.StoppedAt n m) : s.bayCutOut = s := by
  simp [State.bayCutOut, State.bayCutOutDue, h.cutOutActs]

theorem State.bayCutOut_of_driving (h : s.pump.Driving) (hlevel : s.atCutOut s.bayLevel = true)
    (hm : s.general.minOff ≠ 0) : s.bayCutOut.pump.StoppedAt s.now s.general.minOff := by
  rw [State.bayCutOut, if_pos (by simp [State.bayCutOutDue, h.cutOutActs, hlevel])]
  exact State.goStopping_stops h hm

/-- What the bay cut-out reads: the bay level, the settings and the moment. -/
theorem State.atCutOut_congr {s t : State} (hstartUp : t.startUp = s.startUp) (hprobes : t.probes = s.probes) :
    t.atCutOut t.bayLevel = s.atCutOut s.bayLevel ∧ t.general = s.general := by
  simp [State.atCutOut, State.bayLevel, State.general, State.settings, hstartUp, hprobes]

/-- The bay cut-out stops a driving pump whether it is taken before the evaluation or after it (R90, R91). -/
theorem State.evaluateWithCutOut_stops (h : s.pump.Driving) (hlevel : s.atCutOut s.bayLevel = true)
    (hm : s.general.minOff ≠ 0) : s.evaluateWithCutOut.pump.StoppedAt s.now s.general.minOff := by
  have hafter (u : State) (hnow : u.now = s.now) (hstartUp : u.startUp = s.startUp) (hprobes : u.probes = s.probes)
      (hpump : u.pump = s.pump) : u.evaluate.bayCutOut.pump.StoppedAt s.now s.general.minOff := by
    obtain ⟨hcut, hgeneral⟩ := State.atCutOut_congr (s := s) (t := u.evaluate) (by simp [hstartUp]) (by simp [hprobes])
    have hu : u.general = s.general := by rw [State.general, State.settings, hstartUp]; rfl
    rcases State.evaluate_of_driving (hpump ▸ h) (hu ▸ hm) with hd | hs
    · have hb := State.bayCutOut_of_driving hd (hcut.trans hlevel) (hgeneral ▸ hm)
      rwa [hgeneral, u.evaluate_keeps.1, hnow] at hb
    · rw [State.bayCutOut_of_stopped hs, ← hnow, ← hu]
      exact hs
  unfold State.evaluateWithCutOut
  rcases eitherOrder_cases s State.bayCutOut State.evaluate with e | e | e <;> rw [e]
  · exact State.evaluate_of_stopped (State.bayCutOut_of_driving h hlevel hm)
  · exact State.evaluate_of_stopped (State.bayCutOut_of_driving (s := s.drawn) h hlevel hm)
  · exact hafter s.drawn rfl rfl rfl rfl

/-- So it does whether the Weir Unit's step is taken before them or after them (R140). -/
theorem State.decideIfEnded_stops (hended : s.ended) (h : s.pump.Driving) (hlevel : s.atCutOut s.bayLevel = true)
    (hm : s.general.minOff ≠ 0) : s.decideIfEnded.pump.StoppedAt s.now s.general.minOff := by
  have hweir (u : State) (hnow : u.now = s.now) (hstartUp : u.startUp = s.startUp) (hprobes : u.probes = s.probes)
      (hpump : u.pump = s.pump) : u.weirStep.evaluateWithCutOut.pump.StoppedAt s.now s.general.minOff := by
    obtain ⟨hcut, hgeneral⟩ := State.atCutOut_congr (s := s) (t := u.weirStep) (by simp [hstartUp]) (by simp [hprobes])
    have hstops := State.evaluateWithCutOut_stops (s := u.weirStep) (by simpa [hpump] using h) (hcut.trans hlevel)
      (hgeneral ▸ hm)
    rwa [hgeneral, u.weirStep_keeps.1, hnow] at hstops
  rw [State.decideIfEnded, if_pos hended, State.decideAtCompletion]
  split
  · rcases eitherOrder_cases s State.weirStep State.evaluateWithCutOut with e | e | e <;> rw [e]
    · exact hweir s rfl rfl rfl rfl
    · exact hweir s.drawn rfl rfl rfl rfl
    · rw [(State.weirStep_keeps _).2.2.2.2.2.1]
      exact State.evaluateWithCutOut_stops (s := s.drawn) h hlevel hm
  · exact State.evaluateWithCutOut_stops h hlevel hm

end Sys2Proof.Machine

/-! ## Probe cycles and their completion

How a cycle begins and what its completion leaves (R5, R10 to R13, R45, R46, R118, R119, R130). -/

namespace Sys2Proof.Machine

variable {s : State}

/-! ### Records at a completion (R10 to R13) -/

@[simp] theorem ProbeUnit.complete_record (u : ProbeUnit) (p : ProbeId) : u.complete.record p = u.gradedRecord p := by
  cases p <;> rfl

/-- A completion leaves what was loaded into a record and its identity (R1, R14). -/
theorem ProbeUnit.gradedRecord_keeps (u : ProbeUnit) (p : ProbeId) :
    (u.gradedRecord p).fitted = (u.record p).fitted ∧ (u.gradedRecord p).offset = (u.record p).offset ∧
    (u.gradedRecord p).identity = (u.record p).identity := by
  unfold ProbeUnit.gradedRecord
  dsimp only
  split
  · cases u.outcome p <;> exact ⟨rfl, rfl, rfl⟩
  · exact ⟨rfl, rfl, rfl⟩

/-- Whether a probe is polled does not change at a completion (R2). -/
theorem ProbeUnit.gradedRecord_polled (u : ProbeUnit) (p : ProbeId) :
    (u.gradedRecord p).polled = (u.record p).polled := by
  obtain ⟨hfitted, _, hidentity⟩ := u.gradedRecord_keeps p
  rw [ProbeRecord.polled, ProbeRecord.polled, hfitted, hidentity]

/-- Of a probe that is not polled only the level is set (R10, R11). -/
theorem ProbeUnit.gradedRecord_unpolled {u : ProbeUnit} {p : ProbeId} (h : (u.record p).polled = false) :
    u.gradedRecord p = { u.record p with level := (u.gradedRecord p).level } := by
  simp [ProbeUnit.gradedRecord, h, ProbeRecord.withLevel]

/-- A sample makes a polled record good (R10, R12). -/
theorem ProbeUnit.gradedRecord_sample {u : ProbeUnit} {p : ProbeId} {l : Nat} {m : AtLimit}
    (h : (u.record p).polled = true) (ho : u.outcome p = .sample l m) :
    (u.gradedRecord p).quality = .good ∧ (u.gradedRecord p).misses = 0 ∧ (u.gradedRecord p).lastGood = some l ∧
    (u.gradedRecord p).atLimit = m := by
  simp [ProbeUnit.gradedRecord, h, ho, ProbeRecord.graded, ProbeRecord.withLevel]

/-- A miss is counted, and the fourth in a row makes a polled record faulty (R10). -/
theorem ProbeUnit.gradedRecord_miss {u : ProbeUnit} {p : ProbeId} (h : (u.record p).polled = true)
    (ho : u.outcome p = .miss) :
    (u.gradedRecord p).misses = min 4 ((u.record p).misses + 1) ∧
    (u.gradedRecord p).lastGood = (u.record p).lastGood ∧ (u.gradedRecord p).atLimit = (u.record p).atLimit ∧
    (u.gradedRecord p).quality = (u.record p).quality.afterMiss (min 4 ((u.record p).misses + 1)) := by
  simp [ProbeUnit.gradedRecord, h, ho, ProbeRecord.graded, ProbeRecord.withLevel]

theorem Quality.afterMiss_early {misses : Nat} (h : misses < 3) (x : Quality) :
    (x = .unset → x.afterMiss (min 4 (misses + 1)) = .unset) ∧
    (x = .good ∨ x = .held → x.afterMiss (min 4 (misses + 1)) = .held) := by
  have hlt : min 4 (misses + 1) < 4 := by omega
  constructor
  · rintro rfl
    exact if_pos hlt
  · rintro (rfl | rfl) <;> exact if_pos hlt

theorem Quality.afterMiss_late {misses : Nat} {x : Quality} (h : 3 ≤ misses ∨ x = .fault) :
    x.afterMiss (min 4 (misses + 1)) = .fault := by
  rcases h with h | rfl
  · have hge : ¬ min 4 (misses + 1) < 4 := by omega
    cases x <;> first | exact if_neg hge | rfl
  · rfl

/-- Every level follows its quality (R11). -/
theorem ProbeUnit.gradedRecord_level (u : ProbeUnit) (p : ProbeId) :
    ((u.gradedRecord p).quality = .good ∨ (u.gradedRecord p).quality = .held →
      (u.gradedRecord p).level = (u.gradedRecord p).lastGood) ∧
    ((u.gradedRecord p).quality = .unset ∨ (u.gradedRecord p).quality = .fault → (u.gradedRecord p).level = none) := by
  unfold ProbeUnit.gradedRecord ProbeRecord.withLevel
  dsimp only
  constructor <;> rintro (h | h) <;> rw [h]

/-! ### The beginning of a cycle (R5) -/

/-- The probes that a cycle polls, in their order (R2, R5). -/
def ProbeUnit.polledProbes (u : ProbeUnit) : List ProbeId := ProbeId.inOrder.filter fun p => (u.record p).polled

/-- The Probe Interface as a cycle begins at a moment, no exchange of it in progress yet (R5). -/
def ProbeUnit.cycleBegun (u : ProbeUnit) (now : Nat) : ProbeUnit :=
  { u with queue := u.polledProbes, outcomes := [], nextCycle := some (now + 1000) }

theorem ProbeUnit.not_polled {u : ProbeUnit} (h : u.polledProbes = []) (p : ProbeId) : (u.record p).polled = false := by
  have hmem : p ∈ ProbeId.inOrder := by cases p <;> decide
  have hnot : p ∉ u.polledProbes := by rw [h]; exact List.not_mem_nil
  simpa [ProbeUnit.polledProbes, hmem] using hnot

@[simp] theorem ProbeUnit.cycleBegun_record (u : ProbeUnit) (now : Nat) (p : ProbeId) :
    (u.cycleBegun now).record p = u.record p := ProbeUnit.record_congr rfl rfl rfl p

/-- A cycle with a probe to poll begins with its first exchange (R5). -/
theorem State.beginCycle_cons {p : ProbeId} {rest : List ProbeId} (h : s.probes.polledProbes = p :: rest)
    (first : Nat) :
    s.beginCycle first = s.onProbes fun u => (u.cycleBegun s.now).goingOn false p rest first := by
  have hnext : nextExchange false first (s.probes.cycleBegun s.now) =
      (s.probes.cycleBegun s.now).goingOn false p rest first := nextExchange_cons h _ _
  have hbegin : s.beginCycle first = if (nextExchange false first (s.probes.cycleBegun s.now)).exchange = none then
      (s.onProbes fun u => nextExchange false first (u.cycleBegun s.now)).completion
      else s.onProbes fun u => nextExchange false first (u.cycleBegun s.now) := rfl
  rw [hbegin, hnext, if_neg (by simp [ProbeUnit.goingOn])]
  simp [State.onProbes, hnext]

/-- A cycle with no probe to poll completes at once (R5). -/
theorem State.beginCycle_nil (h : s.probes.polledProbes = []) (first : Nat) :
    s.beginCycle first = (s.onProbes fun u => { u.cycleBegun s.now with exchange := none }).completion := by
  have hnext : nextExchange false first (s.probes.cycleBegun s.now) =
      { s.probes.cycleBegun s.now with exchange := none } := nextExchange_nil h _ _
  have hbegin : s.beginCycle first = if (nextExchange false first (s.probes.cycleBegun s.now)).exchange = none then
      (s.onProbes fun u => nextExchange false first (u.cycleBegun s.now)).completion
      else s.onProbes fun u => nextExchange false first (u.cycleBegun s.now) := rfl
  rw [hbegin, hnext, if_pos rfl]
  simp [State.onProbes, hnext]

/-! ### Completion -/

variable (s)

theorem State.completionTaken_probes : s.completionTaken.probes = s.probes.complete := by
  simp [State.completionTaken]

/-- A completion rewrites no entry but the own one (R45). -/
theorem State.completionTaken_entry_ne {a : BayAddress} (h : s.startUp.address ≠ some a) :
    s.completionTaken.peers.get a = s.peers.get a := by
  simp only [State.completionTaken, State.screenCompletion_keeps, State.placeStatus_keeps, State.rewriteOwn,
    State.onProbes_startUp]
  split
  · rfl
  · next own hown =>
    rw [State.onEntry_peers, Twelve.get_set, if_neg (by rintro rfl; exact h hown)]
    rfl

/-- The own entry takes the bay level and the credit (R45). -/
theorem State.completionTaken_own {own : BayAddress} (h : s.startUp.address = some own) :
    (s.completionTaken.peers.get own).level = s.probes.complete.bay.level ∧
    (s.completionTaken.peers.get own).credit = s.pump.credit := by
  simp only [State.completionTaken, State.screenCompletion_keeps, State.placeStatus_keeps, State.rewriteOwn,
    State.onProbes_startUp, h, State.onEntry_peers, Twelve.get_set_self]
  exact ⟨rfl, rfl⟩

/-- A completion places the STATUS that shows the own entry (R46). -/
theorem State.completionTaken_shown : s.completionTaken.StatusShown := by
  obtain ⟨_, hstartUp, hprobes, _, hline, hpeers, _⟩ :=
    (s.onProbes ProbeUnit.complete).rewriteOwn.placeStatus.screenCompletion_keeps
  exact (State.placeStatus_shown _).of_kept hstartUp hprobes hpeers
    (by rw [State.completionTaken, hline])

/-- The decisions of a completion, and A9, leave what `State.Follows` names. -/
theorem State.completion_follows : s.completionTaken.Follows false s.completion :=
  (State.Follows.refl _).decideIfEnded.handOver (by decide) nofun

theorem State.evaluateWithCutOut_screen_credit :
    s.evaluateWithCutOut.screen = s.screen ∧ s.evaluateWithCutOut.pump.buckets = s.pump.buckets ∧
    s.evaluateWithCutOut.pump.feedback = s.pump.feedback := by
  unfold State.evaluateWithCutOut
  rcases eitherOrder_cases s State.bayCutOut State.evaluate with e | e | e <;> rw [e] <;> simp

theorem State.decideIfEnded_screen_credit :
    s.decideIfEnded.screen = s.screen ∧ s.decideIfEnded.pump.buckets = s.pump.buckets ∧
    s.decideIfEnded.pump.feedback = s.pump.feedback := by
  unfold State.decideIfEnded State.decideAtCompletion
  split
  · split
    · rcases eitherOrder_cases s State.weirStep State.evaluateWithCutOut with e | e | e <;> rw [e] <;>
        simp [State.evaluateWithCutOut_screen_credit]
    · exact s.evaluateWithCutOut_screen_credit
  · exact ⟨rfl, rfl, rfl⟩

/-- What a completion and its selection leave of each block, after the records, the own entry, the STATUS and the screen's
timers have been taken. -/
theorem State.completion_finish :
    s.completion.finish.now = s.now ∧ s.completion.finish.startUp = s.startUp ∧
    s.completion.finish.probes = s.probes.complete ∧ s.completion.finish.floats = s.floats ∧
    s.completion.finish.supply = s.supply ∧ s.completion.finish.panel = s.panel ∧
    s.completion.finish.pending = s.pending ∧ s.completion.finish.screen = s.completionTaken.screen ∧
    s.completion.finish.pump = s.completionTaken.decideIfEnded.pump ∧
    s.completion.finish.pump.credit = s.pump.credit ∧ s.completion.finish.pump.feedback = s.pump.feedback := by
  obtain ⟨hscreen, hbuckets, hfeedback⟩ := s.completionTaken.decideIfEnded_screen_credit
  simp [State.completion, State.completionTaken_probes, hscreen, Pump.credit, hbuckets, hfeedback]

theorem State.completion_finish_follows : s.completionTaken.Follows false s.completion.finish := s.completion_follows.finish

/-- The kinds that a completion does not form keep their records (R19, R49). -/
theorem State.completion_finish_alarm {k : AlarmKind} (hk : k ∉ decisionKinds) :
    s.completion.finish.alarm k = s.alarm k :=
  (s.completion_finish_follows.alarms k hk).trans (State.alarm_congr (by simp) k)

theorem State.completion_finish_entry_ne {a : BayAddress} (h : s.startUp.address ≠ some a) :
    s.completion.finish.peers.get a = s.peers.get a :=
  (s.completion_finish_follows.peers a (by simpa using h)).trans (s.completionTaken_entry_ne h)

/-! ### The screen's timers at a completion (R118, R119, R130) -/

/-- The screen at a completion takes the four timers, formed from the ΔH that the completion has set. -/
theorem State.completionTaken_screen :
    ∃ x : State, x.now = s.now ∧ x.startUp = s.startUp ∧ x.probes = s.probes.complete ∧ x.screen = s.screen ∧
      s.completionTaken.screen = { s.screen with
        differentialSince := keepTiming s.now x.rakeOnReached s.screen.differentialSince
        blindSetSince := keepTiming s.now x.inSetBand s.screen.blindSetSince
        blindClearSince := keepTiming s.now x.inClearBand s.screen.blindClearSince
        intervalAt := x.intervalAtCompletion } := by
  refine ⟨(s.onProbes ProbeUnit.complete).rewriteOwn.placeStatus, by simp, by simp, by simp, by simp, ?_⟩
  simp [State.completionTaken, State.screenCompletion]

end Sys2Proof.Machine

section
open Sys2Proof Sys2Proof.Machine

/-- Settles O10: with a probe polled the cycle's first exchange is in progress, and with none the completion follows. -/
theorem probeCycleBegins : Obligations.ProbeCycleBegins := by
  intro s dt start hcycle hx
  have hexec : exec (.probeCycleBegin dt) s =
      .next ((s.reach dt start).beginCycle (s.reach dt start).now).finish := by
    simp [exec, execProbeCycleBegin, hcycle, hx]
  refine ⟨fun p rest hpolled => ?_, fun hpolled => ?_⟩
  · refine ⟨_, hexec.trans (by rw [State.beginCycle_cons (by exact hpolled)]), ?_⟩
    have hselects := State.onProbes_finish_selects (s.reach dt start) fun u =>
      (u.cycleBegun (s.reach dt start).now).goingOn false p rest (s.reach dt start).now
    rw [State.onProbes_finish.1] at hselects
    rw [State.onProbes_finish.2]
    exact hselects
  · refine ⟨_, hexec.trans (by rw [State.beginCycle_nil (by exact hpolled)]), ?_⟩
    obtain ⟨w, hw⟩ : ∃ w, w = (s.reach dt start).onProbes fun u =>
      { u.cycleBegun (s.reach dt start).now with exchange := none } := ⟨_, rfl⟩
    have hrecord (p : ProbeId) : w.probes.record p = s.probes.record p := by
      rw [hw]; exact ProbeUnit.record_congr rfl rfl rfl p
    obtain ⟨hnow, hstartUp, hprobes, hfloats, hsupply, hpanel, hpending, _⟩ := w.completion_finish
    rw [← hw]
    refine ⟨?_, fun k hk => ?_, ?_, ?_, ?_, fun p => ?_⟩
    · simp only [State.SameBut, hnow, hstartUp, hfloats, hsupply, hpanel, hpending]
      simp [hw]
    · rw [w.completion_finish_alarm hk, hw]; rfl
    · rw [hprobes]; rfl
    · rw [hprobes, hnow, hw]; rfl
    · rw [State.channelLevel, State.bayLevel, hprobes]; rfl
    · rw [hprobes, ProbeUnit.complete_record, ← hrecord]
      exact ProbeUnit.gradedRecord_unpolled (by rw [hrecord]; exact ProbeUnit.not_polled hpolled p)

end

/-! ## The last exchange of a cycle

NO_REPLY and PROBE_REPLY_END that complete a cycle (R5, R7, R10 to R13, R45, R46, R90, R118, R119, R130). -/

namespace Sys2Proof.Machine

variable {s : State}

/-- The last exchange of a cycle gathers its outcome, and the cycle completes (R5). -/
theorem State.exchangeEnded_last (h : s.probes.queue = []) :
    s.exchangeEnded false = (s.onProbes fun u => { u with exchange := none }).completion := by
  simp [State.exchangeEnded, h]

/-- The Probe Interface as the last exchange of a cycle ends (R5, R7). -/
def ProbeUnit.gathered (u : ProbeUnit) (q : ProbeId) (o : ProbeOutcome) : ProbeUnit :=
  { u with outcomes := u.outcomes ++ [(q, o)], exchange := none }

@[simp] theorem ProbeUnit.gathered_record (u : ProbeUnit) (q : ProbeId) (o : ProbeOutcome) (p : ProbeId) :
    (u.gathered q o).record p = u.record p := ProbeUnit.record_congr rfl rfl rfl p

theorem State.exchangeMissed_last {q : ProbeId} {repeats : Nat} {stage : ExchangeStage} (h : s.probes.queue = []) :
    s.exchangeMissed ⟨q, false, repeats, stage⟩ = (s.onProbes fun u => u.gathered q .miss).completion := by
  simp only [State.exchangeMissed]
  exact State.exchangeEnded_last (by exact h)

/-- The outcome with which PROBE_REPLY_END ends the last exchange of a cycle (R7, R8, R9). -/
theorem State.readReplied_last {q : ProbeId} {repeats : Nat} {stage : ExchangeStage} {reply : List LinkByte}
    {o : ProbeOutcome} (h : s.probes.queue = [])
    (ho : (∃ reading mark, judgeReply 4 readSample reply = .good (reading, mark) ∧
        o = .sample (toDatum (s.probes.record q).offset reading) mark) ∨
      ((∀ reading mark, judgeReply 4 readSample reply ≠ .good (reading, mark)) ∧ 2 ≤ repeats ∧ o = .miss)) :
    s.readReplied ⟨q, false, repeats, stage⟩ reply = (s.onProbes fun u => u.gathered q o).completion := by
  rcases ho with ⟨reading, mark, hgood, rfl⟩ | ⟨hbad, hrepeats, rfl⟩
  · exact (State.readReplied_good hgood).trans (State.exchangeEnded_last (by exact h))
  · exact (State.readReplied_bad hbad).trans ((State.attemptFailed_last hrepeats).trans (State.exchangeMissed_last h))

/-- The command that ends the last exchange of a cycle lets the time pass that `u` shows, and completes the cycle. -/
theorem exec_last_read {u : State} {dt : Nat} {q : ProbeId} {repeats closes : Nat} {reply : List LinkByte} {c : Instr}
    {o : ProbeOutcome} (hx : s.probes.exchange = some ⟨q, false, repeats, .window closes⟩) (hqueue : s.probes.queue = [])
    (hc : (c = .noReply dt ∧ u = s.reach dt closes ∧ o = .miss) ∨
      (c = .probeReplyEnd dt reply ∧ u = s.elapse dt ∧ reply ≠ [] ∧ closes ≤ s.now + dt + 20 ∧
        s.now + dt ≤ closes + 12 ∧
        ((∃ reading mark, judgeReply 4 readSample reply = .good (reading, mark) ∧
            o = .sample (toDatum (s.probes.record q).offset reading) mark) ∨
          ((∀ reading mark, judgeReply 4 readSample reply ≠ .good (reading, mark)) ∧ 2 ≤ repeats ∧ o = .miss)))) :
    (∃ d, u = s.elapse d) ∧
      exec c s = .next (u.onProbes fun v => v.gathered q o).completion.finish := by
  rcases hc with ⟨rfl, rfl, rfl⟩ | ⟨rfl, rfl, hreply, hopen, hclosed, ho⟩
  · exact ⟨⟨_, rfl⟩, (exec_noReply hx).trans (by rw [State.exchangeMissed_last (by exact hqueue)])⟩
  · refine ⟨⟨_, rfl⟩, (exec_probeReplyEnd hx hreply hopen hclosed).trans ?_⟩
    rw [State.readReplied_last (by exact hqueue) (by exact ho)]
    rfl

/-! ### The timers that a completion forms -/

variable {x : State} {g : ScreenSettings} {d : Nat}

theorem State.screenBands_of_settings (hg : x.settings.screen = some g) (hd : x.probes.deltaH = some d) :
    x.rakeOnReached = decide (g.rakeOn ≤ d) ∧ x.inSetBand = decide (g.blind ≤ d) ∧
    x.inClearBand = decide (d + 50 < g.blind) := by
  simp [State.rakeOnReached, State.inSetBand, State.inClearBand, hg, hd]

theorem State.screenBands_of_none (h : x.settings.screen = none ∨ x.probes.deltaH = none) :
    x.rakeOnReached = false ∧ x.inSetBand = false ∧ x.inClearBand = false := by
  rcases h with h | h <;> cases hg : x.settings.screen <;>
    simp_all [State.rakeOnReached, State.inSetBand, State.inClearBand]

/-- After the end of start-up the interval timer runs for the length in force, and not with the interval off (R119). -/
theorem State.intervalAtCompletion_of_ended (h : x.ended) :
    (x.settings.screen = none →
      x.intervalAtCompletion = some (x.screen.intervalAt.getD (x.now + 3600000))) ∧
    ∀ g, x.settings.screen = some g →
      (g.interval ≠ 0 → x.intervalAtCompletion = some (x.screen.intervalAt.getD (x.now + g.interval * 60000))) ∧
      (g.interval = 0 → x.probes.deltaH = none →
        x.intervalAtCompletion = some (x.screen.intervalAt.getD (x.now + 1800000))) ∧
      (g.interval = 0 → x.probes.deltaH.isSome → x.intervalAtCompletion = none) := by
  have hlength : x.intervalAtCompletion =
      x.rakeInterval.map fun m => x.screen.intervalAt.getD (x.now + m * 60000) := by
    rw [State.intervalAtCompletion, if_neg (not_not.mpr h)]
    cases x.rakeInterval <;> rfl
  rw [hlength]
  refine ⟨fun hnone => by simp [State.rakeInterval, hnone], fun g hg => ⟨fun hi => ?_, fun hi hd => ?_, fun hi hd => ?_⟩⟩
  · simp [State.rakeInterval, hg, hi]
  · simp [State.rakeInterval, hg, hi, hd]
  · simp [State.rakeInterval, hg, hi, Option.isSome_iff_ne_none.mp hd]

variable (s)

/-- The screen after a completion: its timers formed from the ΔH that the completion has set, and the rest as it was
(R118, R119, R130). -/
theorem State.completion_finish_screen :
    s.completion.finish.screen = { s.screen with
      differentialSince := s.completion.finish.screen.differentialSince
      intervalAt := s.completion.finish.screen.intervalAt
      blindSetSince := s.completion.finish.screen.blindSetSince
      blindClearSince := s.completion.finish.screen.blindClearSince } ∧
    (∀ g d, s.settings.screen = some g → s.completion.finish.probes.deltaH = some d →
      s.completion.finish.screen.differentialSince =
        (if g.rakeOn ≤ d then some (s.screen.differentialSince.getD s.now) else none) ∧
      s.completion.finish.screen.blindSetSince =
        (if g.blind ≤ d then some (s.screen.blindSetSince.getD s.now) else none) ∧
      s.completion.finish.screen.blindClearSince =
        (if d + 50 < g.blind then some (s.screen.blindClearSince.getD s.now) else none)) ∧
    (s.settings.screen = none ∨ s.completion.finish.probes.deltaH = none →
      s.completion.finish.screen.differentialSince = none ∧ s.completion.finish.screen.blindSetSince = none ∧
      s.completion.finish.screen.blindClearSince = none) ∧
    (¬ s.ended → s.completion.finish.screen.intervalAt = s.screen.intervalAt) ∧
    (s.ended →
      (s.settings.screen = none →
        s.completion.finish.screen.intervalAt = some (s.screen.intervalAt.getD (s.now + 3600000))) ∧
      ∀ g, s.settings.screen = some g →
        (g.interval ≠ 0 →
          s.completion.finish.screen.intervalAt = some (s.screen.intervalAt.getD (s.now + g.interval * 60000))) ∧
        (g.interval = 0 → s.completion.finish.probes.deltaH = none →
          s.completion.finish.screen.intervalAt = some (s.screen.intervalAt.getD (s.now + 1800000))) ∧
        (g.interval = 0 → s.completion.finish.probes.deltaH.isSome →
          s.completion.finish.screen.intervalAt = none)) := by
  obtain ⟨_, _, hprobes, _, _, _, _, hscreen, _⟩ := s.completion_finish
  obtain ⟨x, hxnow, hxstart, hxprobes, hxscreen, htimers⟩ := s.completionTaken_screen
  have hsettings : x.settings = s.settings := by rw [State.settings, hxstart]; rfl
  have hended : x.ended ↔ s.ended := by rw [State.ended, hxstart]
  have hinterval (h : s.ended) := State.intervalAtCompletion_of_ended (hended.mpr h)
  rw [hsettings, hxscreen, hxnow, hxprobes] at hinterval
  rw [hscreen, htimers, hprobes]
  refine ⟨rfl, fun g d hg hd => ?_, fun h => ?_, fun h => ?_, hinterval⟩
  · obtain ⟨hon, hset, hclear⟩ := State.screenBands_of_settings (hsettings ▸ hg) (hxprobes ▸ hd)
    simp [hon, hset, hclear, keepTiming]
  · obtain ⟨hon, hset, hclear⟩ := State.screenBands_of_none (x := x) (by rwa [hsettings, hxprobes])
    simp [hon, hset, hclear, keepTiming]
  · exact (if_pos (mt hended.mp h)).trans (by rw [hxscreen])

variable {s}

/-- A completion that finds the bay level at or below the cut-out level stops a driving pump (R90). -/
theorem State.completion_finish_stops {level : Nat} {l : LevelSettings} (hended : s.ended) (h : s.pump.Driving)
    (hlevel : s.completion.finish.bayLevel = some level) (hl : s.settings.levels = some l) (hle : level ≤ l.cutOut)
    (hm : s.general.minOff ≠ 0) : s.completion.finish.pump.StoppedAt s.now s.general.minOff := by
  obtain ⟨_, _, hprobes, _, _, _, _, _, hpump, _⟩ := s.completion_finish
  obtain ⟨hnow, hstartUp, _, _, hkept, _⟩ := s.completionTaken_keeps
  have hsettings : s.completionTaken.settings = s.settings := by rw [State.settings, hstartUp]; rfl
  have hgeneral : s.completionTaken.general = s.general := by rw [State.general, hsettings]; rfl
  have hbay : s.completionTaken.bayLevel = some level := by
    rw [State.bayLevel, s.completionTaken_probes, ← hprobes]; exact hlevel
  have hcut : s.completionTaken.atCutOut s.completionTaken.bayLevel = true := by
    simp [State.atCutOut, hbay, hsettings, hl, hle]
  have hstops := State.decideIfEnded_stops (s := s.completionTaken) (by rwa [State.ended, hstartUp]) (hkept ▸ h) hcut
    (hgeneral ▸ hm)
  rwa [← hpump, hnow, hgeneral] at hstops

end Sys2Proof.Machine

section
open Sys2Proof Sys2Proof.Machine

/-- Settles O15: the command completes the cycle, the completion takes the records, the own entry, the STATUS and the
screen's timers, and what it decides leaves them so. -/
theorem completionGradesTheRecords : Obligations.CompletionGradesTheRecords := by
  intro s u dt q repeats closes reply c o hx hqueue hc
  obtain ⟨⟨e, rfl⟩, hexec⟩ := exec_last_read hx hqueue hc
  obtain ⟨w, hw⟩ : ∃ w, w = (s.elapse e).onProbes fun v => v.gathered q o := ⟨_, rfl⟩
  rw [← hw] at hexec
  have hwstart : w.startUp = (s.elapse e).startUp := by rw [hw]; rfl
  have hwended : w.ended ↔ s.ended := by rw [State.ended, hwstart]; rfl
  have hwaddress : w.startUp.address = s.startUp.address := by rw [hwstart]; rfl
  have hwsettings : w.settings = s.settings := by rw [State.settings, hwstart]; rfl
  have hwgeneral : w.general = s.general := by rw [State.general, hwsettings]; rfl
  have hwpump : w.pump = s.pump := by rw [hw]; rfl
  have hwscreen : w.screen = (s.elapse e).screen := by rw [hw]; rfl
  have hrecord (p : ProbeId) : w.probes.record p = s.probes.record p := by
    rw [hw]; exact ProbeUnit.gathered_record _ _ _ p
  have houtcome (p : ProbeId) : w.probes.outcome p =
      ({ s.probes with outcomes := s.probes.outcomes ++ [(q, o)] } : ProbeUnit).outcome p := by rw [hw]; rfl
  obtain ⟨hnow, hstartUp, hprobes, hfloats, hsupply, hpanel, hpending, _, _, hcredit, hfeedback⟩ := w.completion_finish
  obtain ⟨hscreen, hbands, hnobands, hbefore, hafter⟩ := w.completion_finish_screen
  rw [hwsettings, hwscreen, ← hnow] at hbands hafter
  rw [hwsettings] at hnobands
  rw [hwscreen] at hscreen hbefore
  have hfollows := w.completion_finish_follows
  have hgraded (p : ProbeId) : w.completion.finish.probes.record p = w.probes.gradedRecord p := by
    rw [hprobes, ProbeUnit.complete_record]
  have hdelta : w.completion.finish.probes.deltaH =
      differential w.completion.finish.channelLevel w.completion.finish.bayLevel := by
    rw [State.channelLevel, State.bayLevel, hprobes]; rfl
  refine ⟨_, hexec, ?_, fun k hk => ?_, fun a ha => ?_, ?_, ?_, fun p => ?_, fun p hpolled => ?_,
    fun p l m hpolled ho => ?_, fun p hpolled ho => ?_, fun p => ?_, fun a b ha hb => ?_, fun h => ?_,
    fun own hown => ⟨?_, ?_, fun hended => ?_⟩, hscreen, hbands, hnobands, fun hended => hbefore (mt hwended.mp hended),
    fun hended => hafter (hwended.mpr hended), fun level l hended hsound hstate hlevel hl hle hm => ?_⟩
  · simp only [State.SameBut, hnow, hstartUp, hfloats, hsupply, hpanel, hpending]
    simp [hw]
  · rw [w.completion_finish_alarm hk, hw]; rfl
  · rw [w.completion_finish_entry_ne (by rwa [hwaddress]), hw]; rfl
  · rw [hprobes]; rfl
  · rw [hprobes, hw]; rfl
  · rw [hgraded, ← hrecord]
    exact w.probes.gradedRecord_keeps p
  · rw [hgraded, ← hrecord]
    exact ProbeUnit.gradedRecord_unpolled (by rwa [hrecord])
  · rw [hgraded]
    exact ProbeUnit.gradedRecord_sample (by rwa [hrecord]) (by rwa [houtcome])
  · obtain ⟨hmisses, hlast, hlimit, hquality⟩ :=
      ProbeUnit.gradedRecord_miss (u := w.probes) (p := p) (by rwa [hrecord]) (by rwa [houtcome])
    rw [hrecord] at hmisses hlast hlimit hquality
    rw [hgraded, hquality]
    exact ⟨hmisses, hlast, hlimit, fun h => (Quality.afterMiss_early h _).1, fun h => (Quality.afterMiss_early h _).2,
      Quality.afterMiss_late⟩
  · rw [hgraded]
    exact w.probes.gradedRecord_level p
  · rw [hdelta, ha, hb]; rfl
  · rw [hdelta]
    rcases h with h | h <;> rw [h]
    · rfl
    · cases w.completion.finish.channelLevel <;> rfl
  · rw [(hfollows.own own).1, (w.completionTaken_own (hwaddress.trans hown)).1, State.bayLevel, hprobes]
  · rw [(hfollows.own own).2, (w.completionTaken_own (hwaddress.trans hown)).2, hcredit]
  · have hshown := hfollows.status w.completionTaken_shown
    refine ⟨w.completion.finish.ownStatus own, rfl, hshown ?_ own ?_⟩
    · rw [State.ended, hstartUp]; exact hwended.mpr hended
    · rw [hstartUp, hwaddress]; exact hown
  · obtain ⟨hopened, hminOff, hstopping, hready, _⟩ := State.completion_finish_stops (hwended.mpr hended)
      (hwpump ▸ hsound.driving hstate) hlevel (hwsettings ▸ hl) hle (hwgeneral ▸ hm)
    rw [hfeedback, hwpump] at hstopping hready
    rw [← hnow] at hminOff hstopping
    rw [hwgeneral] at hminOff
    exact ⟨hopened, hminOff, hstopping, hready⟩

end

/-! ## Replies judged, and the end of the IDENTIFY step

PROBE_REPLY_END with another probe to come (R6 to R9, R14), and the last exchange of the IDENTIFY step, which begins LISTEN
with the first probe cycle (R5, R187). -/

namespace Sys2Proof.Machine

variable {s : State}

/-! ### A completion before the end of start-up -/

/-- The Alarm Unit takes no condition before the end of start-up (R156). -/
theorem State.handOver_of_not_ended (h : ¬ s.ended) (l : List Snapshot) (k : AlarmKind) : s.handOver l k = s := by
  simp [State.handOver, State.turnAbnormalSince, State.turnAbnormal, State.turnNormal, h]

/-- Before the end of start-up a completion makes no decision (R46, R49). -/
theorem State.completion_of_not_ended (h : ¬ s.ended) :
    s.completion = (s.onProbes ProbeUnit.complete).rewriteOwn.screenCompletion := by
  have hstatus : (s.onProbes ProbeUnit.complete).rewriteOwn.placeStatus = (s.onProbes ProbeUnit.complete).rewriteOwn := by
    unfold State.placeStatus
    split
    · rfl
    · exact if_neg (by simpa using h)
  have htaken : s.completionTaken = (s.onProbes ProbeUnit.complete).rewriteOwn.screenCompletion := by
    rw [State.completionTaken, hstatus]
  have hended : ¬ s.completionTaken.ended := by simpa using h
  rw [State.completion, State.decideIfEnded, if_neg hended, State.handOver_of_not_ended hended, htaken]

/-! ### The idle line -/

theorem State.place_idle (s : State) (i : SlotId) (f : Frame) : (s.place i f).line.idle = s.line.idle := by
  unfold State.place
  dsimp only
  (repeat' split) <;> cases i <;> rfl

theorem State.withdraw_idle (s : State) (i : SlotId) : (s.withdraw i).line.idle = s.line.idle := by
  unfold State.withdraw State.leaveField
  (repeat' split) <;> cases i <;> rfl

theorem State.fillReport_idle (s : State) : s.fillReport.line.idle = s.line.idle := by
  unfold State.fillReport
  (repeat' split) <;> first | rfl | exact s.place_idle _ _

/-- A selection does not make the line idle (R177). -/
theorem State.select_idle (s : State) : s.select.line.idle = s.line.idle := by
  have hwithdraw : s.withdrawReport.line.idle = s.line.idle := by
    unfold State.withdrawReport
    split
    · exact (State.fillReport_idle _).trans (s.withdraw_idle _)
    · exact s.withdraw_idle _
  unfold State.select
  (repeat' split) <;> first | rfl | exact s.fillReport_idle | exact hwithdraw

/-- A line that is not idle is left so at the end of a step (R26). -/
theorem State.finish_idle (h : s.line.idle = false) : s.finish.line.idle = false := by
  have hselect : s.select.line.idle = false := s.select_idle.trans h
  simp [State.finish, State.offer, hselect]

/-! ### The first probe cycle (R5, R187) -/

/-- The state as LISTEN begins, before its probe cycle (R187). -/
def State.listening (s : State) : State :=
  (s.onStartUp fun c => { c with step := .listen, stepBegan := s.now }).onLine fun u => { u with idle := false }

theorem State.listening_not_ended (s : State) : ¬ s.listening.ended := by simp [State.listening]

/-- What the first probe cycle leaves as it begins: with no probe polled it completes at once, before the end of start-up
(R5, R187). -/
theorem State.beginListen_finish (s : State) (first : Nat) :
    State.SameBut [.startUp, .probes, .line, .peers, .screen, .report] s (s.beginListen first).finish ∧
    (s.beginListen first).finish.startUp = { s.startUp with step := .listen, stepBegan := s.now } ∧
    (s.beginListen first).finish.line.idle = false ∧
    (s.beginListen first).finish.probes.nextCycle = some (s.now + 1000) ∧
    (∀ p, ((s.beginListen first).finish.probes.record p).polled = (s.probes.record p).polled ∧
      ((s.beginListen first).finish.probes.record p).identity = (s.probes.record p).identity ∧
      ((s.beginListen first).finish.probes.record p).quality = (s.probes.record p).quality) ∧
    (∀ q rest, s.probes.polledProbes = q :: rest →
      (s.beginListen first).finish.probes.exchange = some ⟨q, false, 0, .due first⟩ ∧
      (s.beginListen first).finish.probes.queue = rest ∧ (s.beginListen first).finish.probes.outcomes = []) ∧
    (s.probes.polledProbes = [] → (s.beginListen first).finish.probes.exchange = none) := by
  have hbegin : s.beginListen first = s.listening.beginCycle first := rfl
  cases hpolled : s.probes.polledProbes with
  | cons q rest =>
    have hcycle : s.beginListen first = s.listening.onProbes fun u =>
        (u.cycleBegun s.now).goingOn false q rest first := hbegin.trans (State.beginCycle_cons (by exact hpolled) first)
    rw [hcycle, State.onProbes_finish.1]
    refine ⟨by simp [State.SameBut, State.listening], by simp [State.listening], State.finish_idle rfl, rfl,
      fun p => by simp [State.listening], fun p r h => ?_, nofun⟩
    obtain ⟨rfl, rfl⟩ : q = p ∧ rest = r := by simpa using h
    exact ⟨rfl, rfl, rfl⟩
  | nil =>
    have hcycle : s.beginListen first =
        (s.listening.onProbes fun u => { u.cycleBegun s.now with exchange := none }).completion :=
      hbegin.trans (State.beginCycle_nil (by exact hpolled) first)
    obtain ⟨w, hw⟩ : ∃ w, w = s.listening.onProbes fun u => { u.cycleBegun s.now with exchange := none } := ⟨_, rfl⟩
    have hdone : s.beginListen first = (w.onProbes ProbeUnit.complete).rewriteOwn.screenCompletion := by
      rw [hcycle, ← hw]
      exact State.completion_of_not_ended (by rw [hw]; exact s.listening_not_ended)
    have hrecord (p : ProbeId) : w.probes.record p = s.probes.record p := by
      rw [hw]; exact ProbeUnit.record_congr rfl rfl rfl p
    have hprobes : (s.beginListen first).finish.probes = w.probes.complete := by simp [hdone]
    rw [hprobes]
    refine ⟨by simp [State.SameBut, hdone, hw, State.listening], by simp [hdone, hw, State.listening],
      State.finish_idle (by simp [hdone, hw, State.listening]), by rw [hw]; rfl, fun p => ?_, nofun, fun _ => rfl⟩
    have hgraded := ProbeUnit.gradedRecord_unpolled (u := w.probes) (p := p)
      (by rw [hrecord]; exact ProbeUnit.not_polled hpolled p)
    rw [ProbeUnit.complete_record, w.probes.gradedRecord_polled, hgraded, hrecord]
    exact ⟨rfl, rfl, rfl⟩

/-! ### The last exchange of the IDENTIFY step (R14, R187) -/

/-- What an IDENTIFY exchange leaves in its record (R14). -/
def ProbeRecord.identified (confirmed : Bool) (r : ProbeRecord) : ProbeRecord :=
  if confirmed then { r with identity := .confirmed } else r.failIdentity

/-- The Probe Interface as the last exchange of the IDENTIFY step ends (R14). -/
def ProbeUnit.identified (u : ProbeUnit) (p : ProbeId) (confirmed : Bool) : ProbeUnit :=
  { u.onRecord p (ProbeRecord.identified confirmed) with exchange := none }

theorem ProbeUnit.identified_record (u : ProbeUnit) (p : ProbeId) (confirmed : Bool) (x : ProbeId) :
    (u.identified p confirmed).record x =
      if x = p then (u.record x).identified confirmed else u.record x :=
  (ProbeUnit.record_congr rfl rfl rfl x).trans (u.record_onRecord p x _)

/-- The IDENTIFY step ends with its last exchange, and LISTEN begins (R14, R187). -/
theorem State.exchangeEnded_identify (hstep : s.startUp.step = .identify) (hqueue : s.probes.queue = []) :
    s.exchangeEnded true = (s.onProbes fun u => { u with exchange := none }).beginListen (s.now + 5) := by
  simp [State.exchangeEnded, hqueue, hstep]

theorem State.identify_ends (hstep : s.startUp.step = .identify) (hqueue : s.probes.queue = []) (p : ProbeId)
    (confirmed : Bool) :
    (s.onProbes fun u => u.onRecord p (ProbeRecord.identified confirmed)).exchangeEnded true =
      (s.onProbes fun u => u.identified p confirmed).beginListen (s.now + 5) :=
  State.exchangeEnded_identify hstep (by simp [hqueue])

theorem State.exchangeMissed_identify_last {p : ProbeId} {repeats : Nat} {stage : ExchangeStage}
    (hstep : s.startUp.step = .identify) (hqueue : s.probes.queue = []) :
    s.exchangeMissed ⟨p, true, repeats, stage⟩ =
      (s.onProbes fun u => u.identified p false).beginListen (s.now + 5) :=
  State.identify_ends hstep hqueue p false

/-- How PROBE_REPLY_END ends the last exchange of the IDENTIFY step (R7, R14). -/
theorem State.identifyReplied_last {p : ProbeId} {repeats : Nat} {stage : ExchangeStage} {reply : List LinkByte}
    {confirmed : Bool} (hstep : s.startUp.step = .identify) (hqueue : s.probes.queue = [])
    (h : (∃ kind, judgeReply 2 readKind reply = .good kind ∧ confirmed = decide (kind = p.kindCode)) ∨
      ((∀ kind, judgeReply 2 readKind reply ≠ .good kind) ∧ 2 ≤ repeats ∧ confirmed = false)) :
    s.identifyReplied ⟨p, true, repeats, stage⟩ reply =
      (s.onProbes fun u => u.identified p confirmed).beginListen (s.now + 5) := by
  rcases h with ⟨kind, hgood, rfl⟩ | ⟨hbad, hrepeats, rfl⟩
  · rw [State.identifyReplied_good hgood]
    by_cases hkind : kind = p.kindCode
    · rw [if_pos hkind, decide_eq_true hkind]
      exact State.identify_ends hstep hqueue p true
    · rw [if_neg hkind, decide_eq_false hkind]
      exact State.exchangeMissed_identify_last hstep hqueue
  · rw [State.identifyReplied_bad hbad, State.attemptFailed_last hrepeats]
    exact State.exchangeMissed_identify_last hstep hqueue

/-- The command that ends the last exchange of the IDENTIFY step lets the time pass that `u` shows, and LISTEN begins. -/
theorem exec_last_identify {u : State} {dt : Nat} {p : ProbeId} {repeats closes : Nat} {reply : List LinkByte}
    {c : Instr} {confirmed : Bool} (hstep : s.startUp.step = .identify)
    (hx : s.probes.exchange = some ⟨p, true, repeats, .window closes⟩) (hqueue : s.probes.queue = [])
    (hc : (c = .noReply dt ∧ u = s.reach dt closes ∧ confirmed = false) ∨
      (c = .probeReplyEnd dt reply ∧ u = s.elapse dt ∧ reply ≠ [] ∧ closes ≤ s.now + dt + 20 ∧
        s.now + dt ≤ closes + 12 ∧
        ((∃ kind, judgeReply 2 readKind reply = .good kind ∧ confirmed = decide (kind = p.kindCode)) ∨
          ((∀ kind, judgeReply 2 readKind reply ≠ .good kind) ∧ 2 ≤ repeats ∧ confirmed = false)))) :
    (∃ d, u = s.elapse d) ∧
      exec c s = .next ((u.onProbes fun v => v.identified p confirmed).beginListen (u.now + 5)).finish := by
  rcases hc with ⟨rfl, rfl, rfl⟩ | ⟨rfl, rfl, hreply, hopen, hclosed, hjudged⟩
  · exact ⟨⟨_, rfl⟩, (exec_noReply hx).trans
      (by rw [State.exchangeMissed_identify_last (by exact hstep) (by exact hqueue)])⟩
  · refine ⟨⟨_, rfl⟩, (exec_probeReplyEnd hx hreply hopen hclosed).trans ?_⟩
    rw [if_pos rfl, State.identifyReplied_last (by exact hstep) (by exact hqueue) hjudged]

end Sys2Proof.Machine

section
open Sys2Proof Sys2Proof.Machine

/-- Settles O12: each judgement of a reply ends its exchange or repeats it, and the last exchange of the IDENTIFY step
begins LISTEN. -/
theorem replyIsJudged : Obligations.ReplyIsJudged := by
  refine ⟨fun s dt p q repeats closes rest reply hreply hopen hclosed hqueue => ⟨fun hx => ?_, fun hx => ?_⟩,
    fun s u dt p repeats closes reply c confirmed hstep hx hqueue hc => ?_,
    fun s dt p identify repeats closes reply hx hoff => ?_⟩
  · obtain ⟨v, hv, hrecord, hjudged⟩ := State.readReplied_next (s := s.elapse dt) (p := p) (repeats := repeats)
      (stage := .window closes) (reply := reply) hqueue
    refine ⟨_, (exec_probeReplyEnd hx hreply hopen hclosed).trans (by rw [if_neg Bool.false_ne_true, hv]),
      State.onProbes_finish_selects _ _, ?_⟩
    rw [State.onProbes_finish.1, State.onProbes_finish.2]
    exact ⟨hrecord, hjudged⟩
  · obtain ⟨v, hv, hout, hdelta, hothers, hown, hother, hrepeat, hlast⟩ := State.identifyReplied_next
      (s := s.elapse dt) (p := p) (repeats := repeats) (stage := .window closes) (reply := reply) hqueue
    refine ⟨_, (exec_probeReplyEnd hx hreply hopen hclosed).trans (by rw [if_pos rfl, hv]),
      State.onProbes_finish_selects _ _, ?_⟩
    rw [State.onProbes_finish.1, State.onProbes_finish.2]
    exact ⟨hout, hdelta, hothers, hown, hother, hrepeat, hlast⟩
  · obtain ⟨⟨d, rfl⟩, hexec⟩ := exec_last_identify hstep hx hqueue hc
    obtain ⟨w, hw⟩ : ∃ w, w = (s.elapse d).onProbes fun v => v.identified p confirmed := ⟨_, rfl⟩
    rw [← hw] at hexec
    obtain ⟨hsame, hstartUp, hidle, hcycle, hkept, hcons, hnil⟩ := w.beginListen_finish ((s.elapse d).now + 5)
    have hnow : (w.beginListen ((s.elapse d).now + 5)).finish.now = (s.elapse d).now := by rw [hsame.1, hw]; rfl
    have hpolled : (ProbeId.inOrder.filter fun x =>
        ((w.beginListen ((s.elapse d).now + 5)).finish.probes.record x).polled) = w.probes.polledProbes := by
      simp only [ProbeUnit.polledProbes, hkept]
    refine ⟨_, hexec, ?_, ?_, hidle, ?_, fun x => ?_, ?_, ?_⟩
    · simpa [State.SameBut, hw] using hsame
    · rw [hstartUp, hnow, hw]; rfl
    · rw [hcycle, hnow, hw]; rfl
    · have hrecord : w.probes.record x =
          if x = p then (s.probes.record x).identified confirmed else s.probes.record x := by
        rw [hw]; exact ProbeUnit.identified_record _ _ _ _
      rw [(hkept x).2.1, (hkept x).2.2, hrecord]
      by_cases hxp : x = p <;> cases confirmed <;> simp [hxp, ProbeRecord.identified, ProbeRecord.failIdentity]
    · rw [hpolled, hnow]; exact hcons
    · rw [hpolled]; exact hnil
  · have hclosed : replyMayEnd closes (s.now + dt) = false := by
      simp only [replyMayEnd, Bool.and_eq_false_iff, decide_eq_false_iff_not]
      omega
    simp [exec, execProbeReplyEnd, hx, hclosed]

end

/-! ## Float readings

What a reading makes of the float records (R17, R18), and what its changes do: A1 (R69), A9 (R19), and the pump through
the wishes and the STOP cut-out (R61, R65 to R67, R90). -/

namespace Sys2Proof.Machine

/-! ### The float records -/

@[simp] theorem FloatUnit.onRecord_record_self (u : FloatUnit) (f : FloatId) (g : FloatRecord → FloatRecord) :
    (u.onRecord f g).record f = g (u.record f) := by cases f <;> rfl

theorem FloatUnit.onRecord_record_ne (u : FloatUnit) {f i : FloatId} (h : i ≠ f) (g : FloatRecord → FloatRecord) :
    (u.onRecord f g).record i = u.record i := by cases f <;> cases i <;> first | rfl | exact absurd rfl h

@[simp] theorem FloatUnit.onRecord_contradiction (u : FloatUnit) (f : FloatId) (g : FloatRecord → FloatRecord) :
    (u.onRecord f g).contradiction = u.contradiction := by cases f <;> rfl

@[simp] theorem FloatUnit.onRecord_turn (u : FloatUnit) (f : FloatId) (g : FloatRecord → FloatRecord) :
    (u.onRecord f g).turn = u.turn ∧ (u.onRecord f g).pulseAt = u.pulseAt := by cases f <;> exact ⟨rfl, rfl⟩

/-- The contradiction flag that the states give (R18). -/
theorem FloatUnit.formed_contradiction (u : FloatUnit) :
    u.formed.contradiction =
      (decide (u.formed.high.state = .closed) && decide (u.formed.stop.state = .opened)) := rfl

@[simp] theorem FloatUnit.formed_record (u : FloatUnit) (f : FloatId) :
    u.formed.record f = (u.record f).present u.formed.contradiction := by cases f <;> rfl

/-- A reading is the float's last reading, and its state when the last one agrees with it (R17). -/
theorem FloatUnit.excite_self (u : FloatUnit) (f : FloatId) (reading : FloatReading) :
    ((u.excite f reading).record f).lastReading = some reading ∧
    ((u.excite f reading).record f).state =
      if (u.record f).lastReading = some reading then reading else (u.record f).state := by
  unfold FloatUnit.excite
  dsimp only
  split <;> simp [FloatRecord.present, FloatRecord.take]

theorem FloatUnit.excite_ne (u : FloatUnit) {f i : FloatId} (h : i ≠ f) (reading : FloatReading) :
    ((u.excite f reading).record i).state = (u.record i).state ∧
    ((u.excite f reading).record i).lastReading = (u.record i).lastReading := by
  unfold FloatUnit.excite
  dsimp only
  split <;> simp [FloatRecord.present, u.onRecord_record_ne h]

@[simp] theorem FloatUnit.excite_turn (u : FloatUnit) (f : FloatId) (reading : FloatReading) :
    (u.excite f reading).turn = u.turn ∧ (u.excite f reading).pulseAt = u.pulseAt := by
  unfold FloatUnit.excite FloatUnit.formed
  dsimp only
  split <;> simp

/-- Whether the reading changes the float's state decides whether the presented values are formed again (R18). -/
theorem FloatUnit.excite_state (u : FloatUnit) (f : FloatId) (reading : FloatReading) :
    ((u.excite f reading).record f).state = ((u.onRecord f (FloatRecord.take reading)).record f).state := by
  unfold FloatUnit.excite
  dsimp only
  split
  · rfl
  · simp [FloatRecord.present]

/-- A reading that leaves the state as it was leaves every presented value as it was (R18). -/
theorem FloatUnit.excite_steady {u : FloatUnit} {f : FloatId} {reading : FloatReading}
    (h : ((u.excite f reading).record f).state = (u.record f).state) :
    (u.excite f reading).contradiction = u.contradiction ∧
    ∀ i, ((u.excite f reading).record i).presented = (u.record i).presented := by
  rw [FloatUnit.excite_state] at h
  rw [FloatUnit.excite, if_pos h]
  refine ⟨u.onRecord_contradiction f _, fun i => ?_⟩
  by_cases hi : i = f
  · rw [hi, FloatUnit.onRecord_record_self]; rfl
  · rw [u.onRecord_record_ne hi]

/-- A reading that changes the state forms the flag and the presented values (R18). -/
theorem FloatUnit.excite_changed {u : FloatUnit} {f : FloatId} {reading : FloatReading}
    (h : ((u.excite f reading).record f).state ≠ (u.record f).state) :
    (u.excite f reading).contradiction = (decide ((u.excite f reading).high.state = .closed) &&
      decide ((u.excite f reading).stop.state = .opened)) ∧
    ∀ i, ((u.excite f reading).record i).presented =
      presentedOf (u.excite f reading).contradiction ((u.excite f reading).record i).state := by
  rw [FloatUnit.excite_state] at h
  rw [FloatUnit.excite, if_neg h]
  exact ⟨FloatUnit.formed_contradiction _, fun i => by rw [FloatUnit.formed_record]; rfl⟩

/-- The Float Monitor at the end of the pulse in which a reading was taken (R16, R17). -/
def FloatUnit.read (f : FloatId) (reading : FloatReading) (u : FloatUnit) : FloatUnit := (u.excite f reading).pulseEnded

@[simp] theorem FloatUnit.read_record (u : FloatUnit) (f i : FloatId) (reading : FloatReading) :
    (u.read f reading).record i = (u.excite f reading).record i := FloatUnit.pulseEnded_record _ _

/-- What a reading makes of the state and the last reading of each float (R17). -/
theorem FloatUnit.read_debounced {u w : FloatUnit} {f : FloatId} {reading : FloatReading} (hw : w = u.read f reading) :
    (w.record f).lastReading = some reading ∧
    ((u.record f).lastReading = some reading → (w.record f).state = reading) ∧
    ((u.record f).lastReading ≠ some reading → (w.record f).state = (u.record f).state) ∧
    ∀ i, i ≠ f → (w.record i).state = (u.record i).state ∧ (w.record i).lastReading = (u.record i).lastReading := by
  obtain ⟨hlast, hstate⟩ := u.excite_self f reading
  simp only [hw, FloatUnit.read_record]
  exact ⟨hlast, fun h => by rw [hstate, if_pos h], fun h => by rw [hstate, if_neg h], fun i hi => u.excite_ne hi reading⟩

/-- What a reading makes of the contradiction flag and the presented values (R18). -/
theorem FloatUnit.read_presented {u w : FloatUnit} {f : FloatId} {reading : FloatReading} (hw : w = u.read f reading) :
    ((w.record f).state = (u.record f).state →
      w.contradiction = u.contradiction ∧ ∀ i, (w.record i).presented = (u.record i).presented) ∧
    ((w.record f).state ≠ (u.record f).state →
      w.contradiction = (decide (w.high.state = .closed) && decide (w.stop.state = .opened)) ∧
      ∀ i, (w.record i).presented = presentedOf w.contradiction (w.record i).state) := by
  have hcontradiction : w.contradiction = (u.excite f reading).contradiction := by rw [hw]; rfl
  have hstates : w.high.state = (u.excite f reading).high.state ∧ w.stop.state = (u.excite f reading).stop.state := by
    rw [hw]; exact ⟨rfl, rfl⟩
  have hrecord (i : FloatId) : w.record i = (u.excite f reading).record i := by rw [hw, FloatUnit.read_record]
  simp only [hrecord, hcontradiction, hstates]
  exact ⟨FloatUnit.excite_steady, FloatUnit.excite_changed⟩

/-- The next float's turn, on the plan of the 500 ms period (R16). -/
theorem FloatUnit.read_turn {u w : FloatUnit} {f : FloatId} {reading : FloatReading} (hw : w = u.read f reading)
    (hf : f = u.turn) : w.turn = nextTurn f ∧ w.pulseAt = u.pulseAt + pulseGap f := by
  simp [hw, FloatUnit.read, hf]

variable (s : State) {t : State}

/-! ### Conditions handed over -/

variable {s} in
/-- Whether start-up has ended is the Start-up Unit's alone. -/
theorem State.ended_of_kept (h : s.ended) (hstartUp : t.startUp = s.startUp) : t.ended := by
  rwa [State.ended, hstartUp]

theorem AlarmRecord.latch_abnormal (r : AlarmRecord) (x : PendingRaise) : (r.latch x).abnormal = r.abnormal := by
  unfold AlarmRecord.latch
  (repeat' split) <;> rfl

theorem AlarmRecord.dropClear_abnormal (r : AlarmRecord) : r.dropClear.abnormal = r.abnormal := by
  unfold AlarmRecord.dropClear
  split <;> rfl

variable {s} in
/-- A turn to abnormal leaves the record abnormal, whatever it latches or counts (R157). -/
theorem State.turnAbnormal_abnormal (h : s.ended) (k : AlarmKind) (n : Snapshot) :
    ((s.turnAbnormal k n).alarm k).abnormal = true := by
  unfold State.turnAbnormal
  dsimp only
  split
  · next hold => exact hold.resolve_left (not_not.mpr h)
  split
  · simp [AlarmRecord.latch_abnormal, AlarmRecord.dropClear_abnormal, AlarmRecord.turned]
  · simp [AlarmRecord.turned]

variable {s} in
theorem State.turnNormal_abnormal (h : s.ended) (k : AlarmKind) : ((s.turnNormal k).alarm k).abnormal = false := by
  unfold State.turnNormal
  dsimp only
  split
  · next hold => exact Bool.eq_false_of_not_eq_true (hold.resolve_left (not_not.mpr h))
  split <;> simp

variable {s} in
/-- A condition handed over is on its kind's record (R156). -/
theorem State.handOver_abnormal (h : s.ended) (l : List Snapshot) (k : AlarmKind) :
    ((s.handOver l k).alarm k).abnormal = s.condition k := by
  unfold State.handOver State.turnAbnormalSince
  split
  · next hcondition =>
    rw [hcondition]
    split
    · exact State.turnAbnormal_abnormal h k _
    · exact State.turnAbnormal_abnormal (State.ended_of_kept h (by simp)) k _
  · next hcondition =>
    rw [Bool.eq_false_of_not_eq_true hcondition]
    exact State.turnNormal_abnormal h k

/-! ### A1 -/

/-- A1 stands as the house level and the HIGH float give it, and after the end of start-up its record agrees (R69,
R156). -/
def State.A1Formed (s : State) : Prop :=
  s.staging.a1 = s.wellHigh ∧ (s.ended → (s.alarm .a1).abnormal = s.staging.a1)

theorem State.formA1_formed : s.formA1.A1Formed := by
  refine ⟨by simp [State.formA1, State.wellHigh, State.settings], fun h => ?_⟩
  have hended : (s.onStaging fun g => { g with a1 := s.wellHigh }).ended := State.ended_of_kept h (by simp)
  rw [State.formA1, State.handOver_abnormal hended, (State.handOver_keeps _ _ _).2.2.2.2.2.2.1]
  rfl

variable {s}

/-- A1 stays formed while nothing forms the house level again. -/
theorem State.A1Formed.follows (h : s.A1Formed) (hf : s.Follows true t) (hfloats : t.floats = s.floats) :
    t.A1Formed := by
  obtain ⟨hlevel, ha1, halarm⟩ := hf.steady rfl
  obtain ⟨hformed, hrecord⟩ := h
  refine ⟨?_, fun hended => ?_⟩
  · rw [ha1, hformed, State.wellHigh, State.wellHigh, State.settings, State.settings, hf.startUp, hfloats, hlevel]
  · rw [halarm, ha1]
    exact hrecord (by rwa [State.ended, hf.startUp] at hended)

/-- An evaluation forms A1, and what it does after that leaves A1 formed (R49, R69). -/
theorem State.evaluate_formed (h : s.ended) : s.evaluate.A1Formed := by
  rw [State.evaluate, if_pos h]
  refine (State.formA1_formed _).follows (((State.Follows.refl _).peakLevel.handOver (by decide) (by decide)).act) ?_
  simp [State.formWishes]

theorem State.A1Formed.floatsChanged (h : s.A1Formed) (hended : s.ended) (b c : Bool) :
    (s.floatsChanged b c).A1Formed := by
  obtain ⟨x, hx⟩ : ∃ x, x = if c then s.stopFloatChanged else s := ⟨_, rfl⟩
  have hfloats : x.floats = s.floats := by rw [hx]; split <;> simp
  have hstart : x.startUp = s.startUp := by rw [hx]; split <;> simp
  have hformed : x.A1Formed := h.follows (hx ▸ (State.Follows.refl s).stopFloatChanged) hfloats
  rw [State.floatsChanged, ← hx]
  unfold State.floatsWish State.floatWishes
  split
  · split
    · exact State.evaluate_formed (State.ended_of_kept hended (by simpa using hstart))
    · exact hformed.follows (State.Follows.act (State.Follows.refl x).floatDelay.floatStopWish) (by simp)
  · exact hformed

theorem State.highChanged_formed {old : FloatUnit} (h : s.floats.high.presented ≠ old.high.presented) :
    (s.highChanged old).A1Formed := by
  rw [State.highChanged, if_neg h]
  exact s.formA1_formed

/-- A change of HIGH leaves A1 formed, whether A1 or the pump is taken first (R69). -/
theorem State.floatsAct_formed {old : FloatUnit} (hended : s.ended)
    (h : s.floats.high.presented ≠ old.high.presented) : (s.floatsAct old).A1Formed := by
  unfold State.floatsAct
  rcases eitherOrder_cases s (State.highChanged old)
    (State.floatsChanged (decide (s.floats.start.presented ≠ old.start.presented))
      (decide (s.floats.stop.presented ≠ old.stop.presented))) with e | e | e <;> rw [e]
  · exact (State.highChanged_formed h).floatsChanged (State.ended_of_kept hended (by simp)) _ _
  · exact (State.highChanged_formed (s := s.drawn) h).floatsChanged (State.ended_of_kept hended (by simp)) _ _
  · exact State.highChanged_formed (by simpa using h)

theorem State.afterExcitation_formed {old : FloatUnit} (hended : s.ended)
    (h : s.floats.high.presented ≠ old.high.presented) : (s.afterExcitation old).finish.A1Formed :=
  (State.floatsAct_formed hended h).follows ((State.Follows.refl _).handOver (by decide) (by decide)).finish
    (by simp)

/-- Before the end of start-up a change of HIGH forms A1 and does nothing else (R69, R156). -/
theorem State.highChanged_of_not_ended (h : ¬ s.ended) (old : FloatUnit) :
    s.highChanged old = s.onStaging fun g =>
      if s.floats.high.presented = old.high.presented then g else { g with a1 := s.wellHigh } := by
  unfold State.highChanged
  split
  · rfl
  · exact State.handOver_of_not_ended (by simpa using h) _ _

/-! ### A9 -/

/-- A9 stands on its record as the probes and the floats give it (R19). -/
theorem State.afterExcitation_a9 {old : FloatUnit} (hended : s.ended) :
    ((s.afterExcitation old).finish.alarm .a9).abnormal = (s.afterExcitation old).finish.condition .a9 := by
  have halarm : (s.afterExcitation old).finish.alarm .a9 = (s.afterExcitation old).alarm .a9 :=
    State.alarm_congr (by simp) _
  rw [halarm, State.afterExcitation, State.formA9, State.handOver_abnormal (State.ended_of_kept hended (by simp))]
  simp [State.condition]

/-! ### The pump -/

theorem State.floatsChanged_screen_feedback (b c : Bool) :
    (s.floatsChanged b c).screen = s.screen ∧ (s.floatsChanged b c).pump.feedback = s.pump.feedback := by
  unfold State.floatsChanged State.floatsWish State.stopFloatChanged
  (repeat' split) <;> simp

theorem State.floatsAct_screen_feedback (old : FloatUnit) :
    (s.floatsAct old).screen = s.screen ∧ (s.floatsAct old).pump.feedback = s.pump.feedback := by
  unfold State.floatsAct
  rcases eitherOrder_cases s (State.highChanged old)
    (State.floatsChanged (decide (s.floats.start.presented ≠ old.start.presented))
      (decide (s.floats.stop.presented ≠ old.stop.presented))) with e | e | e <;> rw [e] <;>
    simp [State.floatsChanged_screen_feedback]

/-- Of the pump, a reading's changes do what the START and STOP floats do, with A1 formed or not. -/
theorem State.floatsAct_pump (old : FloatUnit) :
    ∃ x : State, x.now = s.now ∧ x.startUp = s.startUp ∧ x.floats = s.floats ∧ x.pump = s.pump ∧
      x.staging.floatMode = s.staging.floatMode ∧
      (s.floatsAct old).pump = (x.floatsChanged (decide (s.floats.start.presented ≠ old.start.presented))
        (decide (s.floats.stop.presented ≠ old.stop.presented))).pump := by
  have hmode (x : State) : (x.highChanged old).staging.floatMode = x.staging.floatMode := by
    unfold State.highChanged State.formA1
    split <;> simp
  unfold State.floatsAct
  rcases eitherOrder_cases s (State.highChanged old)
    (State.floatsChanged (decide (s.floats.start.presented ≠ old.start.presented))
      (decide (s.floats.stop.presented ≠ old.stop.presented))) with e | e | e <;> rw [e]
  · exact ⟨s.highChanged old, by simp, by simp, by simp, by simp, hmode s, rfl⟩
  · exact ⟨s.drawn.highChanged old, by simp, by simp, by simp, by simp, hmode s.drawn, rfl⟩
  · exact ⟨s.drawn, rfl, rfl, rfl, rfl, rfl, by simp⟩

/-- With no claim in progress, forming availability again keeps float mode (R61). -/
theorem State.reformAvailability_floatMode (h : s.pump.claimPhase = none) :
    s.reformAvailability.staging.floatMode = s.staging.floatMode := by
  unfold State.reformAvailability
  dsimp only
  split
  · rw [State.dropWish_of_noClaim (by simpa using h)]
    simp [State.formAvailable]
  · simp [State.formAvailable]

/-- The wishes at a float's change leave a stopped pump as it is (R61, R66, R67). -/
theorem State.floatWishes_of_stopped {n m : Nat} (h : s.pump.StoppedAt n m) (b c : Bool) :
    (s.floatWishes b c).pump.StoppedAt n m := by
  have hdelay : (s.floatDelay b).pump.StoppedAt n m := by simpa using h
  have hwish : (s.floatDelay b).floatStartWish b = .notHeld := by
    unfold State.floatStartWish
    split
    · exact State.startWishNow_of_minOff (by simp [h.minOff])
    · rfl
  unfold State.floatWishes
  split
  · exact State.evaluate_of_stopped hdelay
  · have hstop : ((s.floatDelay b).floatStopWish c).pump.StoppedAt n m := by simpa using h
    rw [hwish, State.act_of_stopped hstop]
    exact hstop

/-- STOP coming to present OPEN stops a driving pump (R90, R91). -/
theorem State.floatsChanged_stops (h : s.pump.Driving) (hstop : s.floats.stop.presented = .opened)
    (hm : s.general.minOff ≠ 0) (b : Bool) :
    (s.floatsChanged b true).pump.StoppedAt s.now s.general.minOff := by
  have hpump := State.reformAvailability_pump h.noClaim
  have hgeneral : s.reformAvailability.general = s.general := by simp [State.general, State.settings]
  have hchanged : s.stopFloatChanged.pump.StoppedAt s.now s.general.minOff := by
    have hcut : s.reformAvailability.stopFloatCutOut = s.reformAvailability.goStopping :=
      if_pos ⟨by rw [hpump]; exact h.cutOutActs, by simpa using hstop⟩
    have hstops := State.goStopping_stops (s := s.reformAvailability) (by rwa [hpump]) (by rwa [hgeneral])
    rw [State.stopFloatChanged, hcut, ← hgeneral]
    simpa using hstops
  rw [State.floatsChanged, if_pos rfl, State.floatsWish]
  split
  · exact State.floatWishes_of_stopped hchanged _ _
  · exact hchanged

/-- Outside float mode nothing but STOP coming to present OPEN acts on a driving pump (R66, R67, R90). -/
theorem State.floatsChanged_of_driving (h : s.pump.Driving) (hmode : s.staging.floatMode = false) (b : Bool) {c : Bool}
    (hc : c = true → s.floats.stop.presented ≠ .opened) : (s.floatsChanged b c).pump = s.pump := by
  cases c with
  | false => simp [State.floatsChanged, State.floatsWish, hmode]
  | true =>
    have hcut : s.stopFloatChanged = s.reformAvailability := if_neg fun g => hc rfl (by simpa using g.2)
    have hkept : s.reformAvailability.staging.floatMode = false :=
      (State.reformAvailability_floatMode h.noClaim).trans hmode
    simp [State.floatsChanged, State.floatsWish, hcut, hkept, State.reformAvailability_pump h.noClaim]

/-! ### The command -/

/-- What a reading and the selection after it leave of each block, once the float records have been taken. -/
theorem State.afterExcitation_finish (old : FloatUnit) :
    (s.afterExcitation old).finish.now = s.now ∧ (s.afterExcitation old).finish.startUp = s.startUp ∧
    (s.afterExcitation old).finish.probes = s.probes ∧ (s.afterExcitation old).finish.floats = s.floats ∧
    (s.afterExcitation old).finish.supply = s.supply ∧ (s.afterExcitation old).finish.screen = s.screen ∧
    (s.afterExcitation old).finish.weir = s.weir ∧ (s.afterExcitation old).finish.panel = s.panel ∧
    (s.afterExcitation old).finish.pending = s.pending ∧
    (s.afterExcitation old).finish.pump = (s.floatsAct old).pump ∧
    (s.afterExcitation old).finish.pump.feedback = s.pump.feedback := by
  obtain ⟨hscreen, hfeedback⟩ := s.floatsAct_screen_feedback old
  simp [State.afterExcitation, hscreen, hfeedback]

/-- What the changes of START and STOP do to a driving pump, stated of the state after the reading (R90, R91). -/
theorem State.floatsAct_of_driving (h : s.pump.Driving) (old : FloatUnit) :
    (old.stop.presented ≠ .opened → s.floats.stop.presented = .opened → s.general.minOff ≠ 0 →
      (s.floatsAct old).pump.StoppedAt s.now s.general.minOff) ∧
    (s.staging.floatMode = false → (old.stop.presented = .opened ∨ s.floats.stop.presented ≠ .opened) →
      (s.floatsAct old).pump = s.pump) := by
  obtain ⟨x, hnow, hstartUp, hfloats, hpump, hmode, hact⟩ := s.floatsAct_pump old
  have hdriving : x.pump.Driving := hpump ▸ h
  have hgeneral : x.general = s.general := by rw [State.general, State.settings, hstartUp]; rfl
  rw [hact]
  refine ⟨fun hold hnew hm => ?_, fun hoff hstop => ?_⟩
  · have hchanged : decide (s.floats.stop.presented ≠ old.stop.presented) = true :=
      decide_eq_true (hnew ▸ Ne.symm hold)
    rw [hchanged, ← hnow, ← hgeneral]
    exact State.floatsChanged_stops hdriving (hfloats ▸ hnew) (hgeneral ▸ hm) _
  · rw [← hpump]
    refine State.floatsChanged_of_driving hdriving (hmode.trans hoff) _ fun hchanged => ?_
    rw [hfloats]
    rcases hstop with hold | hnew
    · exact hold ▸ of_decide_eq_true hchanged
    · exact hnew

/-- FLOAT_EXCITATION of the float whose turn it is, when its pulse has ended (R16). -/
theorem exec_floatExcitation_turn (dt : Nat) {f : FloatId} (reading : FloatReading) (hf : f = s.floats.turn) :
    exec (.floatExcitation dt f reading) s = .next
      (if s.ended then (((s.reach dt (s.floats.pulseAt + 20)).onFloats (.read f reading)).afterExcitation s.floats).finish
      else ((s.reach dt (s.floats.pulseAt + 20)).onFloats (.read f reading)).highChanged s.floats) := by
  simp only [exec, execFloatExcitation, if_pos hf]
  rfl

end Sys2Proof.Machine

section
open Sys2Proof Sys2Proof.Machine

/-- Settles O16: the command takes the reading at the end of the pulse, and what follows it leaves the floats as they are;
A1 and A9 are formed last or kept, and the pump is stopped whichever of A1 and the pump comes first. -/
theorem floatReadingsAreDebouncedAndPresented : Obligations.FloatReadingsAreDebouncedAndPresented := by
  refine ⟨fun s f => ?_, fun s dt f reading => ⟨fun hf => ?_, fun hf => ?_⟩⟩
  · rw [State.excited]
    split
    · next hpulse => simp [hpulse, eq_comm]
    · next hpulse => exact ⟨nofun, fun h => absurd h.2 hpulse⟩
  · simp [exec, execFloatExcitation, hf]
  · obtain ⟨v, hv⟩ : ∃ v, v = (s.reach dt (s.floats.pulseAt + 20)).onFloats (.read f reading) := ⟨_, rfl⟩
    have hexec := exec_floatExcitation_turn dt reading hf
    rw [← hv] at hexec
    have hvfloats : v.floats = s.floats.read f reading := by rw [hv]; rfl
    have hvstaging : v.staging = s.staging := by rw [hv]; rfl
    have hvended : v.ended ↔ s.ended := by rw [hv]; rfl
    obtain ⟨t, ht⟩ : ∃ t, t = if s.ended then (v.afterExcitation s.floats).finish else v.highChanged s.floats := ⟨_, rfl⟩
    rw [← ht] at hexec
    have hfloats : t.floats = s.floats.read f reading := by
      rw [ht, ← hvfloats]
      split <;> simp
    obtain ⟨hturn, hpulse⟩ := FloatUnit.read_turn hfloats hf
    obtain ⟨hlast, hagreed, hdiffers, hothers⟩ := FloatUnit.read_debounced hfloats
    obtain ⟨hsteady, hchanged⟩ := FloatUnit.read_presented hfloats
    have hfollows : v.Follows false t := by
      rw [ht]
      exact State.Follows.ite (fun _ => ((State.Follows.refl v).afterExcitation).finish)
        fun _ => (State.Follows.refl v).highChanged
    have hafter (h : s.ended) : t = (v.afterExcitation s.floats).finish := ht.trans (if_pos h)
    have hbefore (h : ¬ s.ended) : t = v.onStaging fun g =>
        if v.floats.high.presented = s.floats.high.presented then g else { g with a1 := v.wellHigh } := by
      rw [ht, if_neg h]
      exact State.highChanged_of_not_ended (mt hvended.mp h) _
    obtain ⟨hnow, hstartUp, hprobes, _, hsupply, hscreen, hweir, hpanel, hpending, hact, hfeedback⟩ :=
      v.afterExcitation_finish s.floats
    refine ⟨t, _, hexec, rfl, ?_, fun h => ?_, fun h => ?_, fun h => ?_, fun h => ?_, fun h => ?_, fun k hk => ?_,
      fun a ha => ?_, fun h => ?_, hlast, hagreed, hdiffers, hothers, hsteady, fun h => ?_,
      fun hended hsound hpump => ?_⟩
    · rw [ht]
      split
      · simp only [State.SameBut, hnow, hstartUp, hprobes, hsupply, hscreen, hweir, hpanel, hpending]
        simp [hv]
      · simp [State.SameBut, hv]
    · rw [hturn, hpulse, h]; exact ⟨rfl, rfl⟩
    · rw [hturn, hpulse, h]; exact ⟨rfl, rfl⟩
    · rw [hturn, hpulse, h]; exact ⟨rfl, rfl⟩
    · have hpresented : v.floats.high.presented = t.floats.high.presented := by rw [hvfloats, hfloats]
      have hstaging : t.staging = if t.floats.high.presented = s.floats.high.presented then s.staging
          else { s.staging with a1 := v.wellHigh } := by
        rw [congrArg State.staging (hbefore h), State.onStaging_staging, hpresented, hvstaging]
      refine ⟨?_, ?_, fun hsame => hstaging.trans (if_pos hsame)⟩
      · rw [hbefore h, hv]; simp [State.SameBut]
      · rw [hstaging]; split <;> rfl
    · have hformed : t.A1Formed := by
        have hhigh : v.floats.high.presented ≠ s.floats.high.presented := by rwa [hvfloats, ← hfloats]
        rw [ht]
        split
        · next hended => exact State.afterExcitation_formed (hvended.mpr hended) hhigh
        · exact State.highChanged_formed hhigh
      exact ⟨hformed.1, fun hended => hformed.2 (State.ended_of_kept (hvended.mpr hended) hfollows.startUp)⟩
    · rw [hfollows.alarms k hk, hv]; rfl
    · rw [hfollows.peers a (by rw [hv]; exact ha), hv]; rfl
    · rw [hafter h]
      exact State.afterExcitation_a9 (hvended.mpr h)
    · obtain ⟨hcontradiction, hpresented⟩ := hchanged h
      refine ⟨hcontradiction, fun i => ?_⟩
      rw [hpresented]
      cases (t.floats.record i).state <;> rfl
    · have hvpump : v.pump = s.pump := by rw [hv]; rfl
      have hvgeneral : v.general = s.general := by rw [hv]; rfl
      rw [← hafter hended] at hnow hact hfeedback
      obtain ⟨hstops, hkeeps⟩ := State.floatsAct_of_driving (hvpump ▸ hsound.driving hpump) s.floats
      rw [← hact, hvfloats, ← hfloats] at hstops hkeeps
      refine ⟨fun hold hnew hm => ?_, fun hoff hstop => ?_⟩
      · obtain ⟨hopened, hminOff, hstopping, hready, _⟩ := hstops hold hnew (hvgeneral ▸ hm)
        rw [hfeedback, hvpump] at hstopping hready
        rw [← hnow] at hminOff hstopping
        rw [hvgeneral] at hminOff
        exact ⟨hopened, hminOff, hstopping, hready⟩
      · rw [hkeeps (hvstaging ▸ hoff) hstop, hvpump]

end

/-! ## Demand, rank and duty

The rank as a place in one strict order of the stations (R59, R60). -/

namespace Sys2Proof.Machine

variable {s t : State}

/-! ### Counting in the table of twelve -/

theorem mem_twelvePlaces (a : BayAddress) : a ∈ twelvePlaces := by fin_cases a <;> decide

/-- Fewer addresses meet the stronger of two tests when one address meets the weaker only. -/
theorem length_filter_twelvePlaces_lt {p q : BayAddress → Bool} (h : ∀ c, p c = true → q c = true) {a : BayAddress}
    (hq : q a = true) (hp : p a = false) : (twelvePlaces.filter p).length < (twelvePlaces.filter q).length := by
  have hfilter : twelvePlaces.filter p = (twelvePlaces.filter q).filter p := by
    rw [List.filter_filter]
    exact List.filter_congr fun c _ => by cases hc : p c <;> simp [h c, hc]
  rw [hfilter, List.length_filter_lt_length_iff_exists]
  exact ⟨a, by simp [mem_twelvePlaces, hq], by simp [hp]⟩

/-! ### The order of the eligible set (R60) -/

theorem before_iff {x y : Nat × Nat × Nat} : before x y = true ↔
    x.1 < y.1 ∨ x.1 = y.1 ∧ (x.2.1 < y.2.1 ∨ x.2.1 = y.2.1 ∧ x.2.2 < y.2.2) := by
  simp [before]

theorem before_irrefl (x : Nat × Nat × Nat) : before x x = false := by
  rw [← Bool.not_eq_true, before_iff]; omega

theorem before_trans {x y z : Nat × Nat × Nat} (hxy : before x y = true) (hyz : before y z = true) :
    before x z = true := by
  rw [before_iff] at *; omega

/-- The address decides between two stations of one group and one credit (R60). -/
theorem State.before_rankKey_or {a b : BayAddress} (h : a ≠ b) :
    before (s.rankKey a) (s.rankKey b) = true ∨ before (s.rankKey b) (s.rankKey a) = true := by
  have hval : a.val ≠ b.val := Fin.val_ne_of_ne h
  simp only [before_iff, State.rankKey]
  omega

theorem State.before_rankKey_iff {a b : BayAddress} : before (s.rankKey a) (s.rankKey b) = true ↔
    s.group a < s.group b ∨ (s.group a = s.group b ∧ (s.rankCredit a < s.rankCredit b ∨
      (s.rankCredit a = s.rankCredit b ∧ a < b))) := by
  rw [before_iff]; rfl

/-! ### The rank (R60) -/

/-- The eligible entries that stand before a station's own place; its own is not among them. -/
def State.ahead (s : State) (a c : BayAddress) : Bool := s.eligible c && before (s.rankKey c) (s.rankKey a)

theorem State.rankNow_eq {a : BayAddress} (h : s.startUp.address = some a) :
    s.rankNow = if s.eligible a then some (twelvePlaces.filter (s.ahead a)).length else none := by
  simp only [State.rankNow, h, State.countBefore]
  congr 3
  refine List.filter_congr fun c _ => ?_
  by_cases hc : c = a
  · simp [hc, State.ahead, before_irrefl]
  · simp [hc, State.ahead]

theorem State.rankNow_eq_some {a : BayAddress} {i : Nat} (h : s.startUp.address = some a) :
    s.rankNow = some i ↔ s.eligible a = true ∧ (twelvePlaces.filter (s.ahead a)).length = i := by
  rw [State.rankNow_eq h]; split <;> simp [*]

/-- Of two eligible stations the one that stands before the other has the lower rank. -/
theorem State.ahead_length_lt {a b : BayAddress} (ha : s.eligible a = true)
    (h : before (s.rankKey a) (s.rankKey b) = true) :
    (twelvePlaces.filter (s.ahead a)).length < (twelvePlaces.filter (s.ahead b)).length := by
  refine length_filter_twelvePlaces_lt (a := a) (fun c hc => ?_) (by simp [State.ahead, ha, h])
    (by simp [State.ahead, before_irrefl])
  simp only [State.ahead, Bool.and_eq_true] at hc ⊢
  exact ⟨hc.1, before_trans hc.2 h⟩

theorem State.ahead_length_lt_eligible {a : BayAddress} (ha : s.eligible a = true) :
    (twelvePlaces.filter (s.ahead a)).length < (twelvePlaces.filter s.eligible).length :=
  length_filter_twelvePlaces_lt (fun c hc => (Bool.and_eq_true_iff.mp hc).1) ha (by simp [State.ahead, before_irrefl])

/-- The order of the set is read from the peer table and the claim marks alone. -/
theorem State.ahead_congr (hpeers : t.peers = s.peers) (hmarks : t.staging.claimMarks = s.staging.claimMarks) :
    t.eligible = s.eligible ∧ t.ahead = s.ahead := by
  have heligible : t.eligible = s.eligible := by
    funext c; simp [State.eligible, State.runs, State.marked, hpeers, hmarks]
  refine ⟨heligible, ?_⟩
  funext a c
  simp [State.ahead, heligible, State.rankKey, State.group, State.rankCredit, State.runs, State.marked, hpeers, hmarks]

end Sys2Proof.Machine

section
open Sys2Proof Sys2Proof.Machine

/-- Settles O51: a rank counts the eligible stations ahead, and of two stations one is ahead of the other. -/
theorem ranksAreDistinct : Obligations.RanksAreDistinct := by
  refine ⟨?_, fun s t a b ha hb hne hpeers hmarks => ?_⟩
  · rintro s c e m claims running rfl rfl rfl rfl
    refine ⟨?_, fun hruns hr => ?_, fun hruns hr => ?_, fun hruns => ?_, fun hm => ?_, fun x hm => ?_, fun h => ?_⟩
    · simp only [State.eligible, State.runs, State.marked, Bool.and_eq_true, Bool.or_eq_true, decide_eq_true_eq]
      tauto
    · rw [State.group, if_pos (by exact hruns), if_neg (by simp [hr])]
    · rw [State.group, if_pos (by exact hruns), if_pos hr]
    · rw [State.group, if_neg (by rw [State.runs, State.marked, hruns]; simp)]
    · rw [State.rankCredit, hm, Option.getD_none]
    · rw [State.rankCredit, hm, Option.getD_some]
    · rw [State.rankNow, h]
  · obtain ⟨heligible, hahead⟩ := State.ahead_congr hpeers hmarks
    refine ⟨?_, fun i hi => ?_, fun i j hi hj => ?_⟩
    · rw [State.rankNow_eq ha]; split <;> simp [*]
    · obtain ⟨hown, rfl⟩ := (State.rankNow_eq_some ha).mp hi
      exact State.ahead_length_lt_eligible hown
    · obtain ⟨hown, rfl⟩ := (State.rankNow_eq_some ha).mp hi
      obtain ⟨hother, rfl⟩ := (State.rankNow_eq_some hb).mp hj
      rw [heligible] at hother
      rw [hahead, ← State.before_rankKey_iff]
      rcases s.before_rankKey_or hne with h | h
      · have hlt := State.ahead_length_lt hown h
        exact ⟨hlt.ne, iff_of_true hlt h⟩
      · have hlt := State.ahead_length_lt hother h
        refine ⟨hlt.ne', iff_of_false hlt.asymm fun h' => ?_⟩
        exact absurd (before_trans h h') (by simp [before_irrefl])

end

/-! ## Run-clock seconds and credit hours

House time, the interval and the credit ring as the clocks advance (R68, R88, R166, R171). -/

namespace Sys2Proof.Machine

variable {s : State}

/-! ### Counts given at this moment (R169, R174) -/

/-- A count changes nothing of the Report Unit but the counts of this moment. -/
theorem State.count_report (s : State) (i : CountId) (n : Nat) :
    (s.count i n).report = { s.report with aside := (s.count i n).report.aside } := by
  simp only [State.count, State.onReport_report]
  split <;> rfl

/-- With an interval in progress a count given joins its accumulator. -/
theorem State.count_accumulated (h : s.report.interval.isSome) (i : CountId) (n : Nat) :
    (s.count i n).report.accumulated = s.report.accumulated.add (i, n) := by
  simp [State.count, h, ReportUnit.accumulated, Accumulators.addAll]

/-! ### House time and the credit ring -/

theorem HouseTime.next_sync (t : HouseTime) : t.next.sync = t.sync := by
  unfold HouseTime.next; split <;> rfl

theorem HouseTime.next_of_lt {t : HouseTime} (h : t.second < 86399) : t.next = { t with second := t.second + 1 } :=
  if_pos (by omega)

theorem HouseTime.next_of_midnight {t : HouseTime} (h : t.second = 86399) :
    t.next = { t with second := 0, day := (t.day + 1) % 65536 } := if_neg (by omega)

theorem newestUp_append (older : List Nat) (newest : Nat) :
    newestUp (older ++ [newest]) = older ++ [min 60 (newest + 1)] := by simp [newestUp]

theorem Pump.ringSecond_of_lt {p : Pump} (h : p.runSeconds < 59) :
    p.ringSecond = { p with runSeconds := p.runSeconds + 1 } := if_pos (by omega)

theorem Pump.ringSecond_of_minute {p : Pump} (h : p.runSeconds = 59) :
    p.ringSecond = { p with runSeconds := 0, buckets := newestUp p.buckets } := if_neg (by omega)

/-! ### The second -/

/-- The Report Unit's own clocks one second on (R166, R171). -/
def ReportUnit.second (r : ReportUnit) : ReportUnit :=
  { r with
    house := r.house.next
    nextSecond := r.nextSecond.map (· + 1000)
    interval := r.interval.map Interval.second }

theorem State.clockSecond_of_resting (h : s.pump.counting = false) : s.clockSecond = s.onReport ReportUnit.second :=
  if_neg (by simp [h])

theorem State.clockSecond_of_counting (h : s.pump.counting = true) :
    s.clockSecond = ((s.onReport ReportUnit.second).onPump Pump.ringSecond).count .runSeconds 1 := if_pos h

theorem State.clockSecond_pump_of_counting (h : s.pump.counting = true) :
    s.clockSecond.pump = s.pump.ringSecond := by
  simp [State.clockSecond_of_counting h]

theorem State.clockSecond_report :
    s.clockSecond.report = { s.report.second with aside := s.clockSecond.report.aside } := by
  cases h : s.pump.counting
  · rw [State.clockSecond_of_resting h]; rfl
  · rw [State.clockSecond_of_counting h]; exact State.count_report _ _ _

end Sys2Proof.Machine

section
open Sys2Proof Sys2Proof.Machine

/-- Settles O39: the clocks advance alike, and a second of running is counted beside them. -/
theorem secondsAndHoursAreCounted : Obligations.SecondsAndHoursAreCounted := by
  refine fun s dt m => ⟨fun hsecond => ?_, fun oldest newer hhour hbuckets => ?_⟩
  · obtain ⟨u, hu⟩ : ∃ u, u = s.reach dt m := ⟨_, rfl⟩
    have hexec : exec (.runClockSecond dt) s = .next u.clockSecond := by
      rw [hu]; simp [exec, execRunClockSecond, hsecond]
    have hhouse : u.clockSecond.report.house = s.report.house.next := by
      rw [State.clockSecond_report, hu]; simp [ReportUnit.second]
    have hinterval : u.report.interval = s.report.interval := by simp [hu]
    have hpump : u.pump = s.pump := by simp [hu]
    rw [← hu]
    refine ⟨_, hexec, by simp [State.SameBut], ?_, ?_, fun h => ?_, fun h => ?_, ?_, fun h => ?_, fun h => ?_⟩
    · have hnext : u.clockSecond.report.nextSecond = some (m + 1000) := by
        rw [State.clockSecond_report]; simp [ReportUnit.second, hu, hsecond]
      rw [← hnext, State.clockSecond_report]
      rfl
    · rw [hhouse, HouseTime.next_sync]
    · rw [hhouse, HouseTime.next_of_lt h]; exact ⟨rfl, rfl⟩
    · rw [hhouse, HouseTime.next_of_midnight h]; exact ⟨rfl, rfl⟩
    · rw [State.clockSecond_report, ← hinterval]; rfl
    · rw [State.clockSecond_of_resting (hpump ▸ h)]; exact ⟨hpump, rfl⟩
    · rw [State.clockSecond_pump_of_counting (hpump ▸ h), hpump]
      refine ⟨fun hsome => ?_, Pump.ringSecond_of_lt, fun older newest hlast hnewest => ?_⟩
      · rw [State.clockSecond_of_counting (hpump ▸ h),
          State.count_accumulated (by simpa [ReportUnit.second, hinterval] using hsome)]
        rfl
      · rw [Pump.ringSecond_of_minute hlast, hnewest, newestUp_append]
  · simp [exec, execCreditHour, hhour, Pump.ringHour, hbuckets, State.onPump]

end

/-! ## What the pump's changes leave of the demand picture

A change of the pump leaves the Staging Unit but for the available flag and the start wish, and the own entry but for
its published fields (R45, R61, R62). `State.Moved` says so, and is carried through the Pump Sequencer's operations. -/

namespace Sys2Proof.Machine

/-- The Staging Unit but for the available flag and the start wish. -/
def Staging.picture (g : Staging) : Staging := { g with available := false, startWish := .notHeld }

theorem Staging.eq_of_picture {g k : Staging} (h : g.picture = k.picture) :
    g = { k with available := g.available, startWish := g.startWish } :=
  congrArg (fun i : Staging => { i with available := g.available, startWish := g.startWish }) h

/-- `t` comes from `u` by changes of the pump in Auto and what goes with them. -/
structure State.Moved (u t : State) : Prop where
  alarms : ∀ k, k ≠ .a5 → t.alarm k = u.alarm k
  picture : t.staging.picture = u.staging.picture
  entries : ∀ (v : State) a, v.withPublished (t.peers.get a) = v.withPublished (u.peers.get a)

variable {s t u : State}

/-- Publishing writes the same fields whatever an entry shows (R45). -/
theorem State.withPublished_withPublished (s u : State) (e : PeerEntry) :
    s.withPublished (u.withPublished e) = s.withPublished e := rfl

theorem State.publish_entries (s v : State) (a : BayAddress) :
    v.withPublished (s.publish.peers.get a) = v.withPublished (s.peers.get a) := by
  unfold State.publish
  split
  · rfl
  · next own _ =>
    split
    · rfl
    · simp only [State.placeStatus_keeps, State.onEntry_peers, Twelve.get_set]
      split
      · next e => rw [e, State.withPublished_withPublished]
      · rfl

namespace State.Moved

theorem refl (s : State) : s.Moved s := ⟨fun _ _ => rfl, rfl, fun _ _ => rfl⟩

/-- The Staging Unit stands but for the available flag and the start wish. -/
theorem staging (h : u.Moved t) : t.staging =
    { u.staging with available := t.staging.available, startWish := t.staging.startWish } :=
  Staging.eq_of_picture h.picture

theorem trans (h : u.Moved s) (g : s.Moved t) : u.Moved t where
  alarms k hk := (g.alarms k hk).trans (h.alarms k hk)
  picture := g.picture.trans h.picture
  entries v a := (g.entries v a).trans (h.entries v a)

theorem of_kept (h : u.Moved s) (kept : t.alarms = s.alarms ∧ t.staging = s.staging ∧ t.peers = s.peers) :
    u.Moved t := by
  obtain ⟨halarms, hstaging, hpeers⟩ := kept
  exact h.trans ⟨fun k _ => State.alarm_congr halarms k, by rw [hstaging], fun v a => by rw [hpeers]⟩

theorem onPump {f : Pump → Pump} (h : u.Moved s) : u.Moved (s.onPump f) := h.of_kept (by simp)

theorem count {i : CountId} {n : Nat} (h : u.Moved s) : u.Moved (s.count i n) := h.of_kept (by simp)

theorem withdrawClaim (h : u.Moved s) : u.Moved s.withdrawClaim := h.of_kept (by simp)

theorem placeClaim (h : u.Moved s) : u.Moved s.placeClaim := h.of_kept (by simp)

theorem formAvailable (h : u.Moved s) : u.Moved s.formAvailable := by
  have hset : u.Moved (s.onStaging fun g => { g with available := s.isAvailable }) :=
    h.trans ⟨fun _ _ => rfl, rfl, fun _ _ => rfl⟩
  exact hset.trans ⟨fun k _ => State.alarm_congr (by simp) k, by simp [State.formAvailable],
    fun v a => State.publish_entries _ v a⟩

theorem limitWish (h : u.Moved s) : u.Moved s.limitWish := by
  refine h.trans ⟨fun _ _ => rfl, ?_, fun _ _ => rfl⟩
  simp only [State.limitWish, State.onStaging_staging]
  split <;> rfl

theorem lockCondition (h : u.Moved s) : u.Moved (s.handOver [] .a5) :=
  h.trans ⟨fun _ hk => s.handOver_alarm_ne _ hk.symm, by simp, fun v a => by simp⟩

/-- A change of the pump, with its times, the start wish, availability, the own entry and A5 (R62, R71, R95). -/
theorem movePump {f : Pump → Pump} (h : u.Moved s) : u.Moved (s.movePump f) := by
  have hchange : u.Moved (s.changePump f) := h.of_kept (by simp)
  exact hchange.limitWish.formAvailable.lockCondition.of_kept (by simp [State.movePump])

theorem lock {c : LockCause} (h : u.Moved s) : u.Moved (s.lock c) := by
  unfold State.lock
  split
  · exact h
  · exact h.movePump

theorem loseClaim (h : u.Moved s) : u.Moved s.loseClaim := by
  unfold State.loseClaim State.claimResolved
  split
  · split
    · exact h.withdrawClaim.lock
    · split
      · exact h.withdrawClaim.movePump
      · exact h.withdrawClaim
  · exact h.withdrawClaim.movePump

theorem beginClaim (h : u.Moved s) : u.Moved s.beginClaim := h.placeClaim.movePump

theorem goStopping (h : u.Moved s) : u.Moved s.goStopping := by
  unfold State.goStopping
  dsimp only
  split
  · exact h.movePump
  · exact h.movePump.movePump

end State.Moved

/-! ### What the start conditions read (R61, R64, R84) -/

theorem State.general_congr (h : t.startUp = s.startUp) : t.general = s.general := by
  rw [State.general, State.general, State.settings, State.settings, h]

theorem State.startLimited_congr (hstartUp : t.startUp = s.startUp) (hstarts : t.pump.starts = s.pump.starts) :
    t.startLimited = s.startLimited := by
  rw [State.startLimited, State.startLimited, State.general_congr hstartUp, hstarts]

theorem State.autoFlag_congr (hstartUp : t.startUp = s.startUp) (hselector : t.pump.selector = s.pump.selector) :
    t.autoFlag = s.autoFlag := by
  rw [State.autoFlag, State.autoFlag, State.general_congr hstartUp, hselector]

/-- `t` stands as `s` in all that the start conditions read. -/
structure State.SameConditions (s t : State) : Prop where
  startUp : t.startUp = s.startUp
  probes : t.probes = s.probes
  floats : t.floats = s.floats
  supply : t.supply = s.supply
  blinded : t.screen.blinded = s.screen.blinded
  floatMode : t.staging.floatMode = s.staging.floatMode
  selector : t.pump.selector = s.pump.selector
  minOff : t.pump.minOff = s.pump.minOff
  starts : t.pump.starts = s.pump.starts

theorem State.SameConditions.other (h : s.SameConditions t) : t.otherStartConditions = s.otherStartConditions := by
  simp only [State.otherStartConditions, State.restartLevel, State.bayLevel, State.settings]
  rw [State.autoFlag_congr h.startUp h.selector, h.startUp, h.minOff, h.blinded, h.floatMode, h.floats, h.probes,
    h.supply]

theorem State.SameConditions.start (h : s.SameConditions t) : t.startConditions = s.startConditions := by
  rw [State.startConditions, State.startConditions, h.other, State.startLimited_congr h.startUp h.starts]

/-! ### The own entry as it is shown (R45, R61) -/

/-- The available flag is as the station stands, and the own entry shows its published fields so. -/
structure State.Shown (s : State) : Prop where
  available : s.staging.available = s.isAvailable
  published : ∀ own, s.startUp.address = some own → s.withPublished (s.peers.get own) = s.peers.get own

/-- What is published is read from these blocks (R45). -/
theorem State.withPublished_congr (h : s.SameConditions t) (hstate : t.pump.state = s.pump.state)
    (havailable : t.staging.available = s.staging.available) (hweir : t.weir = s.weir) :
    t.withPublished = s.withPublished := by
  funext e
  simp only [State.withPublished]
  rw [hstate, State.autoFlag_congr h.startUp h.selector, havailable, h.blinded,
    State.startLimited_congr h.startUp h.starts, hweir]

theorem State.Shown.of_kept (hs : s.Shown) (h : s.SameConditions t) (hstate : t.pump.state = s.pump.state)
    (havailable : t.staging.available = s.staging.available) (hweir : t.weir = s.weir) (hpeers : t.peers = s.peers) :
    t.Shown := by
  obtain ⟨hformed, hpublished⟩ := hs
  refine ⟨?_, fun own hown => ?_⟩
  · rw [havailable, hformed, State.isAvailable, State.isAvailable, h.start, hstate]
  · rw [hpeers, State.withPublished_congr h hstate havailable hweir]
    exact hpublished own (h.startUp ▸ hown)

theorem State.publish_own {own : BayAddress} (h : s.startUp.address = some own) :
    s.publish.peers.get own = s.withPublished (s.peers.get own) := by
  simp only [State.publish, h]
  split
  · next e => exact e.symm
  · simp

theorem State.formAvailable_shown (s : State) : s.formAvailable.Shown := by
  obtain ⟨t, ht⟩ : ∃ t, t = s.onStaging fun g => { g with available := s.isAvailable } := ⟨_, rfl⟩
  have hset : s.formAvailable = t.publish := by rw [ht]; rfl
  have hsame : t.SameConditions t.publish := by constructor <;> simp
  have hpublish : t.publish.withPublished = t.withPublished :=
    State.withPublished_congr hsame (by simp) (by simp) (by simp)
  have hformed : s.isAvailable = t.isAvailable := by rw [ht]; rfl
  rw [hset]
  refine ⟨?_, fun own hown => ?_⟩
  · simp only [State.isAvailable, hsame.start, State.publish_keeps]
    rw [ht]; rfl
  · rw [State.publish_own (by simpa using hown), hpublish, State.withPublished_withPublished]

theorem State.pumpSource_blinded (s : State) (old : PumpState) :
    (s.pumpSource old).screen.blinded = s.screen.blinded := by
  unfold State.pumpSource State.trigger
  (repeat' split) <;> rfl

/-- A change of the pump shows itself, whatever was shown before it (R45, R61). -/
theorem State.movePump_shown (s : State) (f : Pump → Pump) : (s.movePump f).Shown :=
  (State.formAvailable_shown (s.changePump f).limitWish).of_kept
    (by constructor <;> simp [State.movePump, State.pumpSource_blinded]) (by simp [State.movePump])
    (by simp [State.movePump]) (by simp [State.movePump]) (by simp [State.movePump])

theorem State.Shown.lock (h : s.Shown) (c : LockCause) : (s.lock c).Shown := by
  unfold State.lock
  split
  · exact h
  · exact s.movePump_shown _

theorem State.Shown.loseClaim (h : s.Shown) : s.loseClaim.Shown := by
  have hwithdrawn : s.withdrawClaim.Shown :=
    h.of_kept (by constructor <;> simp) (by simp) (by simp) (by simp) (by simp)
  unfold State.loseClaim State.claimResolved
  split
  · split
    · exact hwithdrawn.lock _
    · split
      · exact State.movePump_shown _ _
      · exact hwithdrawn
  · exact State.movePump_shown _ _

theorem State.goStopping_shown (s : State) : s.goStopping.Shown := by
  unfold State.goStopping
  dsimp only
  split <;> exact State.movePump_shown _ _

/-! ### What the Pump Sequencer does when it is told of the wishes -/

/-- What a station `y` comes to when its wishes are acted on, `y` holding the wishes (R76, R79, R82, R89). -/
inductive State.ActsAs (y : State) : State → Prop
  /-- A start wish that could start the pump is not left behind (R76, R82). -/
  | rests (h : y.pump.state = .ready → y.pump.guard = none → y.staging.startWish = .notHeld) : y.ActsAs y
  | delays (stopDelay : Option Nat) (hstate : y.pump.state = .running) :
      y.ActsAs (y.onPump fun p => { p with stopDelay })
  | stops (hstate : y.pump.state = .running) : y.ActsAs y.goStopping
  | losesClaim (hstate : y.pump.state = .claiming) (hwish : y.staging.startWish = .notHeld) : y.ActsAs y.loseClaim
  | claims (hstate : y.pump.state = .ready) (hguard : y.pump.guard = none) (halone : y.isolated = false)
      (hwish : y.staging.startWish = .claimed) : y.ActsAs y.beginClaim
  | starts (hstate : y.pump.state = .ready) (hguard : y.pump.guard = none) (halone : y.isolated = true)
      (hwish : y.staging.startWish = .unclaimed) : y.ActsAs y.makeStart

/-- The stop wish is acted on in RUNNING, where no start wish is held (R62, R89). -/
theorem State.actOnStop_acts (hstate : s.pump.state = .running) (hwish : s.staging.startWish = .notHeld) :
    s.ActsAs s.actOnStop.actOnStart := by
  have hrests : s.ActsAs s.actOnStart := by
    rw [State.actOnStart_of_notHeld hwish]
    exact .rests fun _ _ => hwish
  have hdelays (d : Option Nat) : s.ActsAs (s.onPump fun p => { p with stopDelay := d }).actOnStart := by
    rw [State.actOnStart_of_notHeld (by exact hwish)]
    exact .delays d hstate
  unfold State.actOnStop
  split
  · exact hrests
  split
  · exact hdelays none
  split
  · exact hrests
  split
  · rw [State.actOnStart_of_notHeld (State.goStopping_startWish hwish)]
    exact .stops hstate
  · exact hdelays _

/-- The start wish is acted on from READY with the guard expired (R76, R82). -/
theorem State.actOnStart_acts (hwish : s.staging.startWish ≠ .notHeld →
    s.staging.startWish = if s.isolated then .unclaimed else .claimed) : s.ActsAs s.actOnStart := by
  unfold State.actOnStart
  split
  · next hready =>
    obtain ⟨hstate, hguard⟩ := hready
    split
    · next h => exact .rests fun _ _ => h
    · next h =>
      have halone : s.isolated = false := by simpa [h] using hwish
      rw [if_neg (by simp [halone])]
      exact .claims hstate hguard halone h
    · next h =>
      have halone : s.isolated = true := by simpa [h] using hwish
      rw [if_pos halone]
      exact .starts hstate hguard halone h
  · next h => exact .rests fun hstate hguard => absurd ⟨hstate, hguard⟩ h

theorem State.loseClaim_of_claiming (hstate : s.pump.state = .claiming) :
    s.loseClaim.pump.state = .claiming ∨ s.loseClaim.pump.state = .ready ∨ s.loseClaim.pump.state = .locked := by
  unfold State.loseClaim State.claimResolved
  split
  · split
    · exact .inr (.inr (by simp [State.lock, hstate]))
    · exact .inr (.inl (by simp [hstate]))
  · exact .inl (by simp [hstate])

theorem State.loseClaim_startWish (h : s.staging.startWish = .notHeld) : s.loseClaim.staging.startWish = .notHeld := by
  have hwithdrawn : s.withdrawClaim.staging.startWish = .notHeld := by simpa using h
  unfold State.loseClaim State.claimResolved State.lock
  (repeat' split) <;> first | exact hwithdrawn | exact State.movePump_startWish _ hwithdrawn

/-- The wishes acted on, one of six ways (R49). -/
theorem State.act_acts {w : StartWish} (hphase : s.pump.claimPhase.isSome = decide (s.pump.state = .claiming))
    (hwish : w ≠ .notHeld → s.pump.mayWish = true ∧ w = if s.isolated then .unclaimed else .claimed) :
    (s.onStaging fun g => { g with startWish := w }).ActsAs (State.act (s, w)) := by
  obtain ⟨y, hy⟩ : ∃ y, y = s.onStaging fun g => { g with startWish := w } := ⟨_, rfl⟩
  have hyw : y.staging.startWish = w := by rw [hy]; rfl
  have hactOn (hrunning : w = .notHeld ∨ y.pump.state ≠ .running) : y.ActsAs y.actOnStop.actOnStart := by
    by_cases h : y.pump.state = .running
    · exact State.actOnStop_acts h (hyw.trans (hrunning.resolve_right (not_not_intro h)))
    · rw [State.actOnStop_of_not_running h]
      exact State.actOnStart_acts fun hne => by
        rw [hyw] at hne ⊢
        rw [hy]
        exact (hwish hne).2
  rw [State.act, ← hy]
  dsimp only
  by_cases hw : w = .notHeld
  · have hset : s.setStartWish w = if y.pump.mayLoseClaim then y.loseClaim else y := by
      rw [State.setStartWish, if_pos hw, State.dropWish, hy, hw]
    rw [hset]
    split
    · next hlose =>
      have hclaiming : y.pump.state = .claiming := by
        have hsome : y.pump.claimPhase.isSome = true := by
          rcases Bool.or_eq_true_iff.mp hlose with h | h <;> simp [of_decide_eq_true h]
        rw [hy] at hsome ⊢
        exact of_decide_eq_true (hphase.symm.trans hsome)
      have hstop : y.loseClaim.pump.state ≠ .running := by
        rcases State.loseClaim_of_claiming hclaiming with h | h | h <;> simp [h]
      rw [State.actOnStop_of_not_running hstop,
        State.actOnStart_of_notHeld (State.loseClaim_startWish (hyw.trans hw))]
      exact .losesClaim hclaiming (hyw.trans hw)
    · exact hactOn (.inl hw)
  · rw [State.setStartWish, if_neg hw, ← hy]
    refine hactOn (.inr fun hrunning => ?_)
    have hmay : y.pump.mayWish = true := by rw [hy]; exact (hwish hw).1
    simp [Pump.mayWish, hrunning] at hmay

/-! ### What each part of the demand picture reads (R50 to R67) -/

/-- What the demand picture reads of an entry beside its published fields (R43, R50). -/
theorem State.entry_of_withPublished {e f : PeerEntry} (h : s.withPublished e = s.withPublished f) :
    e.presence = f.presence ∧ e.level = f.level := by
  have hpresence := congrArg PeerEntry.presence h
  have hlevel := congrArg PeerEntry.level h
  exact ⟨hpresence, hlevel⟩

theorem State.Moved.entry (h : u.Moved t) (a : BayAddress) :
    (t.peers.get a).presence = (u.peers.get a).presence ∧ (t.peers.get a).level = (u.peers.get a).level :=
  State.entry_of_withPublished (h.entries u a)

theorem State.freshAddresses_congr (h : ∀ a, (t.peers.get a).presence = (s.peers.get a).presence) :
    t.freshAddresses = s.freshAddresses :=
  List.filter_congr fun a _ => by rw [h a]

theorem State.houseLevelNow_congr (h : ∀ a, (t.peers.get a).presence = (s.peers.get a).presence)
    (hlevel : ∀ a, (t.peers.get a).level = (s.peers.get a).level) : t.houseLevelNow = s.houseLevelNow := by
  rw [State.houseLevelNow, State.houseLevelNow, State.freshAddresses_congr h, funext hlevel]

theorem State.levelSourceNow_congr (hstartUp : t.startUp = s.startUp) (hprobes : t.probes = s.probes)
    (halone : t.isolated = s.isolated) (hhouse : t.staging.houseLevel = s.staging.houseLevel) :
    t.levelSourceNow = s.levelSourceNow := by
  rw [State.levelSourceNow, State.levelSourceNow, State.bayLevel, State.bayLevel, hstartUp, hprobes, halone, hhouse]

theorem State.floatModeNow_congr (hstartUp : t.startUp = s.startUp)
    (hsource : t.staging.levelSource = s.staging.levelSource) : t.floatModeNow = s.floatModeNow := by
  rw [State.floatModeNow, State.floatModeNow, State.settings, State.settings, hstartUp, hsource]

theorem State.dNow_congr (hstartUp : t.startUp = s.startUp) (hfloats : t.floats = s.floats) (hweir : t.weir = s.weir)
    (h : ∀ a, (t.peers.get a).presence = (s.peers.get a).presence)
    (hspill : ∀ a, (t.peers.get a).spillOpen = (s.peers.get a).spillOpen)
    (hmarks : t.staging.noticeMarks = s.staging.noticeMarks) (hlatches : t.staging.latches = s.staging.latches) :
    t.dNow = s.dNow := by
  have hallOut : t.allOut = s.allOut := by
    rw [State.allOut, State.allOut, State.freshAddresses_congr h, funext hspill, hmarks, hstartUp, hweir, hfloats]
  rw [State.dNow, State.dNow, hallOut, hlatches]

theorem State.dAutoNow_congr (hd : t.staging.d = s.staging.d)
    (h : ∀ a, (t.peers.get a).presence = (s.peers.get a).presence)
    (hhand : ∀ a, (t.peers.get a).summary = .hand ↔ (s.peers.get a).summary = .hand) : t.dAutoNow = s.dAutoNow := by
  have hcount : t.handCount = s.handCount := by
    rw [State.handCount, State.handCount, State.freshAddresses_congr h]
    exact congrArg List.length (List.filter_congr fun a _ => decide_eq_decide.mpr (hhand a))
  rw [State.dAutoNow, State.dAutoNow, hcount, hd]

theorem State.countBefore_congr (hpeers : t.peers = s.peers) (hmarks : t.staging.claimMarks = s.staging.claimMarks) :
    t.countBefore = s.countBefore := by
  funext own key
  have hgroup : t.group = s.group := by
    funext a; rw [State.group, State.group, State.runs, State.runs, State.marked, State.marked, hpeers, hmarks]
  have hkey : t.rankKey = s.rankKey := by
    funext a; rw [State.rankKey, State.rankKey, State.rankCredit, State.rankCredit, hgroup, hpeers, hmarks]
  rw [State.countBefore, State.countBefore, (State.ahead_congr hpeers hmarks).1, hkey]

theorem State.rankNow_congr (hstartUp : t.startUp = s.startUp) (hpeers : t.peers = s.peers)
    (hmarks : t.staging.claimMarks = s.staging.claimMarks) :
    t.rankNow = s.rankNow ∧ t.rankIfAvailable = s.rankIfAvailable := by
  obtain ⟨heligible, hahead⟩ := State.ahead_congr hpeers hmarks
  have haddress : t.startUp.address = s.startUp.address := by rw [hstartUp]
  refine ⟨?_, ?_⟩
  · cases h : s.startUp.address with
    | none => rw [State.rankNow, State.rankNow, haddress, h]
    | some own => rw [State.rankNow_eq h, State.rankNow_eq (haddress.trans h), heligible, hahead]
  · rw [State.rankIfAvailable, State.rankIfAvailable, haddress, State.countBefore_congr hpeers hmarks, hpeers]

/-- `t` holds the picture that `s` holds, and what the wishes are formed from beside it. -/
structure State.SameDemand (s t : State) : Prop extends s.SameConditions t where
  isolated : t.isolated = s.isolated
  startDelay : t.staging.startDelay = s.staging.startDelay
  d : t.staging.d = s.staging.d
  dAuto : t.staging.dAuto = s.staging.dAuto
  rank : t.staging.rank = s.staging.rank

theorem State.SameDemand.wanted (h : s.SameDemand t) : t.wanted = s.wanted := by
  funext rank
  rw [State.wanted, State.wanted, h.isolated, h.startDelay, h.floatMode, h.floats, h.dAuto]

theorem State.SameDemand.startWishNow (h : s.SameDemand t) (hstate : t.pump.state = s.pump.state) :
    t.startWishNow = s.startWishNow := by
  rw [State.startWishNow, State.startWishNow, Pump.mayWish, Pump.mayWish, hstate, h.start, h.wanted, h.rank, h.isolated]

theorem State.SameDemand.stopWishNow (h : s.SameDemand t) (hstate : t.pump.state = s.pump.state) :
    t.stopWishNow = s.stopWishNow := by
  have hreaches : t.demandReaches = s.demandReaches := by
    rw [State.demandReaches, State.demandReaches, h.startUp, h.d]
  rw [State.stopWishNow, State.stopWishNow, hreaches, hstate, h.floatMode, h.floats, h.isolated, h.rank, h.dAuto]

theorem State.SameDemand.limitHeldNow (h : s.SameDemand t) (hstate : t.pump.state = s.pump.state)
    (hpeers : t.peers = s.peers) (hmarks : t.staging.claimMarks = s.staging.claimMarks) :
    t.limitHeldNow = s.limitHeldNow := by
  rw [State.limitHeldNow, State.limitHeldNow, hstate, State.startLimited_congr h.startUp h.starts, h.other, h.wanted,
    (State.rankNow_congr h.startUp hpeers hmarks).2]

/-! ### An evaluation up to the wishes (R49) -/

/-- The station with its house level, level source, float mode and availability formed (R50, R51, R61). -/
def State.surveyed (s : State) : State := s.ageStarts.formHouseLevel.formLevelSource.formFloatMode.formAvailable

/-- The station with its demand and rank formed besides (R53 to R60). -/
def State.ranked (s : State) : State := s.surveyed.formLatches.formD.formDAuto.formRank

/-- The station as the Pump Sequencer is told of the wishes of an evaluation. -/
def State.told (s : State) : State :=
  s.ranked.formWishes.1.onStaging fun g => { g with startWish := s.ranked.formWishes.2 }

@[simp] theorem State.surveyed_keeps (s : State) :
    s.surveyed.now = s.now ∧ s.surveyed.startUp = s.startUp ∧ s.surveyed.probes = s.probes ∧
    s.surveyed.floats = s.floats ∧ s.surveyed.supply = s.supply ∧ s.surveyed.screen = s.screen ∧
    s.surveyed.weir = s.weir ∧ s.surveyed.panel = s.panel ∧ s.surveyed.pending = s.pending ∧
    s.surveyed.line.txEnabled = s.line.txEnabled ∧ s.surveyed.line.lineHeld = s.line.lineHeld := by
  simp [State.surveyed]

/-- What an evaluation does before it tells the Pump Sequencer leaves these blocks. -/
@[simp] theorem State.told_keeps (s : State) :
    s.told.now = s.now ∧ s.told.startUp = s.startUp ∧ s.told.probes = s.probes ∧ s.told.floats = s.floats ∧
    s.told.supply = s.supply ∧ s.told.screen = s.screen ∧ s.told.weir = s.weir ∧ s.told.panel = s.panel ∧
    s.told.pending = s.pending ∧ s.told.line = s.surveyed.line ∧ s.told.peers = s.surveyed.peers ∧
    s.told.pump = s.surveyed.pump := by
  simp [State.told, State.ranked]

/-- The Staging Unit as the Pump Sequencer is told of the wishes, each part formed from those before it. -/
theorem State.told_staging (s : State) : ∃ a1, s.told.staging = { s.surveyed.staging with
    latches := s.surveyed.latchesNow
    d := s.surveyed.formLatches.dNow
    dAuto := s.surveyed.formLatches.formD.dAutoNow
    rank := s.surveyed.formLatches.formD.formDAuto.rankNow
    startDelay := s.ranked.delayNow
    limitHeld := s.ranked.formDelay.limitHeldNow
    stopWish := s.ranked.formDelay.formLimitHeld.stopWishNow
    a1
    startWish := s.ranked.formDelay.startWishNow } := by
  simp only [State.told, State.ranked]
  obtain ⟨v, hv⟩ : ∃ v, v = s.surveyed := ⟨_, rfl⟩
  rw [← hv]
  refine ⟨v.formLatches.formD.formDAuto.formRank.formDelay.formLimitHeld.formStopWish.wellHigh, ?_⟩
  simp [State.formWishes, State.formA1, State.formStopWish, State.formLimitHeld, State.formDelay, State.formRank,
    State.formDAuto, State.formD, State.formLatches]

/-- The levels, the demand and what is left of it for pumps in Auto are as the tables and the settings give them. -/
structure State.Pictured (s : State) : Prop where
  houseLevel : s.staging.houseLevel = s.houseLevelNow
  levelSource : s.staging.levelSource = s.levelSourceNow
  floatMode : s.staging.floatMode = s.floatModeNow
  d : s.staging.d = s.dNow
  dAuto : s.staging.dAuto = s.dAutoNow

/-- The rank and the wishes too are as the picture gives them, and the own entry shows the station. -/
structure State.Considered (s : State) : Prop extends s.Pictured where
  rank : s.staging.rank = s.rankNow
  stopWish : s.staging.stopWish = s.stopWishNow
  limitHeld : s.staging.limitHeld = s.limitHeldNow
  startWish : s.staging.startWish = s.startWishNow
  shown : s.Shown

/-- Availability is formed after the house level, the level source and float mode, and leaves them (R49). -/
theorem State.surveyed_levels (s : State) :
    s.surveyed.staging.houseLevel = s.surveyed.houseLevelNow ∧
    s.surveyed.staging.levelSource = s.surveyed.levelSourceNow ∧
    s.surveyed.staging.floatMode = s.surveyed.floatModeNow := by
  obtain ⟨q, hq⟩ : ∃ q, q = s.ageStarts := ⟨_, rfl⟩
  obtain ⟨r, hr⟩ : ∃ r, r = q.formHouseLevel.formLevelSource := ⟨_, rfl⟩
  have hformed : s.surveyed = r.formFloatMode.formAvailable := by rw [hr, hq]; rfl
  have hentry (a : BayAddress) := (State.Moved.refl r.formFloatMode).formAvailable.entry a
  have hstaging : r.formFloatMode.formAvailable.staging =
      { r.staging with floatMode := r.floatModeNow, available := r.formFloatMode.isAvailable } := by
    simp [State.formAvailable, State.formFloatMode]
  have hhouse : r.staging.houseLevel = q.houseLevelNow := by simp [hr, State.formLevelSource, State.formHouseLevel]
  have hsource : r.staging.levelSource = q.formHouseLevel.levelSourceNow := by simp [hr, State.formLevelSource]
  rw [hformed, hstaging]
  refine ⟨?_, ?_, ?_⟩
  · rw [State.houseLevelNow_congr (fun a => (hentry a).1) (fun a => (hentry a).2)]
    exact hhouse.trans (State.houseLevelNow_congr (by simp [hr]) (by simp [hr]))
  · have hlevel : r.formFloatMode.formAvailable.staging.houseLevel = q.formHouseLevel.staging.houseLevel := by
      rw [hstaging]
      simp [hr, State.formLevelSource]
    exact hsource.trans
      (State.levelSourceNow_congr (by simp [hr]) (by simp [hr]) (by simp [hr, State.isolated]) hlevel).symm
  · exact State.floatModeNow_congr (by simp) (by simp [hstaging])

/-- The parts of the picture before the wishes, each read after all of them as it was read in its turn (R50 to R60). -/
theorem State.told_picture (s : State) :
    s.told.staging.d = s.told.dNow ∧ s.told.staging.dAuto = s.told.dAutoNow ∧ s.told.staging.rank = s.told.rankNow := by
  obtain ⟨a, hstaging⟩ := s.told_staging
  have hd : s.told.dNow = s.surveyed.formLatches.dNow := by
    apply State.dNow_congr <;> simp [State.formLatches, hstaging]
  have hdAuto : s.told.dAutoNow = s.surveyed.formLatches.formD.dAutoNow := by
    apply State.dAutoNow_congr <;> simp [State.formLatches, State.formD, hstaging]
  have hrank : s.told.rankNow = s.surveyed.formLatches.formD.formDAuto.rankNow := by
    apply And.left; apply State.rankNow_congr <;> simp [State.formLatches, State.formD, State.formDAuto, hstaging]
  rw [hd, hdAuto, hrank, hstaging]
  exact ⟨rfl, rfl, rfl⟩

/-- The limit-held indication is no part of what the wishes are formed from. -/
theorem State.formLimitHeld_sameDemand (s : State) : s.SameDemand s.formLimitHeld :=
  ⟨⟨rfl, rfl, rfl, rfl, rfl, rfl, rfl, rfl, rfl⟩, rfl, rfl, rfl, rfl, rfl⟩

/-- The wishes and the limit-held indication, read after all of them as they were formed (R62 to R67). -/
theorem State.told_wishes (s : State) :
    s.told.staging.stopWish = s.told.stopWishNow ∧ s.told.staging.limitHeld = s.told.limitHeldNow ∧
    s.told.staging.startWish = s.told.startWishNow := by
  obtain ⟨a, hstaging⟩ := s.told_staging
  have hdemand : s.ranked.formDelay.SameDemand s.told := by
    constructor
    · constructor <;> simp [State.formDelay, State.ranked, State.formRank, State.formDAuto, State.formD,
        State.formLatches, hstaging]
    all_goals simp [State.formDelay, State.ranked, State.formRank, State.formDAuto, State.formD, State.formLatches,
        hstaging, State.isolated]
  have hstate : s.told.pump.state = s.ranked.formDelay.pump.state := by simp [State.formDelay, State.ranked]
  have hpeers : s.told.peers = s.ranked.formDelay.peers := by simp [State.formDelay, State.ranked]
  have hmarks : s.told.staging.claimMarks = s.ranked.formDelay.staging.claimMarks := by
    simp [State.formDelay, State.ranked, State.formRank, State.formDAuto, State.formD, State.formLatches, hstaging]
  rw [hdemand.stopWishNow hstate, hdemand.limitHeldNow hstate hpeers hmarks, hdemand.startWishNow hstate, hstaging]
  exact ⟨(State.formLimitHeld_sameDemand _).stopWishNow rfl, rfl, rfl⟩

/-- An evaluation tells the Pump Sequencer of a picture and of wishes as the station then stands (R49 to R67). -/
theorem State.told_considered (s : State) : s.told.Considered := by
  obtain ⟨a, hstaging⟩ := s.told_staging
  obtain ⟨hhouse, hsource, hfloat⟩ := s.surveyed_levels
  obtain ⟨hd, hdAuto, hrank⟩ := s.told_picture
  obtain ⟨hstop, hlimit, hstart⟩ := s.told_wishes
  refine ⟨⟨?_, ?_, ?_, hd, hdAuto⟩, hrank, hstop, hlimit, hstart, ?_⟩
  · rw [State.houseLevelNow_congr (s := s.surveyed) (by simp) (by simp), ← hhouse, hstaging]
  · rw [State.levelSourceNow_congr (s := s.surveyed) (by simp) (by simp) (by simp [State.isolated]) (by rw [hstaging]),
      ← hsource, hstaging]
  · rw [State.floatModeNow_congr (s := s.surveyed) (by simp) (by rw [hstaging]), ← hfloat, hstaging]
  · refine (State.formAvailable_shown s.ageStarts.formHouseLevel.formLevelSource.formFloatMode).of_kept
      (s := s.surveyed) ?_ ?_ ?_ ?_ ?_
    · constructor <;> simp [hstaging]
    all_goals simp [hstaging]

/-! ### The station as the Pump Sequencer is told of the wishes -/

theorem State.ageStarts_pump_aged (s : State) : s.ageStarts.pump = s.pump.aged s.startUp.runClock := by
  unfold State.ageStarts
  dsimp only
  split
  · next h => exact congrArg (fun l => { s.pump with starts := l }) h.symm
  · simp [State.formAvailable]

/-- A list without old entries stays as it is (R84). -/
theorem State.ageStarts_of_aged (h : s.pump.aged s.startUp.runClock = s.pump) : s.ageStarts = s := by
  have hstarts : (s.onPump (Pump.aged s.startUp.runClock)).pump.starts = s.pump.starts := congrArg Pump.starts h
  rw [State.ageStarts]
  exact if_pos hstarts

theorem Pump.aged_aged (n : Nat) (p : Pump) : (p.aged n).aged n = p.aged n := by
  simp [Pump.aged]

theorem State.told_pump (s : State) : s.told.pump = s.pump.aged s.startUp.runClock := by
  simp [State.surveyed, State.ageStarts_pump_aged]

theorem State.told_ageStarts (s : State) : s.told.ageStarts = s.told := by
  refine State.ageStarts_of_aged ?_
  simp only [State.told_pump, State.told_keeps, Pump.aged_aged]

theorem State.told_isolated (s : State) : s.told.isolated = s.isolated := by
  simp [State.isolated]

/-- The wishes that an evaluation forms are acted on (R49, R62, R89). -/
theorem State.evaluate_acts (hended : s.ended)
    (hphase : s.pump.claimPhase.isSome = decide (s.pump.state = .claiming)) : s.told.ActsAs s.evaluate := by
  have hevaluate : s.evaluate = State.act (s.ranked.formWishes.1, s.ranked.formWishes.2) := by
    rw [State.evaluate, if_pos hended]; rfl
  have hpump : s.ranked.formWishes.1.pump = s.pump.aged s.startUp.runClock := by
    simp [State.ranked, State.surveyed, State.ageStarts_pump_aged]
  rw [hevaluate]
  refine State.act_acts (by rw [hpump]; exact hphase) fun hw => ?_
  have hwish : s.ranked.formWishes.2 = s.ranked.formDelay.startWishNow := rfl
  rw [hwish, State.startWishNow] at hw ⊢
  split at hw
  · next h =>
    obtain ⟨⟨hmay, _⟩, _⟩ : (s.ranked.formDelay.pump.mayWish = true ∧ _) ∧ _ := by
      simpa only [Bool.and_eq_true] using h
    rw [if_pos h]
    refine ⟨?_, ?_⟩
    · rw [hpump]
      simpa [State.ranked, State.surveyed, State.ageStarts_pump_aged, Pump.mayWish] using hmay
    · have halone : s.ranked.formWishes.1.isolated = s.ranked.formDelay.isolated := by simp [State.isolated]
      rw [halone]
  · exact absurd rfl hw

/-- What an evaluation leaves of the Staging Unit before it tells the Pump Sequencer (R52, R54, R59). -/
theorem State.told_fields (s : State) :
    s.told.staging.noticeMarks = s.staging.noticeMarks ∧ s.told.staging.claimMarks = s.staging.claimMarks ∧
    s.told.staging.drawdownOffset = s.staging.drawdownOffset := by
  simp [State.told, State.ranked, State.surveyed]

/-! ### A start in Auto (R83, R86) -/

theorem State.addStart_newest (s : State) : s.addStart.pump.starts.getLast? = some s.startUp.runClock := by
  simp [State.addStart]

/-- A pump that takes up a start has its contactor closed, and holds its start list and feedback (R72, R83). -/
theorem Pump.tidied_proving (p old : Pump) (now : Nat) (minOff : Option Nat) (w : ProvingWindow) :
    let q := Pump.tidied now minOff old { p with
      state := .proving, window := some w, minRun := none, stopDelay := none }
    q.state = .proving ∧ q.starts = p.starts ∧ q.feedback = p.feedback := by
  simp [Pump.tidied]

theorem Pump.tidied_locked (p old : Pump) (now : Nat) (minOff : Option Nat) (c : LockCause) :
    let q := Pump.tidied now minOff old { p with state := .locked, lockCause := some c }
    q.state = .locked ∧ q.lockCause = some c ∧ q.starts = p.starts := by
  simp [Pump.tidied, keepIf]

/-- Early proof locks a pump that is not locked (R86). -/
theorem State.earlyProof_locks (h : s.pump.state ≠ .locked) :
    s.earlyProof.pump.state = .locked ∧ s.earlyProof.pump.lockCause = some .earlyProof ∧
    s.earlyProof.pump.starts = s.pump.starts := by
  rw [State.earlyProof, State.lock, if_neg (by simpa using h), State.movePump_pump_tidied _ _ (by simp)]
  obtain ⟨hstate, hcause, hstarts⟩ := Pump.tidied_locked (s.count .failedStarts 1).pump (s.count .failedStarts 1).pump
    (s.count .failedStarts 1).now ((s.count .failedStarts 1).after (s.count .failedStarts 1).general.minOff) .earlyProof
  exact ⟨hstate, hcause, hstarts.trans (by simp)⟩

/-- A start with the list aged is its newest entry; it proves, or locks the pump when feedback is already there
(R83, R84, R86). -/
theorem State.makeStart_starts (haged : s.ageStarts = s) :
    s.makeStart.pump.starts.getLast? = some s.startUp.runClock ∧
    (s.pump.feedback = false → s.makeStart.pump.state = .proving) ∧
    (s.pump.feedback = true → s.makeStart.pump.state = .locked ∧ s.makeStart.pump.lockCause = some .earlyProof) := by
  obtain ⟨y, hy⟩ : ∃ y, y = s.addStart.count .starts 1 := ⟨_, rfl⟩
  obtain ⟨x, hx⟩ : ∃ x, x = y.movePump fun p => { p with
    state := .proving, window := some y.newWindow, minRun := none, stopDelay := none } := ⟨_, rfl⟩
  have hstart : s.makeStart = x.checkEarlyProof := by rw [State.makeStart, haged, ← hy, hx, hy]; rfl
  obtain ⟨hproving, hstarts, hfeedback⟩ :=
    Pump.tidied_proving y.pump y.pump y.now (y.after y.general.minOff) y.newWindow
  rw [← State.movePump_pump_tidied _ (fun p => { p with
    state := .proving, window := some y.newWindow, minRun := none, stopDelay := none }) (by simp), ← hx]
    at hproving hstarts hfeedback
  have hpump : y.pump = s.addStart.pump := by simp [hy]
  have hnewest : x.pump.starts.getLast? = some s.startUp.runClock := by
    rw [hstarts, hpump]; exact s.addStart_newest
  have hpresent : (x.pump.proving && x.pump.feedback) = s.pump.feedback := by
    simp [Pump.proving, hproving, hfeedback, hpump, State.addStart]
  rw [hstart, State.checkEarlyProof, hpresent]
  obtain ⟨hlocked, hcause, hkept⟩ := State.earlyProof_locks (s := x) (by simp [hproving])
  cases s.pump.feedback
  · exact ⟨hnewest, fun _ => hproving, nofun⟩
  · exact ⟨by rw [if_pos rfl, hkept]; exact hnewest, nofun, fun _ => ⟨hlocked, hcause⟩⟩

variable {y x : State}

/-! ### What the wishes leave when they are acted on -/

theorem State.Moved.makeStart (haged : s.ageStarts = s) : s.Moved s.makeStart := by
  have hstarted : s.Moved (s.addStart.count .starts 1) := ((State.Moved.refl s).onPump : s.Moved s.addStart).count
  unfold State.makeStart State.checkEarlyProof
  rw [haged]
  split
  · exact (hstarted.movePump.count : State.Moved s _).lock
  · exact hstarted.movePump

theorem State.Shown.count (h : s.Shown) (i : CountId) (n : Nat) : (s.count i n).Shown :=
  h.of_kept (by constructor <;> simp) (by simp) (by simp) (by simp) (by simp)

theorem State.makeStart_shown (s : State) : s.makeStart.Shown := by
  unfold State.makeStart State.checkEarlyProof
  split
  · exact ((State.movePump_shown _ _).count .failedStarts 1).lock _
  · exact State.movePump_shown _ _

theorem State.ActsAs.moved (h : y.ActsAs x) (haged : y.ageStarts = y) : y.Moved x := by
  cases h with
  | rests => exact .refl y
  | delays => exact (State.Moved.refl y).onPump
  | stops => exact (State.Moved.refl y).goStopping
  | losesClaim => exact (State.Moved.refl y).loseClaim
  | claims => exact (State.Moved.refl y).beginClaim
  | starts => exact State.Moved.makeStart haged

theorem State.ActsAs.shown (h : y.ActsAs x) (hshown : y.Shown) : x.Shown := by
  cases h with
  | rests => exact hshown
  | delays => exact hshown.of_kept (by constructor <;> rfl) rfl rfl rfl rfl
  | stops => exact y.goStopping_shown
  | losesClaim => exact hshown.loseClaim
  | claims => exact State.movePump_shown _ _
  | starts => exact y.makeStart_shown

theorem State.ActsAs.follows (h : y.ActsAs x) : y.Follows false x := by
  cases h with
  | rests => exact .refl y
  | delays => exact (State.Follows.refl y).onPump
  | stops => exact (State.Follows.refl y).goStopping
  | losesClaim => exact (State.Follows.refl y).loseClaim
  | claims => exact (State.Follows.refl y).beginClaim
  | starts => exact (State.Follows.refl y).makeStart

/-- A stop leaves the pump in STOPPING, or in READY (R91). -/
theorem State.goStopping_state (s : State) :
    s.goStopping.pump.state = .stopping ∨ s.goStopping.pump.state = .ready := by
  unfold State.goStopping
  dsimp only
  split
  · exact .inl (by rw [State.movePump_pump_tidied _ _ (by simp)]; rfl)
  · exact .inr (by rw [State.released, State.movePump_pump_tidied _ _ (by simp)]; rfl)

theorem State.beginClaim_state (s : State) : s.beginClaim.pump.state = .claiming := by
  rw [State.beginClaim, State.movePump_pump_tidied _ _ (by simp)]; rfl

theorem State.makeStart_state (haged : s.ageStarts = s) :
    s.makeStart.pump.state = .proving ∨ s.makeStart.pump.state = .locked := by
  obtain ⟨_, hproving, hlocked⟩ := State.makeStart_starts haged
  cases h : s.pump.feedback
  · exact .inl (hproving h)
  · exact .inr (hlocked h).1

/-- The wishes neither bring a pump into HAND nor take it out (R62). -/
theorem State.ActsAs.hand (h : y.ActsAs x) (haged : y.ageStarts = y) : x.pump.state = .hand ↔ y.pump.state = .hand := by
  cases h with
  | rests => rfl
  | delays => rfl
  | stops hstate => rcases y.goStopping_state with e | e <;> simp [e, hstate]
  | losesClaim hstate => rcases State.loseClaim_of_claiming hstate with e | e | e <;> simp [e, hstate]
  | claims hstate => simp [y.beginClaim_state, hstate]
  | starts hstate => rcases State.makeStart_state haged with e | e <;> simp [e, hstate]

/-! ### The start conditions and the start wish when the wishes are acted on -/

theorem State.SameConditions.refl (s : State) : s.SameConditions s := ⟨rfl, rfl, rfl, rfl, rfl, rfl, rfl, rfl, rfl⟩

theorem State.SameConditions.trans (h : s.SameConditions t) (g : t.SameConditions u) : s.SameConditions u where
  startUp := g.startUp.trans h.startUp
  probes := g.probes.trans h.probes
  floats := g.floats.trans h.floats
  supply := g.supply.trans h.supply
  blinded := g.blinded.trans h.blinded
  floatMode := g.floatMode.trans h.floatMode
  selector := g.selector.trans h.selector
  minOff := g.minOff.trans h.minOff
  starts := g.starts.trans h.starts

/-- With the contactor open a change leaves the min-off time to the change (R96). -/
theorem State.movePump_conditions {f : Pump → Pump} (hopen : s.pump.closed = false)
    (hhand : (f s.pump).state ≠ .hand) (hselector : (f s.pump).selector = s.pump.selector)
    (hminOff : (f s.pump).minOff = s.pump.minOff) (hstarts : (f s.pump).starts = s.pump.starts) :
    s.SameConditions (s.movePump f) := by
  have hpump := s.movePump_pump_tidied f hhand
  constructor
  case selector => rw [hpump]; exact hselector
  case minOff => rw [hpump]; simpa [Pump.tidied, hopen] using hminOff
  case starts => rw [hpump]; exact hstarts
  case floatMode =>
    have hpicture := congrArg Staging.floatMode ((State.Moved.refl s).movePump (f := f)).picture
    exact hpicture
  all_goals simp [State.movePump, State.pumpSource_blinded]

/-- A change to a state in which the start wish may be held leaves it (R62). -/
theorem State.movePump_startWish_of_mayWish {f : Pump → Pump} (hhand : (f s.pump).state ≠ .hand)
    (hmay : (f s.pump).mayWish = true) : (s.movePump f).staging.startWish = s.staging.startWish := by
  have hchanged : (s.changePump f).pump.mayWish = true := by
    rw [← State.movePump_pump, s.movePump_pump_tidied f hhand]; exact hmay
  simp [State.movePump, State.formAvailable, State.limitWish, hchanged]

theorem State.withdrawClaim_conditions (s : State) : s.SameConditions s.withdrawClaim := by constructor <;> simp

/-- With the contactor open, losing a claim leaves the start conditions (R79). -/
theorem State.loseClaim_conditions (hstate : s.pump.state = .claiming) : s.SameConditions s.loseClaim := by
  have hopen : s.withdrawClaim.pump.closed = false := by simp [Pump.closed, hstate]
  refine s.withdrawClaim_conditions.trans ?_
  unfold State.loseClaim State.claimResolved State.lock
  split
  · split
    · split
      · exact .refl _
      · exact State.movePump_conditions hopen (by simp) rfl rfl rfl
    · split
      · exact State.movePump_conditions hopen (by simp) rfl rfl rfl
      · exact .refl _
  · exact State.movePump_conditions hopen (by simp [hstate]) rfl rfl rfl

theorem State.beginClaim_conditions (hstate : s.pump.state = .ready) : s.SameConditions s.beginClaim := by
  have hplaced : s.SameConditions s.placeClaim := by constructor <;> simp
  have hopen : s.placeClaim.pump.closed = false := by simp [Pump.closed, hstate]
  exact hplaced.trans (State.movePump_conditions hopen (by simp) rfl rfl rfl)

theorem State.beginClaim_startWish (s : State) : s.beginClaim.staging.startWish = s.staging.startWish := by
  rw [State.beginClaim, State.movePump_startWish_of_mayWish (by simp) (by simp [Pump.mayWish])]
  simp

/-- While the pump state stands, so do the start conditions (R61). -/
theorem State.ActsAs.conditions (h : y.ActsAs x) (haged : y.ageStarts = y) (hstate : x.pump.state = y.pump.state) :
    y.SameConditions x := by
  cases h with
  | rests => exact .refl y
  | delays => exact ⟨rfl, rfl, rfl, rfl, rfl, rfl, rfl, rfl, rfl⟩
  | stops h => rcases y.goStopping_state with e | e <;> simp [e, h] at hstate
  | losesClaim h => exact State.loseClaim_conditions h
  | claims h => exact State.beginClaim_conditions h
  | starts h => rcases State.makeStart_state haged with e | e <;> simp [e, h] at hstate

/-- Unless a stop or an unclaimed start is made of them, the start wish and the start conditions stand (R61, R62). -/
theorem State.ActsAs.wish (h : y.ActsAs x) (hrunning : y.pump.state ≠ .running)
    (hstart : y.pump.state ≠ .ready ∨ y.isolated = false ∨ y.pump.guard.isSome) :
    x.staging.startWish = y.staging.startWish ∧ y.SameConditions x := by
  cases h with
  | rests => exact ⟨rfl, .refl y⟩
  | delays _ h => exact absurd h hrunning
  | stops h => exact absurd h hrunning
  | losesClaim h hwish => exact ⟨(State.loseClaim_startWish hwish).trans hwish.symm, State.loseClaim_conditions h⟩
  | claims h => exact ⟨y.beginClaim_startWish, State.beginClaim_conditions h⟩
  | starts h hguard halone => simp [h, hguard, halone] at hstart

/-- A start wish is held in READY and CLAIMING only (R62). -/
theorem State.ActsAs.notHeld (h : y.ActsAs x) (hstate : y.pump.mayWish = false)
    (hwish : y.staging.startWish = .notHeld) :
    x.staging.startWish = .notHeld := by
  cases h with
  | rests => exact hwish
  | delays => exact hwish
  | stops => exact State.goStopping_startWish hwish
  | losesClaim => exact State.loseClaim_startWish hwish
  | claims h => simp [Pump.mayWish, h] at hstate
  | starts h => simp [Pump.mayWish, h] at hstate

/-- No start wish that could start the pump is left waiting (R76, R82). -/
theorem State.ActsAs.startWish_ready (h : y.ActsAs x) (haged : y.ageStarts = y)
    (hwish : y.pump.state ≠ .ready → y.pump.state ≠ .claiming → y.staging.startWish = .notHeld)
    (hready : x.pump.state = .ready) (hguard : x.pump.guard = none) : x.staging.startWish = .notHeld := by
  cases h with
  | rests hrests => exact hrests hready hguard
  | delays _ hstate => exact hwish (by simp [hstate]) (by simp [hstate])
  | stops hstate => exact State.goStopping_startWish (hwish (by simp [hstate]) (by simp [hstate]))
  | losesClaim _ hwish => exact State.loseClaim_startWish hwish
  | claims => simp [y.beginClaim_state] at hready
  | starts => rcases State.makeStart_state haged with e | e <;> simp [e] at hready

/-! ### The picture when the wishes have been acted on -/

theorem State.entry_published {own : BayAddress} (h : s.withPublished (s.peers.get own) = s.peers.get own) :
    (s.peers.get own).spillOpen = s.weir.spill.isOpen ∧ (s.peers.get own).summary = s.pump.state.summary := by
  rw [← h]
  exact ⟨rfl, rfl⟩

theorem PumpState.summary_hand (p : PumpState) : p.summary = .hand ↔ p = .hand := by
  cases p <;> simp [PumpState.summary]

/-- What D and D_auto read of the entries, the own one published (R45, R57, R58). -/
theorem State.entries_of_published
    (hs : ∀ own, s.startUp.address = some own → s.withPublished (s.peers.get own) = s.peers.get own)
    (ht : ∀ own, t.startUp.address = some own → t.withPublished (t.peers.get own) = t.peers.get own)
    (hstartUp : t.startUp = s.startUp) (hweir : t.weir = s.weir)
    (hpeers : ∀ a, s.startUp.address ≠ some a → t.peers.get a = s.peers.get a)
    (hhand : t.pump.state = .hand ↔ s.pump.state = .hand) (a : BayAddress) :
    (t.peers.get a).spillOpen = (s.peers.get a).spillOpen ∧
    ((t.peers.get a).summary = .hand ↔ (s.peers.get a).summary = .hand) := by
  by_cases hown : s.startUp.address = some a
  · obtain ⟨hspill, hsummary⟩ := State.entry_published (hs a hown)
    obtain ⟨hspill', hsummary'⟩ := State.entry_published (ht a (hstartUp ▸ hown))
    rw [hspill, hspill', hsummary, hsummary', hweir, PumpState.summary_hand, PumpState.summary_hand]
    exact ⟨rfl, hhand⟩
  · rw [hpeers a hown]
    exact ⟨rfl, .rfl⟩

/-- The picture as the tables give it stands through what leaves it and the tables. -/
theorem State.Pictured.of_moved (h : s.Pictured) (hmoved : s.Moved t) (hstartUp : t.startUp = s.startUp)
    (hprobes : t.probes = s.probes) (hfloats : t.floats = s.floats) (hweir : t.weir = s.weir)
    (halone : t.isolated = s.isolated)
    (hentries : ∀ a, (t.peers.get a).spillOpen = (s.peers.get a).spillOpen ∧
      ((t.peers.get a).summary = .hand ↔ (s.peers.get a).summary = .hand)) : t.Pictured := by
  have hhouse : t.staging.houseLevel = s.staging.houseLevel := by rw [hmoved.staging]
  have hsource : t.staging.levelSource = s.staging.levelSource := by rw [hmoved.staging]
  have hfloat : t.staging.floatMode = s.staging.floatMode := by rw [hmoved.staging]
  have hd : t.staging.d = s.staging.d := by rw [hmoved.staging]
  have hdAuto : t.staging.dAuto = s.staging.dAuto := by rw [hmoved.staging]
  have hmarks : t.staging.noticeMarks = s.staging.noticeMarks := by rw [hmoved.staging]
  have hlatches : t.staging.latches = s.staging.latches := by rw [hmoved.staging]
  have hpresence (a : BayAddress) := (hmoved.entry a).1
  constructor
  · rw [hhouse, h.houseLevel, State.houseLevelNow_congr hpresence fun a => (hmoved.entry a).2]
  · rw [hsource, h.levelSource, State.levelSourceNow_congr hstartUp hprobes halone hhouse]
  · rw [hfloat, h.floatMode, State.floatModeNow_congr hstartUp hsource]
  · rw [hd, h.d, State.dNow_congr hstartUp hfloats hweir hpresence (fun a => (hentries a).1) hmarks hlatches]
  · rw [hdAuto, h.dAuto, State.dAutoNow_congr hd hpresence fun a => (hentries a).2]

section Evaluation

variable (hended : s.ended) (hphase : s.pump.claimPhase.isSome = decide (s.pump.state = .claiming))
include hended hphase

theorem State.evaluate_moved : s.told.Moved s.evaluate := (s.evaluate_acts hended hphase).moved s.told_ageStarts

theorem State.evaluate_shown : s.evaluate.Shown := (s.evaluate_acts hended hphase).shown s.told_considered.shown

/-- After an evaluation the levels, D and D_auto are as the tables give them (R50 to R58). -/
theorem State.evaluate_pictured : s.evaluate.Pictured := by
  have hacts := s.evaluate_acts hended hphase
  refine s.told_considered.toPictured.of_moved (s.evaluate_moved hended hphase) ?_ ?_ ?_ ?_ ?_
    (State.entries_of_published s.told_considered.shown.published (s.evaluate_shown hended hphase).published ?_ ?_
      hacts.follows.peers (hacts.hand s.told_ageStarts))
  all_goals simp [s.told_isolated]
  simp [State.isolated]

end Evaluation

/-! ### The isolated start delay at its end (R65, R66, R82) -/

theorem State.delayCondition_congr (hstartUp : t.startUp = s.startUp) (hfloats : t.floats = s.floats)
    (hmode : t.staging.floatMode = s.staging.floatMode) (hd : t.staging.d = s.staging.d) :
    t.delayCondition = s.delayCondition := by
  rw [State.delayCondition, State.delayCondition, State.demandReaches, State.demandReaches, hstartUp, hfloats, hmode,
    hd]

/-- What ages the start list leaves the Staging Unit but for two of its flags (R64, R84). -/
theorem State.ageStarts_staging (s : State) :
    ∃ available limitHeld, s.ageStarts.staging = { s.staging with available, limitHeld } := by
  obtain ⟨t, ht⟩ : ∃ t, t = s.onPump (Pump.aged s.startUp.runClock) := ⟨_, rfl⟩
  have hkept : t.staging = s.staging := by rw [ht]; rfl
  rw [State.ageStarts, ← ht]
  dsimp only
  split
  · exact ⟨_, _, rfl⟩
  · exact ⟨(t.onStaging fun g => { g with limitHeld := false }).isAvailable, false, by
      simp [State.formAvailable, hkept]⟩

/-- The levels and availability formed leave the rest of the Staging Unit (R50, R51, R61). -/
theorem State.surveyed_staging (s : State) : ∃ houseLevel levelSource floatMode available limitHeld,
    s.surveyed.staging = { s.staging with houseLevel, levelSource, floatMode, available, limitHeld } := by
  obtain ⟨_, limitHeld, haged⟩ := s.ageStarts_staging
  obtain ⟨v, hv⟩ : ∃ v, v = s.ageStarts.formHouseLevel.formLevelSource := ⟨_, rfl⟩
  have hstaging : v.staging = { s.ageStarts.staging with
      houseLevel := v.staging.houseLevel, levelSource := v.staging.levelSource } := by
    rw [hv]; rfl
  have hsurveyed : s.surveyed.staging = { v.staging with
      floatMode := v.floatModeNow, available := v.formFloatMode.isAvailable } := by
    simp [State.surveyed, ← hv, State.formAvailable, State.formFloatMode]
  exact ⟨_, _, _, _, limitHeld, by rw [hsurveyed, hstaging, haged]⟩

/-- A delay that is DONE stays so on an isolated station while its start condition holds (R65). -/
theorem State.told_startDelay (halone : s.isolated = true) (hdone : s.staging.startDelay = .done) :
    s.told.staging.startDelay = if s.told.delayCondition then .done else .idle := by
  obtain ⟨a, hstaging⟩ := s.told_staging
  obtain ⟨_, _, _, _, _, hsurveyed⟩ := s.surveyed_staging
  have hcondition : s.told.delayCondition = s.ranked.delayCondition := by
    apply State.delayCondition_congr <;>
      simp [hstaging, State.ranked, State.formRank, State.formDAuto, State.formD, State.formLatches]
  have hstart : s.ranked.staging.startDelay = .done := by
    simp [State.ranked, State.formRank, State.formDAuto, State.formD, State.formLatches, hsurveyed, hdone]
  have hranked : s.ranked.isolated = true := by
    rw [← halone]; simp [State.isolated, State.ranked]
  have hdelay : s.told.staging.startDelay = s.ranked.delayNow := by rw [hstaging]
  rw [hdelay, hcondition, State.delayNow, hranked, hstart]
  cases s.ranked.delayCondition <;> rfl

/-- Ageing the list hands A6 over only (R64). -/
theorem State.ageStarts_alarm {k : AlarmKind} (hk : k ≠ .a6) : s.ageStarts.alarm k = s.alarm k := by
  unfold State.ageStarts
  dsimp only
  split
  · rfl
  · exact (State.handOver_alarm_ne _ _ hk.symm).trans (State.alarm_congr (by simp [State.formAvailable]) k)

/-- Of the alarms, an evaluation hands A1 and A6 over before it tells the Pump Sequencer (R69, R85). -/
theorem State.told_alarm {k : AlarmKind} (hk : k ∉ [AlarmKind.a1, .a6]) : s.told.alarm k = s.alarm k := by
  obtain ⟨ha1, ha6⟩ : k ≠ .a1 ∧ k ≠ .a6 := by simpa using hk
  obtain ⟨v, hv⟩ : ∃ v, v = s.ranked.formDelay.formLimitHeld.formStopWish := ⟨_, rfl⟩
  have hformed : s.ranked.formWishes.1 = (v.formA1.peakLevel).handOver [] .a6 := by rw [hv]; rfl
  calc s.told.alarm k = s.ranked.formWishes.1.alarm k := rfl
    _ = v.formA1.peakLevel.alarm k := by rw [hformed, State.handOver_alarm_ne _ _ ha6.symm]
    _ = v.formA1.alarm k := State.alarm_congr (by simp) k
    _ = v.alarm k := (State.handOver_alarm_ne _ _ ha1.symm).trans rfl
    _ = s.ageStarts.alarm k := State.alarm_congr (by simp [hv, State.ranked, State.surveyed, State.formAvailable]) k
    _ = s.alarm k := State.ageStarts_alarm ha6

/-- The wish of an isolated READY station whose start conditions hold, with its delay DONE (R66). -/
theorem State.told_unclaimed (halone : s.isolated = true) (hready : s.pump.state = .ready)
    (hconditions : s.told.startConditions = true) (hdone : s.told.staging.startDelay = .done) :
    s.told.staging.startWish = .unclaimed := by
  have hwanted : s.told.wanted s.told.staging.rank = true := by
    rw [State.wanted, s.told_isolated, halone]; simpa using hdone
  have hmay : s.told.pump.mayWish = true := by rw [s.told_pump]; simp [Pump.mayWish, Pump.aged, hready]
  rw [s.told_considered.startWish, State.startWishNow, hconditions, hwanted, hmay, s.told_isolated, halone]
  rfl

/-- A station told of a start wish that could start the pump starts it (R82). -/
theorem State.ActsAs.eq_makeStart (h : y.ActsAs x) (hready : y.pump.state = .ready) (hguard : y.pump.guard = none)
    (hwish : y.staging.startWish = .unclaimed) : x = y.makeStart := by
  cases h with
  | rests hrests => simp [hrests hready hguard] at hwish
  | delays _ hstate => simp [hready] at hstate
  | stops hstate => simp [hready] at hstate
  | losesClaim hstate => simp [hready] at hstate
  | claims _ _ _ hclaimed => simp [hwish] at hclaimed
  | starts => rfl

/-- The start conditions, each by the rule it comes from (R61, R84). -/
theorem State.told_startConditions (hfitted : s.general.pumpFitted = true) (hselector : s.pump.selector = .auto)
    (hminOff : s.pump.minOff = none) (hblinded : s.screen.blinded = false) (hhealthy : s.supply.healthy = true)
    (hhold : s.supply.hold = false)
    (hstarts : (s.pump.starts.filter fun x => decide (s.startUp.runClock - x < 3600)).length < s.general.startsPerHour)
    (hlevel : if s.told.staging.floatMode then s.floats.stop.presented = .closed
      else ∃ x c, s.bayLevel = some x ∧ s.settings.levels = some c ∧ c.cutOut + c.restartMargin ≤ x) :
    s.told.startConditions = true := by
  have hgeneral : s.told.general = s.general := State.general_congr (by simp)
  have hauto : s.told.autoFlag = true := by
    rw [State.autoFlag, hgeneral, hfitted, s.told_pump]; simp [Pump.aged, hselector]
  have hlimited : s.told.startLimited = false := by
    rw [State.startLimited, hgeneral, s.told_pump]
    exact decide_eq_false (by simpa [Pump.aged] using hstarts)
  have hsettings : s.told.settings = s.settings := by simp [State.settings]
  have hbay : s.told.bayLevel = s.bayLevel := by simp [State.bayLevel]
  have hrestart : (if s.told.staging.floatMode then decide (s.floats.stop.presented = .closed)
      else s.told.restartLevel s.told.bayLevel) = true := by
    split at hlevel
    · next hmode => rw [if_pos hmode]; simpa using hlevel
    · next hmode =>
      obtain ⟨l, c, hl, hc, hmargin⟩ := hlevel
      rw [if_neg hmode, hbay, hl]
      simp only [State.restartLevel, hsettings, hc]
      exact decide_eq_true hmargin
  have hoff : s.told.pump.minOff = none := by rw [s.told_pump]; exact hminOff
  obtain ⟨_, _, _, hfloats, hsupply, hscreen, _⟩ := s.told_keeps
  rw [State.startConditions, State.otherStartConditions, hauto, hlimited, hoff, hscreen, hblinded, hsupply, hhealthy,
    hhold, hfloats, hrestart]
  rfl

section Evaluation

variable (hended : s.ended) (hphase : s.pump.claimPhase.isSome = decide (s.pump.state = .claiming))
include hended hphase

/-- The start delay after an evaluation that found it DONE (R65). -/
theorem State.evaluate_startDelay (halone : s.isolated = true) (hdone : s.staging.startDelay = .done) :
    s.evaluate.staging.startDelay = if s.evaluate.delayCondition then .done else .idle := by
  have hstaging := (State.evaluate_moved hended hphase).staging
  have hcondition : s.evaluate.delayCondition = s.told.delayCondition :=
    State.delayCondition_congr (by simp) (by simp) (by rw [hstaging]) (by rw [hstaging])
  have hdelay : s.evaluate.staging.startDelay = s.told.staging.startDelay := by rw [hstaging]
  rw [hdelay, hcondition, State.told_startDelay halone hdone]

/-- The alarms that follow neither an evaluation nor the pump stand (R69, R85, R95). -/
theorem State.evaluate_alarm {k : AlarmKind} (hk : k ∉ [AlarmKind.a1, .a5, .a6]) : s.evaluate.alarm k = s.alarm k := by
  obtain ⟨ha1, ha5, ha6⟩ : k ≠ .a1 ∧ k ≠ .a5 ∧ k ≠ .a6 := by simpa using hk
  exact ((State.evaluate_moved hended hphase).alarms k ha5).trans (State.told_alarm (by simp [ha1, ha6]))

/-- What an isolated station whose delay is DONE has come to after an evaluation, its start conditions by the rules they
come from (R61, R65, R66, R82). -/
theorem State.evaluate_starts (halone : s.isolated = true) (hready : s.pump.state = .ready)
    (hguard : s.pump.guard = none) (hdone : s.evaluate.staging.startDelay = .done) (hconditions : s.told.startConditions = true) :
    s.evaluate.pump.starts.getLast? = some s.startUp.runClock ∧
    (s.pump.feedback = false → s.evaluate.pump.state = .proving) ∧
    (s.pump.feedback = true → s.evaluate.pump.state = .locked ∧ s.evaluate.pump.lockCause = some .earlyProof) := by
  have hdone' : s.told.staging.startDelay = .done := by
    rw [← hdone, (State.evaluate_moved hended hphase).staging]
  have hstart : s.evaluate = s.told.makeStart :=
    (s.evaluate_acts hended hphase).eq_makeStart (by rw [s.told_pump]; exact hready) (by rw [s.told_pump]; exact hguard)
      (State.told_unclaimed halone hready hconditions hdone')
  obtain ⟨hnewest, habsent, hpresent⟩ := State.makeStart_starts s.told_ageStarts
  have hfeedback : s.told.pump.feedback = s.pump.feedback := by rw [s.told_pump]; rfl
  rw [hfeedback] at habsent hpresent
  rw [hstart]
  exact ⟨by simpa using hnewest, habsent, hpresent⟩

/-- After an evaluation no start wish that could start the pump is left waiting (R76, R82). -/
theorem State.evaluate_rests (hready : s.evaluate.pump.state = .ready) (hguard : s.evaluate.pump.guard = none) :
    s.evaluate.staging.startWish = .notHeld := by
  refine (s.evaluate_acts hended hphase).startWish_ready s.told_ageStarts (fun hne hne' => ?_) hready hguard
  rw [s.told_considered.startWish, State.startWishNow, Pump.mayWish, decide_eq_false hne, decide_eq_false hne']
  rfl

theorem State.evaluate_floatMode : s.evaluate.staging.floatMode = s.told.staging.floatMode := by
  rw [(State.evaluate_moved hended hphase).staging]

end Evaluation

theorem State.evaluate_isolated (s : State) : s.evaluate.isolated = s.isolated := by simp [State.isolated]

theorem State.finish_isolated (s : State) : s.finish.isolated = s.isolated := by simp [State.isolated]

/-- A step's end leaves the picture as it is (R26, R177). -/
theorem State.Pictured.finish (h : s.Pictured) : s.finish.Pictured :=
  h.of_moved ((State.Moved.refl s).of_kept (by simp)) (by simp) (by simp) (by simp) (by simp) s.finish_isolated
    fun a => by simp

theorem exec_isolatedStartDelayEnd {dt m : Nat} (h : s.staging.startDelay = .running m) :
    exec (.isolatedStartDelayEnd dt) s =
      .next (((s.reach dt m).onStaging fun g => { g with startDelay := .done }).evaluate).finish := by
  show execIsolatedStartDelayEnd dt s = _
  simp only [execIsolatedStartDelayEnd, h]

end Sys2Proof.Machine

section

open Sys2Proof Sys2Proof.Machine

/-- Settles O32: the evaluation that ISOLATED_START_DELAY_END makes, its delay DONE. -/
theorem isolatedStartDelayEnds : Obligations.IsolatedStartDelayEnds := by
  unfold Obligations.IsolatedStartDelayEnds
  intro s dt m hdelay
  obtain ⟨u, hu⟩ : ∃ u, u = (s.reach dt m).onStaging fun g => { g with startDelay := .done } := ⟨_, rfl⟩
  have hexec : exec (.isolatedStartDelayEnd dt) s = .next u.evaluate.finish := by
    rw [hu]; exact exec_isolatedStartDelayEnd hdelay
  have hended' : u.ended ↔ s.ended := by rw [hu]; exact .rfl
  refine ⟨fun hended => ⟨_, hexec, ?_⟩, fun hended halone hsound => ⟨_, hexec, ?_⟩⟩
  · rw [State.evaluate, if_neg (hended'.not.mpr hended), hu]
    exact State.finish_selects _
  · have hended := hended'.mpr hended
    have hphase : u.pump.claimPhase.isSome = decide (u.pump.state = .claiming) := by rw [hu]; exact hsound.1
    have halone' : u.isolated = true := by rw [hu]; exact halone
    have hdone : u.staging.startDelay = .done := by rw [hu]; rfl
    have hdelay' := State.evaluate_startDelay hended hphase halone' hdone
    have hpictured := (State.evaluate_pictured hended hphase).finish
    have hcondition : u.evaluate.finish.delayCondition = u.evaluate.delayCondition :=
      State.delayCondition_congr (by simp) (by simp) (by simp) (by simp)
    refine ⟨?_, ?_, ?_, hpictured.houseLevel, hpictured.levelSource, hpictured.floatMode, hpictured.d, hpictured.dAuto,
      ?_, ?_, ?_, ?_, ?_, ?_, ?_⟩
    · simp [State.SameBut, hu]
    · rw [State.finish_isolated, State.evaluate_isolated, halone']
    · rw [hcondition]; simpa using hdelay'
    · intro hready hguard hstart hfitted hselector hminOff hblinded hhealthy hhold hstarts hlevel
      simp only [State.finish_keeps] at hstart hlevel hstarts ⊢
      rw [State.evaluate_floatMode hended hphase] at hlevel
      simp only [State.evaluate_keeps] at hstarts ⊢
      obtain ⟨hpump, hgeneral, hscreen, hsupply, hfloats, hbay, hsettings⟩ : u.pump = s.pump ∧ u.general = s.general ∧
          u.screen.blinded = s.screen.blinded ∧ u.supply = s.supply ∧ u.floats = s.floats ∧ u.bayLevel = s.bayLevel ∧
          u.settings = s.settings := by rw [hu]; exact ⟨rfl, rfl, rfl, rfl, rfl, rfl, rfl⟩
      have hconditions : u.told.startConditions = true := by
        refine State.told_startConditions ?_ ?_ ?_ ?_ ?_ ?_ ?_ ?_
        all_goals simpa only [hpump, hgeneral, hscreen, hsupply, hfloats, hbay, hsettings]
      obtain ⟨hnewest, habsent, hpresent⟩ :=
        State.evaluate_starts hended hphase halone' (hpump ▸ hready) (hpump ▸ hguard) hstart hconditions
      rw [hpump] at habsent hpresent
      refine ⟨hnewest, fun h => ⟨habsent h, ?_⟩, fun h => ⟨(hpresent h).1, (hpresent h).2, ?_⟩⟩
      · simp [State.contactor, Pump.closed, habsent h]
      · simp [State.contactor, Pump.closed, (hpresent h).1]
    · simpa using State.evaluate_rests hended hphase
    · simp [hu]
    · simp [hu]
    · simp [hu]
    · intro k hk
      rw [State.alarm_congr (s := u.evaluate) (by simp), State.evaluate_alarm hended hphase hk, hu]
      rfl
    · intro a ha
      have hpeers := (State.Follows.refl (steady := false) u).evaluate.finish.peers a
      rw [hpeers (by rw [hu]; exact ha), hu]
      rfl

end

namespace Sys2Proof.Machine

variable {s t u y x : State}

/-! ### The median (R50) -/

theorem median_eq_none_iff (l : List Nat) : median l = none ↔ l = [] := by
  rw [median, ascending, List.getElem?_eq_none_iff, List.length_insertionSort, ← List.length_eq_zero_iff]
  omega

/-- What none from a place on satisfies is counted before it. -/
theorem countP_le_of_drop {l : List Nat} {p : Nat → Bool} {k : Nat} (h : ∀ y ∈ l.drop k, ¬ p y) : l.countP p ≤ k := by
  rw [← List.take_append_drop k l, List.countP_append, List.countP_eq_zero.mpr h]
  exact List.countP_le_length.trans (List.length_take_le k l)

/-- What none up to a place satisfies is counted after it. -/
theorem countP_le_of_take {l : List Nat} {p : Nat → Bool} {k : Nat} (h : ∀ y ∈ l.take k, ¬ p y) :
    l.countP p ≤ l.length - k := by
  rw [← List.take_append_drop k l, List.countP_append, List.countP_eq_zero.mpr h, List.take_append_drop, Nat.zero_add,
    ← List.length_drop]
  exact List.countP_le_length

/-- Below the median stand at most half of the values, and above it fewer than half (R50). -/
theorem median_middle {l : List Nat} {x : Nat} (h : median l = some x) :
    2 * l.countP (fun y => decide (y < x)) ≤ l.length ∧ 2 * l.countP (fun y => decide (x < y)) < l.length := by
  obtain ⟨hbound, hx⟩ := List.getElem?_eq_some_iff.mp h
  have hlength : (ascending l).length = l.length := List.length_insertionSort _ _
  have hcount (p : Nat → Bool) : l.countP p = (ascending l).countP p :=
    ((List.perm_insertionSort _ l).countP_eq p).symm
  have hsorted : (ascending l).Pairwise (· ≤ ·) := List.pairwise_insertionSort _ l
  have hbefore (i j : Nat) (hi : i < (ascending l).length) (hj : j < (ascending l).length) (hij : i ≤ j) :
      (ascending l)[i] ≤ (ascending l)[j] := by
    rcases hij.lt_or_eq with hlt | rfl
    · exact List.pairwise_iff_getElem.mp hsorted i j hi hj hlt
    · exact le_rfl
  have hbelow : (ascending l).countP (fun y => decide (y < x)) ≤ l.length / 2 := by
    refine countP_le_of_drop fun y hy => ?_
    obtain ⟨i, hi, rfl⟩ := List.mem_drop_iff_getElem.mp hy
    simpa [← hx] using hbefore _ _ hbound _ (by omega)
  have habove : (ascending l).countP (fun y => decide (x < y)) ≤ (ascending l).length - (l.length / 2 + 1) := by
    refine countP_le_of_take fun y hy => ?_
    obtain ⟨i, hi, rfl⟩ := List.mem_take_iff_getElem.mp hy
    simpa [← hx] using hbefore i _ (by omega) hbound (by omega)
  rw [hcount, hcount]
  omega

/-- There is no house level exactly while no FRESH entry has a level (R50). -/
theorem State.houseLevelNow_eq_none_iff (s : State) :
    s.houseLevelNow = none ↔ ∀ a, (s.peers.get a).presence = .fresh → (s.peers.get a).level = none := by
  rw [State.houseLevelNow, median_eq_none_iff, List.filterMap_eq_nil_iff]
  simp [State.freshAddresses, mem_twelvePlaces]

/-! ### Stages, demand (R53, R57, R58) -/

/-- A latch is set from its applied start level on, cleared down to its applied stop level, and stands between them
(R53). -/
theorem latchAfter_cases (level start stop : Nat) (before : Bool) :
    (start ≤ level → latchAfter level start stop before = true) ∧
    (level ≤ stop → level < start → latchAfter level start stop before = false) ∧
    (stop < level → level < start → latchAfter level start stop before = before) := by
  refine ⟨fun hstart => ?_, fun hstop hstart => ?_, fun hstop hstart => ?_⟩ <;> cases before <;>
    simp [latchAfter] <;> omega

theorem State.latchesNow_of_none (h : s.staging.levelSource = none) : s.latchesNow = s.staging.latches := by
  simp [State.latchesNow, h]

theorem State.latchesNow_get {l i start stop : Nat} {c : StageSettings} (h : s.staging.levelSource = some l)
    (hc : s.settings.stages = some c) (hi : c.levels[i]? = some (start, stop)) :
    s.latchesNow[i]? = some (latchAfter l (applied s.floor s.staging.drawdownOffset start)
      (applied s.floor s.staging.drawdownOffset stop) (s.staging.latches.getD i false)) := by
  simp [State.latchesNow, h, State.stageLevels, hc, hi]

theorem State.latchesNow_length {l : Nat} {c : StageSettings} (h : s.staging.levelSource = some l)
    (hc : s.settings.stages = some c) : s.latchesNow.length = c.levels.length := by
  simp [State.latchesNow, h, State.stageLevels, hc]

theorem Twelve.any_toList (t : Twelve Bool) : t.toList.any id = true ↔ ∃ a, t.get a = true := by
  constructor
  · intro h
    simp only [Twelve.toList, List.any_cons, List.any_nil, Bool.or_false, Bool.or_eq_true, id] at h
    rcases h with h | h | h | h | h | h | h | h | h | h | h | h
    exacts [⟨0, h⟩, ⟨1, h⟩, ⟨2, h⟩, ⟨3, h⟩, ⟨4, h⟩, ⟨5, h⟩, ⟨6, h⟩, ⟨7, h⟩, ⟨8, h⟩, ⟨9, h⟩, ⟨10, h⟩, ⟨11, h⟩]
  · rintro ⟨a, h⟩
    fin_cases a <;> simp_all [Twelve.toList, Twelve.get]

/-- The grounds of all-out (R57). -/
theorem State.allOut_iff (s : State) : s.allOut = true ↔
    (∃ a, (s.peers.get a).presence = .fresh ∧ (s.peers.get a).spillOpen = true) ∨
    (∃ a, s.staging.noticeMarks.get a = true) ∨
    (s.startUp.address = none ∧ s.weir.spill.isOpen = true) ∨ s.floats.high.presented = .closed := by
  simp only [State.allOut, Bool.or_eq_true, Bool.and_eq_true, Twelve.any_toList, decide_eq_true_eq, or_assoc]
  simp [State.freshAddresses, mem_twelvePlaces]

/-! ### The picture from the tables as they stood (R50 to R58) -/

theorem State.ageStarts_entries (s v : State) (a : BayAddress) :
    v.withPublished (s.ageStarts.peers.get a) = v.withPublished (s.peers.get a) := by
  unfold State.ageStarts
  dsimp only
  split
  · rfl
  · obtain ⟨_, _, _, _, _, hpeers, _⟩ := State.handOver_keeps
      ((s.onPump (Pump.aged s.startUp.runClock)).onStaging fun g => { g with limitHeld := false }).formAvailable [] .a6
    rw [hpeers]
    exact (State.Moved.refl _).formAvailable.entries v a

/-- An evaluation leaves an entry but for its published fields before it tells the Pump Sequencer (R45). -/
theorem State.told_entries (s v : State) (a : BayAddress) :
    v.withPublished (s.told.peers.get a) = v.withPublished (s.peers.get a) := by
  obtain ⟨w, hw⟩ : ∃ w, w = s.ageStarts.formHouseLevel.formLevelSource.formFloatMode := ⟨_, rfl⟩
  have hpeers : w.peers = s.ageStarts.peers := by rw [hw]; rfl
  have htold : s.told.peers = w.formAvailable.peers := by rw [hw]; simp [State.surveyed]
  rw [htold, (State.Moved.refl w).formAvailable.entries v a, hpeers, s.ageStarts_entries v a]

theorem State.told_entry (s : State) (a : BayAddress) :
    (s.told.peers.get a).presence = (s.peers.get a).presence ∧ (s.told.peers.get a).level = (s.peers.get a).level :=
  State.entry_of_withPublished (s.told_entries s a)

theorem State.told_houseLevel (s : State) : s.told.staging.houseLevel = s.houseLevelNow :=
  s.told_considered.houseLevel.trans
    (State.houseLevelNow_congr (fun a => (s.told_entry a).1) fun a => (s.told_entry a).2)

theorem State.told_levelSource (s : State) : s.told.staging.levelSource =
    if s.startUp.address = none then none else if s.isolated then s.bayLevel else s.told.staging.houseLevel := by
  rw [s.told_considered.levelSource, State.levelSourceNow, s.told_isolated, State.bayLevel, State.bayLevel]
  simp

theorem State.told_floatMode (s : State) : s.told.staging.floatMode = true ↔
    s.startUp.address = none ∨ s.settings.stages = none ∨ s.settings.levels = none ∨
      s.told.staging.levelSource = none := by
  have hsettings : s.told.settings = s.settings := by simp [State.settings]
  rw [s.told_considered.floatMode, State.floatModeNow, hsettings]
  simp [or_assoc]

/-- The latches from the level source and those that stood before (R53). -/
theorem State.told_latches (s : State) :
    (s.told.staging.levelSource = none → s.told.staging.latches = s.staging.latches) ∧
    ∀ l c, s.told.staging.levelSource = some l → s.settings.stages = some c →
      s.told.staging.latches.length = c.levels.length ∧
      ∀ (i start stop : Nat), c.levels[i]? = some (start, stop) → s.told.staging.latches[i]? = some (latchAfter l
        (applied (s.cutOut + 300) s.staging.drawdownOffset start)
        (applied (s.cutOut + 300) s.staging.drawdownOffset stop) (s.staging.latches.getD i false)) := by
  obtain ⟨_, hstaging⟩ := s.told_staging
  obtain ⟨_, _, _, _, _, hsurveyed⟩ := s.surveyed_staging
  have hformed : s.told.staging.latches = s.surveyed.latchesNow := by rw [hstaging]
  have hsource : s.told.staging.levelSource = s.surveyed.staging.levelSource := by rw [hstaging]
  have hsettings : s.surveyed.settings = s.settings := by simp [State.settings]
  have hfloor : s.surveyed.floor = s.cutOut + 300 := by rw [State.floor, State.cutOut, State.cutOut, hsettings]
  have hlatches : s.surveyed.staging.latches = s.staging.latches := by rw [hsurveyed]
  have hoffset : s.surveyed.staging.drawdownOffset = s.staging.drawdownOffset := by rw [hsurveyed]
  rw [hformed, hsource, ← hlatches, ← hoffset, ← hfloor, ← hsettings]
  exact ⟨State.latchesNow_of_none, fun l c hl hc => ⟨State.latchesNow_length hl hc, fun i start stop =>
    State.latchesNow_get hl hc⟩⟩

theorem State.told_follows (s : State) : s.Follows false s.told := by
  have hformed : s.Follows false s.ageStarts.formPicture.formWishes.1 :=
    (State.Follows.refl s).ageStarts.formPicture.formWishes
  exact hformed.setWish

section Published

variable (h : ∀ own, s.startUp.address = some own → s.withPublished (s.peers.get own) = s.peers.get own)
include h

theorem State.told_published (a : BayAddress) :
    (s.told.peers.get a).spillOpen = (s.peers.get a).spillOpen ∧
    ((s.told.peers.get a).summary = .hand ↔ (s.peers.get a).summary = .hand) := by
  refine State.entries_of_published h s.told_considered.shown.published ?_ ?_ s.told_follows.peers ?_ a
  · simp
  · simp
  · rw [s.told_pump]; exact .rfl

/-- D from the own entry as it was published (R57). -/
theorem State.told_d : s.told.staging.d =
    if (∃ a, (s.peers.get a).presence = .fresh ∧ (s.peers.get a).spillOpen = true) ∨
        (∃ a, s.staging.noticeMarks.get a = true) ∨
        (s.startUp.address = none ∧ s.weir.spill.isOpen = true) ∨ s.floats.high.presented = .closed
    then 12 else s.told.staging.latches.count true := by
  rw [s.told_considered.d, State.dNow]
  refine if_congr ?_ rfl rfl
  obtain ⟨_, hstartUp, _, hfloats, _, _, hweir, _⟩ := s.told_keeps
  rw [State.allOut_iff, s.told_fields.1, hstartUp, hfloats, hweir]
  simp only [s.told_entry, State.told_published h]

/-- D_auto from the own entry as it was published (R58). -/
theorem State.told_dAuto : s.told.staging.dAuto = s.told.staging.d - (twelvePlaces.filter fun a =>
    decide ((s.peers.get a).presence = .fresh) && decide ((s.peers.get a).summary = .hand)).length := by
  have hcount : s.told.handCount = (twelvePlaces.filter fun a =>
      decide ((s.peers.get a).presence = .fresh) && decide ((s.peers.get a).summary = .hand)).length := by
    rw [State.handCount, State.freshAddresses, List.filter_filter]
    refine congrArg List.length (List.filter_congr fun a _ => ?_)
    rw [(s.told_entry a).1, Bool.and_comm, decide_eq_decide.mpr (State.told_published h a).2]
  rw [s.told_considered.dAuto, State.dAutoNow, hcount]

end Published

/-- A pump that is neither READY, CLAIMING nor RUNNING does nothing with the wishes (R76, R79, R82, R89). -/
theorem State.ActsAs.eq_of_out (h : y.ActsAs x) (hout : y.pump.state = .out) : x = y := by
  cases h <;> simp_all

/-! ### The evaluation of a station in OUT (R49, R72) -/

/-- Time ages an entry and leaves what it shows (R43). -/
theorem State.elapse_entry (s : State) (d : Nat) (a : BayAddress) :
    ((s.elapse d).peers.get a).presence = (s.peers.get a).presence ∧
    ((s.elapse d).peers.get a).level = (s.peers.get a).level ∧
    ((s.elapse d).peers.get a).spillOpen = (s.peers.get a).spillOpen ∧
    ((s.elapse d).peers.get a).summary = (s.peers.get a).summary := by
  simp only [State.elapse, Twelve.get_form]
  split <;> exact ⟨rfl, rfl, rfl, rfl⟩

/-- The own entry does not age, and shows the station as before (R43, R45). -/
theorem State.elapse_published {d : Nat}
    (h : ∀ own, s.startUp.address = some own → s.withPublished (s.peers.get own) = s.peers.get own) (own : BayAddress)
    (hown : s.startUp.address = some own) :
    (s.elapse d).withPublished ((s.elapse d).peers.get own) = (s.elapse d).peers.get own := by
  have hentry : (s.elapse d).peers.get own = s.peers.get own := by simp [State.elapse, hown]
  rw [hentry]
  exact h own hown

/-- An evaluation of a station in OUT forms the picture and the wishes, and no wish acts (R62, R63). -/
theorem State.evaluate_of_out (hended : s.ended) (hphase : s.pump.claimPhase.isSome = decide (s.pump.state = .claiming))
    (hout : s.pump.state = .out) : s.evaluate = s.told :=
  (s.evaluate_acts hended hphase).eq_of_out (by rw [s.told_pump]; exact hout)

/-- Outside READY and CLAIMING an evaluation holds no start wish (R62). -/
theorem State.told_notHeld (h : s.pump.mayWish = false) : s.told.staging.startWish = .notHeld := by
  have hmay : s.told.pump.mayWish = false := by rw [s.told_pump]; exact h
  rw [s.told_considered.startWish, State.startWishNow, hmay]
  rfl

/-- The picture in `t`, formed from the tables and the settings of `s` (R50 to R53, R57, R58). -/
def State.ShowsPicture (s t : State) : Prop :=
  (t.staging.houseLevel = none ↔ ∀ a, (s.peers.get a).presence = .fresh → (s.peers.get a).level = none) ∧
  (∀ x, t.staging.houseLevel = some x →
    let levels := (twelvePlaces.filter fun a => decide ((s.peers.get a).presence = .fresh)).filterMap
      fun a => (s.peers.get a).level
    x ∈ levels ∧ 2 * levels.countP (fun y => decide (y < x)) ≤ levels.length ∧
      2 * levels.countP (fun y => decide (x < y)) < levels.length) ∧
  t.staging.levelSource = (if s.startUp.address = none then none
    else if s.isolated then s.bayLevel else t.staging.houseLevel) ∧
  (t.staging.floatMode = true ↔ s.startUp.address = none ∨ s.settings.stages = none ∨ s.settings.levels = none ∨
    t.staging.levelSource = none) ∧
  (t.staging.levelSource = none → t.staging.latches = s.staging.latches) ∧
  (∀ l c, t.staging.levelSource = some l → s.settings.stages = some c →
    t.staging.latches.length = c.levels.length ∧
    ∀ i start stop, c.levels[i]? = some (start, stop) →
      let floor := s.cutOut + 300
      let start' := max floor (start - s.staging.drawdownOffset)
      let stop' := max floor (stop - s.staging.drawdownOffset)
      (start' ≤ l → t.staging.latches[i]? = some true) ∧
      (l ≤ stop' → l < start' → t.staging.latches[i]? = some false) ∧
      (stop' < l → l < start' → t.staging.latches[i]? = some (s.staging.latches.getD i false))) ∧
  t.staging.d = (if (∃ a, (s.peers.get a).presence = .fresh ∧ (s.peers.get a).spillOpen = true) ∨
      (∃ a, s.staging.noticeMarks.get a = true) ∨
      (s.startUp.address = none ∧ s.weir.spill.isOpen = true) ∨ s.floats.high.presented = .closed
    then 12 else t.staging.latches.count true) ∧
  t.staging.dAuto = t.staging.d - (twelvePlaces.filter fun a =>
    decide ((s.peers.get a).presence = .fresh) && decide ((s.peers.get a).summary = .hand)).length

theorem State.told_showsPicture
    (h : ∀ own, s.startUp.address = some own → s.withPublished (s.peers.get own) = s.peers.get own) :
    s.ShowsPicture s.told := by
  refine ⟨?_, fun x hx => ?_, s.told_levelSource, s.told_floatMode, s.told_latches.1, fun l c hl hc => ?_,
    State.told_d h, State.told_dAuto h⟩
  · rw [s.told_houseLevel]; exact s.houseLevelNow_eq_none_iff
  · rw [s.told_houseLevel] at hx
    exact ⟨mem_of_median hx, median_middle hx⟩
  · obtain ⟨hlength, hget⟩ := s.told_latches.2 l c hl hc
    refine ⟨hlength, fun i start stop hi => ?_⟩
    obtain ⟨hset, hclear, hstand⟩ := latchAfter_cases l (applied (s.cutOut + 300) s.staging.drawdownOffset start)
      (applied (s.cutOut + 300) s.staging.drawdownOffset stop) (s.staging.latches.getD i false)
    rw [hget i start stop hi]
    exact ⟨fun h => congrArg some (hset h), fun h h' => congrArg some (hclear h h'),
      fun h h' => congrArg some (hstand h h')⟩

/-- Time and the start delay are no part of what the picture is formed from. -/
theorem State.ShowsPicture.of_elapse {d : Nat} {x : StartDelay}
    (h : ((s.elapse d).onStaging fun g => { g with startDelay := x }).ShowsPicture t) : s.ShowsPicture t := by
  have hentry (a : BayAddress) := s.elapse_entry d a
  simp only [State.ShowsPicture, State.onStaging_peers, hentry] at h ⊢
  exact h

/-! ### The wishes as they read when they have been acted on (R60 to R67) -/

theorem Twelve.eq_of_get {α : Type} {t u : Twelve α} (h : ∀ a, t.get a = u.get a) : t = u := by
  cases t; cases u
  congr
  exacts [h 0, h 1, h 2, h 3, h 4, h 5, h 6, h 7, h 8, h 9, h 10, h 11]

/-- Where the pump state stands, what is published stands, and with it the tables (R45). -/
theorem State.Moved.peers_eq (hmoved : y.Moved x) (hy : y.Shown) (hx : x.Shown) (h : y.SameConditions x)
    (hstate : x.pump.state = y.pump.state) (hweir : x.weir = y.weir)
    (hpeers : ∀ a, y.startUp.address ≠ some a → x.peers.get a = y.peers.get a) : x.peers = y.peers := by
  have havailable : x.staging.available = y.staging.available := by
    rw [hx.available, hy.available, State.isAvailable, State.isAvailable, h.start, hstate]
  have hpublish := State.withPublished_congr h hstate havailable hweir
  refine Twelve.eq_of_get fun a => ?_
  by_cases hown : y.startUp.address = some a
  · have hshown := hx.published a (h.startUp ▸ hown)
    rw [← hshown, hpublish, hmoved.entries, hy.published a hown]
  · exact hpeers a hown

/-- `t` carries what the station `y` held as it was told of the wishes: the demand and the rank, while the pump state
stands the tables too, and the start wish where no start is made of it. -/
structure State.Carries (y t : State) : Prop where
  isolated : t.isolated = y.isolated
  staging : t.staging = { y.staging with available := t.staging.available, startWish := t.staging.startWish }
  steady : t.pump.state = y.pump.state → y.SameConditions t ∧ t.peers = y.peers
  wish : y.pump.state ≠ .running → y.pump.state ≠ .ready ∨ y.isolated = false ∨ y.pump.guard.isSome →
    t.staging.startWish = y.staging.startWish ∧ y.SameConditions t
  notHeld : y.pump.mayWish = false → y.staging.startWish = .notHeld → t.staging.startWish = .notHeld

theorem State.evaluate_carries (hended : s.ended)
    (hphase : s.pump.claimPhase.isSome = decide (s.pump.state = .claiming)) : s.told.Carries s.evaluate := by
  have hacts := s.evaluate_acts hended hphase
  have hmoved := State.evaluate_moved hended hphase
  refine ⟨?_, hmoved.staging, fun hstate => ?_, hacts.wish, hacts.notHeld⟩
  · rw [s.evaluate_isolated, s.told_isolated]
  · have hconditions := hacts.conditions s.told_ageStarts hstate
    exact ⟨hconditions, hmoved.peers_eq s.told_considered.shown (State.evaluate_shown hended hphase) hconditions hstate
      (by simp) hacts.follows.peers⟩

theorem State.Carries.of_kept (h : y.Carries x) (hstaging : t.staging = x.staging) (hpeers : t.peers = x.peers)
    (hpump : t.pump = x.pump) (halone : t.isolated = x.isolated) (hconditions : x.SameConditions t) : y.Carries t where
  isolated := halone.trans h.isolated
  staging := by rw [hstaging]; exact h.staging
  steady hstate := by
    obtain ⟨hsame, htables⟩ := h.steady (hpump ▸ hstate)
    exact ⟨hsame.trans hconditions, hpeers.trans htables⟩
  wish hrunning hstart := by
    obtain ⟨hwish, hsame⟩ := h.wish hrunning hstart
    exact ⟨by rw [hstaging, hwish], hsame.trans hconditions⟩
  notHeld hmay hwish := by rw [hstaging]; exact h.notHeld hmay hwish

theorem within_iff (rank : Option Nat) (d : Nat) : within rank d = true ↔ ∃ r, rank = some r ∧ r < d := by
  cases rank <;> simp [within]

/-- The demand that a start wish asks for, by the rule in force (R62, R66, R67). -/
theorem State.wanted_iff (s : State) (rank : Option Nat) : s.wanted rank = true ↔
    if s.isolated then s.staging.startDelay = .done
    else if s.staging.floatMode then s.floats.start.presented = .closed
    else ∃ r, rank = some r ∧ r < s.staging.dAuto := by
  unfold State.wanted
  (repeat' split) <;> simp [within_iff]

/-- The stop wish in RUNNING, by the rule in force (R63, R66, R67). -/
theorem State.stopWishNow_iff (hstate : s.pump.state = .running) : s.stopWishNow = true ↔
    if s.staging.floatMode then s.floats.stop.presented ≠ .closed
    else if s.isolated then ∃ own, s.startUp.address = some own ∧ s.staging.d < own.number
    else ∃ r, s.staging.rank = some r ∧ s.staging.dAuto ≤ r := by
  simp only [State.stopWishNow, hstate, decide_true, Bool.true_and, State.demandReaches]
  split
  · simp
  split
  · cases s.startUp.address <;> simp
  · cases s.staging.rank <;> simp

/-- The start wish in READY and CLAIMING, of the kind that isolation gives (R62, R66). -/
theorem State.startWishNow_iff (hmay : s.pump.mayWish = true) :
    (s.isolated = false → s.startWishNow ≠ .unclaimed ∧
      (s.startWishNow = .claimed ↔ s.startConditions = true ∧ s.wanted s.staging.rank = true)) ∧
    (s.isolated = true → s.startWishNow ≠ .claimed ∧
      (s.startWishNow = .unclaimed ↔ s.startConditions = true ∧ s.wanted s.staging.rank = true)) := by
  rw [State.startWishNow, hmay]
  constructor <;> intro halone <;> rw [halone] <;> cases s.startConditions <;> cases s.wanted s.staging.rank <;> simp

/-- The demand for a rank, the rule by the station before and the values by the one after (R62, R66, R67). -/
def State.asksFor (s t : State) (rank : Option Nat) : Prop :=
  if s.isolated then t.staging.startDelay = .done
  else if t.staging.floatMode then s.floats.start.presented = .closed
  else ∃ r, rank = some r ∧ r < t.staging.dAuto

/-- What a station that was told of the wishes with its pump as in `s` shows of them: the last statement of O50, for one
command's state before and after. -/
def State.ShowsWishes (s t : State) : Prop :=
  (t.pump.state = s.pump.state → t.staging.rank = t.rankNow) ∧
  (s.pump.state ≠ .running → t.staging.stopWish = false) ∧
  (s.pump.state = .running → (t.staging.stopWish = true ↔
    if t.staging.floatMode then s.floats.stop.presented ≠ .closed
    else if s.isolated then ∃ own, s.startUp.address = some own ∧ t.staging.d < own.number
    else ∃ r, t.staging.rank = some r ∧ t.staging.dAuto ≤ r)) ∧
  (s.pump.state ≠ .ready → s.pump.state ≠ .claiming → t.staging.startWish = .notHeld) ∧
  (s.isolated = false → s.pump.state = .ready ∨ s.pump.state = .claiming →
    t.staging.startWish ≠ .unclaimed ∧
    (t.staging.startWish = .claimed ↔ t.startConditions = true ∧ s.asksFor t t.staging.rank)) ∧
  (s.isolated = true → s.pump.state = .ready → s.pump.guard.isSome →
    t.staging.startWish ≠ .claimed ∧
    (t.staging.startWish = .unclaimed ↔ t.startConditions = true ∧ s.asksFor t t.staging.rank)) ∧
  (t.pump.state = s.pump.state → (t.staging.limitHeld = true ↔
    s.pump.state = .ready ∧ t.startLimited = true ∧ t.otherStartConditions = true ∧
      s.asksFor t t.rankIfAvailable))

theorem State.Carries.showsWishes (h : y.Carries t) (hy : y.Considered) : y.ShowsWishes t := by
  have hrank : t.staging.rank = y.staging.rank := by rw [h.staging]
  have hstop : t.staging.stopWish = y.stopWishNow := by rw [h.staging, ← hy.stopWish]
  have hwanted (rank : Option Nat) : y.wanted rank = true ↔ y.asksFor t rank := by
    rw [State.asksFor, h.staging]; exact y.wanted_iff rank
  have hranks (hstate : t.pump.state = y.pump.state) :
      t.rankNow = y.rankNow ∧ t.rankIfAvailable = y.rankIfAvailable := by
    obtain ⟨hconditions, hpeers⟩ := h.steady hstate
    exact State.rankNow_congr hconditions.startUp hpeers (by rw [h.staging])
  have hmay (hstate : y.pump.state = .ready ∨ y.pump.state = .claiming) : y.pump.mayWish = true := by
    simpa [Pump.mayWish] using hstate
  refine ⟨fun hstate => ?_, fun hrunning => ?_, fun hrunning => ?_, fun hready hclaiming => ?_,
    fun halone hstate => ?_, fun halone hstate hguard => ?_, fun hstate => ?_⟩
  · rw [hrank, hy.rank, (hranks hstate).1]
  · rw [hstop, State.stopWishNow, decide_eq_false hrunning, Bool.false_and]
  · rw [hstop, h.staging]
    exact State.stopWishNow_iff hrunning
  · have hnot : y.pump.mayWish = false := by simp [Pump.mayWish, hready, hclaiming]
    exact h.notHeld hnot (by rw [hy.startWish, State.startWishNow, hnot]; rfl)
  · obtain ⟨hwish, hconditions⟩ := h.wish (by rcases hstate with e | e <;> simp [e]) (.inr (.inl halone))
    rw [hwish, hconditions.start, hrank, ← hwanted, hy.startWish]
    exact (State.startWishNow_iff (hmay hstate)).1 halone
  · obtain ⟨hwish, hconditions⟩ := h.wish (by simp [hstate]) (.inr (.inr hguard))
    rw [hwish, hconditions.start, hrank, ← hwanted, hy.startWish]
    exact (State.startWishNow_iff (hmay (.inl hstate))).2 halone
  · obtain ⟨hconditions, hpeers⟩ := h.steady hstate
    have hlimit : t.staging.limitHeld = y.limitHeldNow := by rw [h.staging, ← hy.limitHeld]
    rw [hlimit, State.startLimited_congr hconditions.startUp hconditions.starts, hconditions.other, (hranks hstate).2,
      ← hwanted, State.limitHeldNow]
    simp [and_assoc]

theorem State.ShowsWishes.congr (h : y.ShowsWishes t) (hstate : y.pump.state = s.pump.state)
    (hguard : y.pump.guard = s.pump.guard) (halone : y.isolated = s.isolated) (hfloats : y.floats = s.floats)
    (haddress : y.startUp.address = s.startUp.address) : s.ShowsWishes t := by
  simpa only [State.ShowsWishes, State.asksFor, hstate, hguard, halone, hfloats, haddress] using h

/-- A command that makes an evaluation and leaves what it formed shows the wishes (R60 to R67). -/
theorem State.evaluate_showsWishes (hended : s.ended)
    (hphase : s.pump.claimPhase.isSome = decide (s.pump.state = .claiming)) (hstaging : t.staging = s.evaluate.staging)
    (hpeers : t.peers = s.evaluate.peers) (hpump : t.pump = s.evaluate.pump) (halone : t.isolated = s.evaluate.isolated)
    (hconditions : s.evaluate.SameConditions t) : s.ShowsWishes t := by
  have hcarries := (State.evaluate_carries hended hphase).of_kept hstaging hpeers hpump halone hconditions
  refine (hcarries.showsWishes s.told_considered).congr ?_ ?_ s.told_isolated ?_ ?_
  · rw [s.told_pump]; rfl
  · rw [s.told_pump]; rfl
  · simp
  · simp

/-! ### A completion with the weir function off (R49, R90, R140) -/

/-- Above the cut-out level the bay cut-out does nothing, and a completion makes one evaluation (R90). -/
theorem State.evaluateWithCutOut_above (h : s.atCutOut s.bayLevel = false) :
    ∃ z, (z = s ∨ z = s.drawn) ∧ s.evaluateWithCutOut = z.evaluate := by
  have hcut (v : State) (hstartUp : v.startUp = s.startUp) (hprobes : v.probes = s.probes) : v.bayCutOut = v := by
    have hdue : v.bayCutOutDue = false := by
      rw [State.bayCutOutDue, (State.atCutOut_congr hstartUp hprobes).1, h, Bool.and_false]
    rw [State.bayCutOut, hdue]; rfl
  rcases eitherOrder_cases s State.bayCutOut State.evaluate with e | e | e
  · exact ⟨s, .inl rfl, by rw [State.evaluateWithCutOut, e, hcut s rfl rfl]⟩
  · exact ⟨s.drawn, .inr rfl, by rw [State.evaluateWithCutOut, e, hcut s.drawn rfl rfl]⟩
  · exact ⟨s.drawn, .inr rfl, by rw [State.evaluateWithCutOut, e, hcut _ (by simp) (by simp)]⟩

theorem State.completionTaken_isolated (s : State) : s.completionTaken.isolated = s.isolated := by
  simp [State.isolated, State.completionTaken]

theorem State.completion_of_off (hended : s.ended) (hoff : s.weir.on = false) :
    s.completion = s.completionTaken.evaluateWithCutOut.handOver s.completionSnapshots .a9 := by
  have hended' : s.completionTaken.ended := by simpa [State.ended] using hended
  rw [State.completion, State.decideIfEnded, if_pos hended', State.decideAtCompletion, if_neg (by simp [hoff])]

theorem State.evaluateWithCutOut_isolated (s : State) : s.evaluateWithCutOut.isolated = s.isolated := by
  rcases eitherOrder_cases s State.bayCutOut State.evaluate with e | e | e <;>
    simp [State.evaluateWithCutOut, e, State.isolated]

theorem State.completion_isolated (hended : s.ended) (hoff : s.weir.on = false) :
    s.completion.isolated = s.isolated := by
  rw [State.completion_of_off hended hoff, ← s.completionTaken_isolated,
    ← s.completionTaken.evaluateWithCutOut_isolated]
  simp [State.isolated]

/-- The wishes after a completion that finds the bay level above the cut-out level (R49, R60 to R67). -/
theorem State.completion_showsWishes (hended : s.ended)
    (hphase : s.pump.claimPhase.isSome = decide (s.pump.state = .claiming)) (hoff : s.weir.on = false)
    (hlevel : s.completion.finish.atCutOut s.completion.finish.bayLevel = false) :
    s.ShowsWishes s.completion.finish := by
  have hcompletion := s.completion_of_off hended hoff
  have hcut : s.completionTaken.atCutOut s.completionTaken.bayLevel = false := by
    rw [← hlevel, hcompletion]
    exact (State.atCutOut_congr (by simp) (by simp)).1.symm
  obtain ⟨z, hz, hevaluate⟩ := State.evaluateWithCutOut_above hcut
  have hpump : z.pump = s.pump := by rcases hz with rfl | rfl <;> simp
  have hkept : z.startUp = s.startUp ∧ z.floats = s.floats ∧ z.isolated = s.isolated := by
    rw [← s.completionTaken_isolated]
    rcases hz with rfl | rfl <;> simp [State.isolated]
  obtain ⟨hstartUp, hfloats, halone⟩ := hkept
  have hended' : z.ended := by rw [State.ended, hstartUp]; exact hended
  rw [hcompletion, hevaluate]
  refine State.ShowsWishes.congr (y := z) (State.evaluate_showsWishes hended' (by rw [hpump]; exact hphase)
    ?_ ?_ ?_ ?_ ?_) (by rw [hpump]) (by rw [hpump]) halone hfloats (by rw [hstartUp])
  · simp
  · simp
  · simp
  · simp [State.isolated]
  · constructor <;> simp

end Sys2Proof.Machine

section

open Sys2Proof Sys2Proof.Machine

/-- Settles O50: the picture and the wishes of an evaluation, at ISOLATED_START_DELAY_END and at a completion. -/
theorem evaluationFormsThePicture : Obligations.EvaluationFormsThePicture := by
  unfold Obligations.EvaluationFormsThePicture
  refine ⟨?_, ?_⟩
  · intro s dt m hended hdelay hsound hout hpublished
    obtain ⟨u, hu⟩ : ∃ u, u = (s.elapse (max dt (m - s.now))).onStaging fun g => { g with startDelay := .done } :=
      ⟨_, rfl⟩
    have hexec : exec (.isolatedStartDelayEnd dt) s = .next u.evaluate.finish := by
      rw [hu]; exact exec_isolatedStartDelayEnd hdelay
    have hpump : u.pump = s.pump := by rw [hu]; rfl
    have htold : u.evaluate = u.told :=
      State.evaluate_of_out (by rw [hu]; exact hended) (by rw [hpump]; exact hsound.1) (by rw [hpump]; exact hout)
    have hshows : s.ShowsPicture u.told := by
      have hpicture := State.told_showsPicture (s := u) (by rw [hu]; exact State.elapse_published (hpublished hended))
      rw [hu] at hpicture ⊢
      exact hpicture.of_elapse
    obtain ⟨_, _, _, _, _, hstaging, hpump', _⟩ := u.told.finish_keeps
    rw [htold] at hexec
    refine ⟨_, hexec, by simp [State.SameBut, hu], ?_, ?_, fun k hk => ?_, ?_⟩
    · rw [hpump', u.told_pump, hpump]; rfl
    · rw [hstaging]; exact State.told_notHeld (by simp [hpump, Pump.mayWish, hout])
    · rw [State.alarm_congr (s := u.told) (by simp), State.told_alarm hk, hu]; rfl
    · rw [hstaging]; exact hshows
  · intro s dt m q repeats c hended hsound _ hc
    rcases hc with ⟨rfl, hdelay⟩ | ⟨rfl, hexchange, hqueue, hoff⟩
    · obtain ⟨u, hu⟩ : ∃ u, u = (s.reach dt m).onStaging fun g => { g with startDelay := .done } := ⟨_, rfl⟩
      have hexec : exec (.isolatedStartDelayEnd dt) s = .next u.evaluate.finish := by
        rw [hu]; exact exec_isolatedStartDelayEnd hdelay
      obtain ⟨hended', hphase, hpump, halone, hfloats, haddress⟩ : u.ended ∧
          u.pump.claimPhase.isSome = decide (u.pump.state = .claiming) ∧ u.pump = s.pump ∧ u.isolated = s.isolated ∧
          u.floats = s.floats ∧ u.startUp.address = s.startUp.address := by
        rw [hu]; exact ⟨hended, hsound.1, rfl, rfl, rfl, rfl⟩
      refine ⟨_, hexec, by rw [State.finish_isolated, State.evaluate_isolated, halone], fun _ => ?_⟩
      have hshows : u.ShowsWishes u.evaluate.finish :=
        State.evaluate_showsWishes hended' hphase (by simp) (by simp) (by simp) (State.finish_isolated _)
          (by constructor <;> simp)
      exact hshows.congr (by rw [hpump]) (by rw [hpump]) halone hfloats haddress
    · obtain ⟨_, hexec⟩ := exec_last_read (reply := []) hexchange hqueue (.inl ⟨rfl, rfl, rfl⟩)
      obtain ⟨u, hu⟩ : ∃ u, u = (s.reach dt m).onProbes fun v => v.gathered q .miss := ⟨_, rfl⟩
      obtain ⟨hended', hphase, hoff', hpump, halone, hfloats, haddress⟩ : u.ended ∧
          u.pump.claimPhase.isSome = decide (u.pump.state = .claiming) ∧ u.weir.on = false ∧ u.pump = s.pump ∧
          u.isolated = s.isolated ∧ u.floats = s.floats ∧ u.startUp.address = s.startUp.address := by
        rw [hu]; exact ⟨hended, hsound.1, hoff, rfl, rfl, rfl, rfl⟩
      rw [← hu] at hexec
      refine ⟨_, hexec, by rw [State.finish_isolated, State.completion_isolated hended' hoff', halone],
        fun hlevel => ?_⟩
      have hshows := State.completion_showsWishes hended' hphase hoff' (hlevel rfl)
      exact hshows.congr (by rw [hpump]) (by rw [hpump]) halone hfloats haddress

end

/-! ## The pump's items in their states

Each item and running time of the pump in the states it belongs to (R71, R76, R87 to R92, R110), and STARTUP until the end of
start-up (R73), carried through every operation that touches the pump or the steps of start-up. -/

namespace Sys2Proof.Machine

/-! ### A change of the pump and the items of the state it leads to -/

/-- A pump past start-up holds what its state needs; what else it holds, a change leaves behind (R71). -/
structure Pump.Fit (p : Pump) : Prop where
  claim : p.state = .claiming → p.claimPhase.isSome = true
  window : p.proving = true → p.window.isSome = true
  cause : p.state = .locked → p.lockCause.isSome = true
  hand : p.state = .hand → p.handPhase.isSome = true ∧ p.handClaim.isSome = true
  ended : p.state ≠ .startup

/-- A state that needs none of the items is fit (R71). -/
theorem Pump.Fit.of_state {p : Pump} (h : p.state ∈ [.out, .ready, .running, .stopping, .cooling]) : p.Fit := by
  have hstate : p.state = .out ∨ p.state = .ready ∨ p.state = .running ∨ p.state = .stopping ∨ p.state = .cooling := by
    simpa using h
  rcases hstate with e | e | e | e | e <;> constructor <;> simp [e, Pump.proving]

theorem Pump.Fit.of_claiming {p : Pump} (h : p.state = .claiming) (hphase : p.claimPhase.isSome = true) : p.Fit := by
  constructor <;> simp [h, Pump.proving, hphase]

theorem Pump.Fit.of_proving {p : Pump} (h : p.state = .proving) (hwindow : p.window.isSome = true) : p.Fit := by
  constructor <;> simp [h, hwindow]

theorem Pump.Fit.of_locked {p : Pump} (h : p.state = .locked) (hcause : p.lockCause.isSome = true) : p.Fit := by
  constructor <;> simp [h, Pump.proving, hcause]

theorem Pump.Fit.of_hand {p : Pump} (h : p.state = .hand) (hphase : p.handPhase.isSome = true)
    (hclaim : p.handClaim.isSome = true) (hwindow : p.handPhase = some .window → p.window.isSome = true) : p.Fit := by
  constructor <;> simp [h, Pump.proving, hphase, hclaim]
  exact hwindow

theorem Pump.Sound.fit {p : Pump} (h : p.Sound) (hstate : p.state ≠ .startup) : p.Fit := by
  obtain ⟨hclaim, hwindow, hcause, hphase, hhand, _⟩ := h
  exact ⟨fun e => by simp [hclaim, e], fun e => by simp [hwindow, e], fun e => by simp [hcause, e],
    fun e => by simp [hphase, hhand, e], hstate⟩

theorem keepIf_isSome {α : Type} {b : Bool} {x : Option α} : (keepIf b x).isSome = true → b = true := by
  cases b <;> simp [keepIf]

theorem keepIf_isSome_eq {α : Type} {b : Bool} {x : Option α} (h : b = true → x.isSome = true) :
    (keepIf b x).isSome = b := by
  cases b <;> simp [keepIf, h]

/-- What a change leaves behind is what does not belong to the new state (R71). -/
theorem Pump.Fit.tidied {p : Pump} (h : p.Fit) (now : Nat) (minOff : Option Nat) (old : Pump) :
    (Pump.tidied now minOff old p).Sound := by
  obtain ⟨q, hq⟩ : ∃ q, q = Pump.tidied now minOff old p := ⟨_, rfl⟩
  have hhalted (x : HandPhase) : (decide (p.state = .hand) && decide (q.handPhase = some x)) =
      (decide (p.state = .hand) && decide (p.handPhase = some x)) := by
    rw [hq]; by_cases e : p.state = .hand <;> simp [Pump.tidied, keepIf, e]
  have hstate : q.state = p.state := by rw [hq]; rfl
  have hwatch : q.watch = p.watch := by
    rw [hq]; unfold Pump.watch; cases e : p.state <;> simp [Pump.tidied, keepIf, e]
  have hproving : q.proving = p.proving := by rw [Pump.proving, Pump.proving, hstate, hhalted]
  have hproved : q.proved = p.proved := by rw [Pump.proved, Pump.proved, hstate, hhalted]
  rw [← hq, Pump.Sound, hstate, hwatch, hproving, hproved, hq]
  refine ⟨keepIf_isSome_eq fun e => h.claim (of_decide_eq_true e), keepIf_isSome_eq h.window,
    keepIf_isSome_eq fun e => h.cause (of_decide_eq_true e), keepIf_isSome_eq fun e => (h.hand (of_decide_eq_true e)).1,
    keepIf_isSome_eq fun e => (h.hand (of_decide_eq_true e)).2, fun e => of_decide_eq_true (keepIf_isSome e),
    fun e => of_decide_eq_true (keepIf_isSome e), fun e => of_decide_eq_true (keepIf_isSome e),
    fun e => of_decide_eq_true (keepIf_isSome e), fun e => of_decide_eq_true (keepIf_isSome e),
    fun e => of_decide_eq_true (keepIf_isSome e), keepIf_isSome, keepIf_isSome, fun e hoff => ?_,
    fun e => of_decide_eq_true (keepIf_isSome e), fun _ => h.ended⟩
  simp [Pump.tidied, hoff] at e

/-- Ending a hand claim changes the hand claim alone, and leaves one where there is one (R110). -/
theorem State.endHandClaim_pump (s : State) :
    ∃ c, s.endHandClaim.pump = { s.pump with handClaim := c } ∧ c.isSome = s.pump.handClaim.isSome := by
  unfold State.endHandClaim
  split
  · exact ⟨_, rfl, rfl⟩
  · obtain ⟨t, ht⟩ : ∃ t, t = if s.pump.claimPlaced then s.withdrawClaim else s := ⟨_, rfl⟩
    have hpump : t.pump = s.pump := by rw [ht]; split <;> simp
    rw [← ht, State.onPump_pump, hpump]
    refine ⟨_, rfl, ?_⟩
    split
    · split <;> simp [*]
    · simp [*]
    · rfl

/-- A change of the pump to a fit one leaves each item where it belongs (R71). -/
theorem State.changePump_sound {s : State} {f : Pump → Pump} (h : (f s.pump).Fit) : (s.changePump f).pump.Sound := by
  obtain ⟨c, hc, hsome⟩ := (s.onPump f).endHandClaim_pump
  have hfit : ({ f s.pump with handClaim := c } : Pump).Fit :=
    ⟨h.claim, h.window, h.cause, fun e => ⟨(h.hand e).1, hsome.trans (h.hand e).2⟩, h.ended⟩
  rw [State.changePump, State.onPump_pump, hc]
  exact hfit.tidied _ _ _

/-! ### States that are not STARTUP -/

theorem Pump.not_startup_of_proving {p : Pump} (h : p.proving = true) : p.state ≠ .startup := by
  intro e; simp [Pump.proving, e] at h

theorem Pump.not_startup_of_proved {p : Pump} (h : p.proved = true) : p.state ≠ .startup := by
  intro e; simp [Pump.proved, e] at h

theorem Pump.not_startup_of_watch {p : Pump} (h : p.watch ≠ .off) : p.state ≠ .startup := by
  intro e; simp [Pump.watch, e] at h

theorem Pump.not_startup_of_cutOut {p : Pump} (h : p.cutOutActs = true) : p.state ≠ .startup := by
  intro e; simp [Pump.cutOutActs, e] at h

namespace State.PumpSound

variable {s t : State}

/-- Out of STARTUP, start-up has ended (R73). -/
theorem ended (h : s.PumpSound) (hstate : s.pump.state ≠ .startup) : s.ended := by
  by_contra hnot
  exact hstate (h.2.mpr hnot)

theorem fit (h : s.PumpSound) (hstate : s.pump.state ≠ .startup) : s.pump.Fit := h.1.fit hstate

/-- A claim phase stands in CLAIMING only (R76). -/
theorem claiming (h : s.PumpSound) (hphase : s.pump.claimPhase.isSome = true) : s.pump.state = .claiming :=
  of_decide_eq_true (h.1.1.symm.trans hphase)

/-- A claim that may be lost is one of CLAIMING (R76, R79). -/
theorem claiming_of_mayLoseClaim (h : s.PumpSound) (hlose : s.pump.mayLoseClaim = true) : s.pump.state = .claiming := by
  refine h.claiming ?_
  rcases Bool.or_eq_true_iff.mp hlose with e | e <;> simp [of_decide_eq_true e]

/-- An operation that leaves the pump and the step of start-up as they were. -/
theorem of_kept (h : s.PumpSound) (kept : t.pump = s.pump ∧ t.startUp.step = s.startUp.step) : t.PumpSound := by
  obtain ⟨hpump, hstep⟩ := kept
  rw [State.PumpSound, State.ended, hpump, hstep]
  exact h

theorem ite {c : Prop} [Decidable c] (hs : c → s.PumpSound) (ht : ¬ c → t.PumpSound) :
    (if c then s else t).PumpSound := by
  split
  · exact hs ‹_›
  · exact ht ‹_›

/-- A change of some items of the pump that keeps its state and the rule for those items. -/
theorem onPump {f : Pump → Pump} (h : s.PumpSound) (hf : (f s.pump).Sound) (hstate : (f s.pump).state = s.pump.state) :
    (s.onPump f).PumpSound := by
  refine ⟨hf, ?_⟩
  rw [State.onPump_pump, hstate]
  exact h.2

theorem eitherOrder {f g : State → State} (h : s.PumpSound) (hf : ∀ u : State, u.PumpSound → (f u).PumpSound)
    (hg : ∀ u : State, u.PumpSound → (g u).PumpSound) : (eitherOrder f g s).PumpSound := by
  rcases eitherOrder_cases s f g with e | e | e <;> rw [e]
  · exact hg _ (hf _ h)
  · exact hg _ (hf _ (h.of_kept ⟨rfl, rfl⟩))
  · exact hf _ (hg _ (h.of_kept ⟨rfl, rfl⟩))

theorem handOver {l : List Snapshot} {k : AlarmKind} (h : s.PumpSound) : (s.handOver l k).PumpSound :=
  h.of_kept (by simp)

theorem finish (h : s.PumpSound) : s.finish.PumpSound := h.of_kept (by simp)

theorem count {i : CountId} {n : Nat} (h : s.PumpSound) : (s.count i n).PumpSound := h.of_kept (by simp)

theorem elapse (dt : Nat) (h : s.PumpSound) : (s.elapse dt).PumpSound := h.of_kept ⟨rfl, rfl⟩

theorem reach (dt m : Nat) (h : s.PumpSound) : (s.reach dt m).PumpSound := h.elapse _

/-! ### Pump Sequencer -/

/-- A change after the end of start-up is sound whatever stood before it (R71, R73). -/
theorem of_movePump {f : Pump → Pump} (hended : s.ended) (hf : (f s.pump).Fit) : (s.movePump f).PumpSound := by
  refine ⟨?_, ?_⟩
  · rw [State.movePump_pump]; exact State.changePump_sound hf
  · have hstate : (s.movePump f).pump.state = (f s.pump).state := by simp
    have hended' : (s.movePump f).ended := by rw [State.ended, (s.movePump_keeps f).2.1]; exact hended
    rw [hstate]
    exact iff_of_false hf.ended (not_not_intro hended')

theorem movePump {f : Pump → Pump} (h : s.PumpSound) (hstate : s.pump.state ≠ .startup) (hf : (f s.pump).Fit) :
    (s.movePump f).PumpSound := of_movePump (h.ended hstate) hf

/-- A pump past start-up is locked with its cause (R95). -/
theorem lock {c : LockCause} (h : s.PumpSound) (hstate : s.pump.state ≠ .startup) : (s.lock c).PumpSound := by
  unfold State.lock
  exact ite (fun _ => h) fun _ => h.movePump hstate (.of_locked rfl rfl)

/-- A lockout waits only after start-up, and a claim is resolved in CLAIMING (R79, R92). -/
theorem claimResolved (h : s.PumpSound) : s.claimResolved.PumpSound := by
  unfold State.claimResolved
  refine ite (fun hpending => h.lock ?_) fun _ => ite (fun hclaiming => h.movePump ?_ (.of_state (by simp))) fun _ => h
  · obtain ⟨_, _, _, _, _, _, _, _, _, _, _, _, _, _, _, hlock⟩ := h.1
    exact hlock hpending
  · simp [hclaiming]

theorem withdrawClaim (h : s.PumpSound) : s.withdrawClaim.PumpSound := h.of_kept (by simp)

theorem loseClaim (h : s.PumpSound) (hlose : s.pump.mayLoseClaim = true) : s.loseClaim.PumpSound := by
  have hclaiming := h.claiming_of_mayLoseClaim hlose
  unfold State.loseClaim
  split
  · exact h.withdrawClaim.claimResolved
  · exact h.withdrawClaim.movePump (by simp [hclaiming])
      (.of_claiming (by simpa using hclaiming) rfl)

theorem dropWish (h : s.PumpSound) : s.dropWish.PumpSound := by
  have ht : (s.onStaging fun g => { g with startWish := .notHeld }).PumpSound := h.of_kept ⟨rfl, rfl⟩
  unfold State.dropWish
  exact ite (fun hlose => ht.loseClaim hlose) fun _ => ht

theorem formAvailable (h : s.PumpSound) : s.formAvailable.PumpSound := h.of_kept (by simp)

theorem reformAvailability (h : s.PumpSound) : s.reformAvailability.PumpSound := by
  unfold State.reformAvailability
  exact ite (fun _ => h.formAvailable.dropWish) fun _ => h.formAvailable

theorem setGuard (h : s.PumpSound) : s.setGuard.PumpSound := h.onPump h.1 rfl

theorem beginClaim (h : s.PumpSound) (hstate : s.pump.state ≠ .startup) : s.beginClaim.PumpSound := by
  have hplaced : s.placeClaim.PumpSound := h.of_kept (by simp)
  unfold State.beginClaim
  exact hplaced.movePump (by simpa using hstate) (.of_claiming rfl rfl)

theorem ageStarts (h : s.PumpSound) : s.ageStarts.PumpSound := by
  rw [State.PumpSound, State.ended, State.ageStarts_pump_aged, s.ageStarts_keeps.2.1]
  exact h

theorem addStart (h : s.PumpSound) : s.addStart.PumpSound := h.onPump h.1 rfl

theorem earlyProof (h : s.PumpSound) (hstate : s.pump.state ≠ .startup) : s.earlyProof.PumpSound :=
  h.count.lock (by simpa using hstate)

theorem checkEarlyProof (h : s.PumpSound) : s.checkEarlyProof.PumpSound := by
  unfold State.checkEarlyProof
  exact ite (fun e => h.earlyProof (Pump.not_startup_of_proving (Bool.and_eq_true_iff.mp e).1)) fun _ => h

/-- The start list with the start of now, counted. -/
theorem startListed (h : s.PumpSound) : (s.ageStarts.addStart.count .starts 1).PumpSound := h.ageStarts.addStart.count

theorem startListed_state (s : State) : (s.ageStarts.addStart.count .starts 1).pump.state = s.pump.state := by
  simp [State.addStart, State.ageStarts_pump_aged, Pump.aged]

theorem makeStart (h : s.PumpSound) (hstate : s.pump.state ≠ .startup) : s.makeStart.PumpSound := by
  have hstate' := (startListed_state s).trans_ne hstate
  unfold State.makeStart
  exact checkEarlyProof (h.startListed.movePump hstate' (.of_proving rfl rfl))

theorem fullListEvent {b : Bool} {l : List Snapshot} (h : s.PumpSound) : (s.fullListEvent b l).PumpSound :=
  h.of_kept (by simp)

theorem handStart (h : s.PumpSound) (hstate : s.pump.state ≠ .startup) : s.handStart.PumpSound := by
  unfold State.handStart
  refine ite (fun _ => ?_) fun _ => h.movePump hstate (.of_hand rfl rfl rfl (by simp))
  have hstate' := (startListed_state s).trans_ne hstate
  exact (h.startListed.movePump hstate' (.of_hand rfl rfl rfl fun _ => rfl)).fullListEvent.checkEarlyProof

theorem actOnStart (h : s.PumpSound) : s.actOnStart.PumpSound := by
  unfold State.actOnStart
  refine ite (fun hready => ?_) fun _ => h
  have hstate : s.pump.state ≠ .startup := by simp [hready.1]
  split
  · exact h
  · exact ite (fun _ => h) fun _ => h.beginClaim hstate
  · exact ite (fun _ => h.makeStart hstate) fun _ => h

theorem released (h : s.PumpSound) (hstate : s.pump.state ≠ .startup) : s.released.PumpSound := by
  unfold State.released
  exact h.movePump hstate (.of_state (by simp))

theorem goStopping (h : s.PumpSound) (hstate : s.pump.state ≠ .startup) : s.goStopping.PumpSound := by
  have ht := h.movePump (f := fun p => { p with state := .stopping, releaseTime := some (s.now + 2000) }) hstate
    (.of_state (by simp))
  unfold State.goStopping
  dsimp only
  exact ite (fun _ => ht) fun _ => ht.released (by simp)

/-- The stop delay runs in RUNNING only (R89). -/
theorem setStopDelay {d : Option Nat} (h : s.PumpSound) (hstate : d.isSome = true → s.pump.state = .running) :
    (s.onPump fun p => { p with stopDelay := d }).PumpSound := by
  obtain ⟨h1, h2, h3, h4, h5, h6, h7, h8, h9, h10, _, h12⟩ := h.1
  exact h.onPump ⟨h1, h2, h3, h4, h5, h6, h7, h8, h9, h10, hstate, h12⟩ rfl

theorem actOnStop (h : s.PumpSound) : s.actOnStop.PumpSound := by
  unfold State.actOnStop
  refine ite (fun _ => h) fun hrunning => ite (fun _ => h.setStopDelay (by simp)) fun _ => ite (fun _ => h) fun _ => ?_
  have hstate : s.pump.state = .running := not_not.mp hrunning
  split
  · exact h.goStopping (by simp [hstate])
  · exact h.setStopDelay fun _ => hstate

theorem stopFloatCutOut (h : s.PumpSound) : s.stopFloatCutOut.PumpSound := by
  unfold State.stopFloatCutOut
  exact ite (fun e => h.goStopping (Pump.not_startup_of_cutOut e.1)) fun _ => h

theorem bayCutOut (h : s.PumpSound) : s.bayCutOut.PumpSound := by
  unfold State.bayCutOut
  exact ite (fun e => h.goStopping (Pump.not_startup_of_cutOut (Bool.and_eq_true_iff.mp e).1)) fun _ => h

theorem enterRunning (h : s.PumpSound) (hstate : s.pump.state ≠ .startup) : s.enterRunning.PumpSound := by
  unfold State.enterRunning
  exact (h.movePump hstate (.of_state (by simp))).stopFloatCutOut.actOnStop

/-- In HAND a failure halts the pump there; elsewhere the state that follows needs no item (R93, R112). -/
theorem failedTo (h : s.PumpSound) (hstate : s.pump.state ≠ .startup) : s.failedTo.PumpSound := by
  have ht := h.onPump (f := fun p => { p with failures := min 6 (p.failures + 1) }) h.1 rfl
  have hfit := h.fit hstate
  unfold State.failedTo
  dsimp only
  refine ite (fun _ => ht.lock hstate) fun _ => ht.movePump hstate ?_
  by_cases hhand : s.pump.state = .hand
  · exact .of_hand (if_pos hhand) rfl (hfit.hand hhand).2 (by simp)
  · refine .of_state ?_
    rw [show ∀ x : PumpState, (if (s.onPump fun p => { p with failures := min 6 (p.failures + 1) }).pump.state = .hand
      then PumpState.hand else x) = x from fun x => if_neg hhand]
    split <;> simp

theorem failure {k : AlarmKind} (h : s.PumpSound) (hstate : s.pump.state ≠ .startup) : (s.failure k).PumpSound :=
  (h.failedTo hstate).of_kept (by simp [State.failure])

theorem notProved (h : s.PumpSound) (hstate : s.pump.state ≠ .startup) : s.notProved.PumpSound := by
  unfold State.notProved
  exact h.count.failure (by simpa using hstate)

theorem proven (h : s.PumpSound) (hstate : s.pump.state ≠ .startup) : s.proven.PumpSound := by
  have hfit := h.fit hstate
  unfold State.proven
  refine ite (fun hhand => h.movePump hstate ?_) fun _ => h.enterRunning hstate
  exact .of_hand hhand rfl (hfit.hand hhand).2 (by simp)

theorem feedbackInWindow {w : ProvingWindow} (h : s.PumpSound) (hstate : s.pump.state ≠ .startup) :
    (s.feedbackInWindow w).PumpSound := by
  unfold State.feedbackInWindow
  exact ite (fun _ => h.earlyProof hstate) fun _ => h.proven hstate

/-! ### Staging Unit -/

theorem setStartWish {w : StartWish} (h : s.PumpSound) : (s.setStartWish w).PumpSound := by
  unfold State.setStartWish
  exact ite (fun _ => h.dropWish) fun _ => h.of_kept ⟨rfl, rfl⟩

theorem act {w : State × StartWish} (h : w.1.PumpSound) : (State.act w).PumpSound := h.setStartWish.actOnStop.actOnStart

theorem evaluate (h : s.PumpSound) : s.evaluate.PumpSound := by
  unfold State.evaluate
  exact ite (fun _ => act (h.ageStarts.of_kept (by simp))) fun _ => h

theorem floatDelay {b : Bool} (h : s.PumpSound) : (s.floatDelay b).PumpSound := by
  unfold State.floatDelay
  exact ite (fun _ => h.of_kept (by simp)) fun _ => h

theorem floatWishes {b c : Bool} (h : s.PumpSound) : (s.floatWishes b c).PumpSound := by
  have hdelay := h.floatDelay (b := b)
  have hstop : ((s.floatDelay b).floatStopWish c).PumpSound := hdelay.of_kept (by simp)
  unfold State.floatWishes
  exact ite (fun _ => hdelay.evaluate) fun _ => act hstop

theorem isolationTaken (h : s.PumpSound) : s.isolationTaken.PumpSound := by
  have hflag : (s.setIsolatedFlag true).PumpSound := h.of_kept (by simp)
  have ht : (if s.isolated then s.setIsolatedFlag true
      else s.onStaging fun g => { g with startDelay := .idle }).PumpSound :=
    ite (fun _ => hflag) fun _ => h.of_kept ⟨rfl, rfl⟩
  exact ht.dropWish

theorem isolationChange {l : List Snapshot} {was : Bool} (h : s.PumpSound) : (s.isolationChange l was).PumpSound := by
  unfold State.isolationChange
  exact ite (fun _ => h) fun _ => h.isolationTaken.evaluate.handOver

/-! ### Probe Interface and Float Monitor -/

theorem weirStep (h : s.PumpSound) : s.weirStep.PumpSound := h.of_kept (by simp)

theorem evaluateWithCutOut (h : s.PumpSound) : s.evaluateWithCutOut.PumpSound :=
  h.eitherOrder (fun _ => bayCutOut) fun _ => evaluate

theorem completion (h : s.PumpSound) : s.completion.PumpSound := by
  have ht : s.completionTaken.PumpSound := h.of_kept (by simp [State.completionTaken])
  have hd : s.completionTaken.decideIfEnded.PumpSound := by
    unfold State.decideIfEnded State.decideAtCompletion
    exact ite (fun _ => ite (fun _ => ht.eitherOrder (fun _ => weirStep) fun _ => evaluateWithCutOut)
      fun _ => ht.evaluateWithCutOut) fun _ => ht
  exact hd.handOver

theorem onProbes {f : ProbeUnit → ProbeUnit} (h : s.PumpSound) : (s.onProbes f).PumpSound := h.of_kept ⟨rfl, rfl⟩

theorem beginCycle {first : Nat} (h : s.PumpSound) : (s.beginCycle first).PumpSound := by
  unfold State.beginCycle
  exact ite (fun _ => h.onProbes.completion) fun _ => h.onProbes

/-- A step of start-up before its end follows another (R73, R180). -/
theorem onStartUp {f : StartUp → StartUp} (h : s.PumpSound) (hs : ¬ s.ended) (hf : (f s.startUp).step ≠ .ended) :
    (s.onStartUp f).PumpSound := ⟨h.1, iff_of_true (h.2.mpr hs) hf⟩

theorem beginListen {first : Nat} (h : s.PumpSound) (hs : ¬ s.ended) : (s.beginListen first).PumpSound := by
  have hlisten : (s.onStartUp fun c => { c with step := .listen, stepBegan := s.now }).PumpSound :=
    h.onStartUp hs (by simp)
  exact beginCycle (hlisten.of_kept ⟨rfl, rfl⟩)

theorem exchangeEnded {identify : Bool} (h : s.PumpSound) : (s.exchangeEnded identify).PumpSound := by
  unfold State.exchangeEnded
  exact ite (fun _ => ite (fun _ => ite (fun hstep => h.onProbes.beginListen (by rw [State.ended, hstep]; simp))
    fun _ => h.onProbes) fun _ => h.onProbes.completion) fun _ => h.onProbes

theorem exchangeMissed {x : Exchange} (h : s.PumpSound) : (s.exchangeMissed x).PumpSound := by
  unfold State.exchangeMissed
  exact ite (fun _ => h.onProbes.exchangeEnded) fun _ => h.onProbes.exchangeEnded

theorem attemptFailed {x : Exchange} (h : s.PumpSound) : (s.attemptFailed x).PumpSound := by
  unfold State.attemptFailed
  exact ite (fun _ => h.onProbes) fun _ => h.exchangeMissed

theorem readReplied {x : Exchange} {reply : List LinkByte} (h : s.PumpSound) : (s.readReplied x reply).PumpSound := by
  unfold State.readReplied
  split
  · exact h.onProbes.exchangeEnded
  · exact h.attemptFailed

theorem identifyReplied {x : Exchange} {reply : List LinkByte} (h : s.PumpSound) :
    (s.identifyReplied x reply).PumpSound := by
  unfold State.identifyReplied
  split
  · exact ite (fun _ => h.onProbes.exchangeEnded) fun _ => h.exchangeMissed
  · exact h.attemptFailed

theorem startAttempt {identify : Bool} {dt : Nat} (h : s.PumpSound) : (s.startAttempt identify dt).PumpSound := by
  unfold State.startAttempt
  split
  · exact ite (fun _ => (h.reach dt _).onProbes) fun _ => h.elapse dt
  · exact h.elapse dt

theorem highChanged {old : FloatUnit} (h : s.PumpSound) : (s.highChanged old).PumpSound := by
  unfold State.highChanged
  exact ite (fun _ => h) fun _ => h.of_kept (by simp)

theorem floatsChanged {b c : Bool} (h : s.PumpSound) : (s.floatsChanged b c).PumpSound := by
  have ht : (if c then s.stopFloatChanged else s).PumpSound :=
    ite (fun _ => h.reformAvailability.stopFloatCutOut) fun _ => h
  unfold State.floatsChanged State.floatsWish
  exact ite (fun _ => ht.floatWishes) fun _ => ht

theorem afterExcitation {old : FloatUnit} (h : s.PumpSound) : (s.afterExcitation old).PumpSound :=
  (h.eitherOrder (fun _ => highChanged) fun _ => floatsChanged).handOver

/-! ### Line Interface and receptions -/

theorem onLine {f : LineUnit → LineUnit} (h : s.PumpSound) : (s.onLine f).PumpSound := h.of_kept ⟨rfl, rfl⟩

/-- A hand claim that stands becomes another (R110). -/
theorem setHandClaim {c : HandClaim} (h : s.PumpSound) (hclaim : s.pump.handClaim.isSome = true) :
    (s.onPump fun p => { p with handClaim := some c }).PumpSound := by
  obtain ⟨h1, h2, h3, h4, h5, h6⟩ := h.1
  exact h.onPump ⟨h1, h2, h3, h4, hclaim.symm.trans h5, h6⟩ rfl

theorem spendHandClaim (h : s.PumpSound) (hplaced : s.pump.claimPlaced = true) :
    (s.onPump fun p => { p with handClaim := some .noClaim }).PumpSound :=
  h.setHandClaim (by rw [of_decide_eq_true hplaced]; rfl)

theorem claimCompleted (h : s.PumpSound) : s.claimCompleted.PumpSound := by
  have ht := h.setGuard.onLine (f := fun u => { u with claimWithdrawal := false })
  unfold State.claimCompleted
  exact ite (fun e => ht.makeStart (by rw [e.1]; simp)) fun _ => ite (fun e => ht.spendHandClaim e)
    fun _ => ht.claimResolved

theorem claimBack (h : s.PumpSound) : s.claimBack.PumpSound := by
  have ht := h.onLine (f := fun u => { u with claim := .empty, claimWithdrawal := false })
  unfold State.claimBack
  exact ite (fun _ => ite (fun e => ht.makeStart (by rw [ht.claiming (by rw [e.1]; rfl)]; simp))
    fun _ => ite (fun e => ht.spendHandClaim e) fun _ => ht.claimResolved.actOnStart) fun _ => h

theorem attemptBack (h : s.PumpSound) : s.attemptBack.PumpSound := h.claimBack.of_kept (by simp [State.attemptBack])

theorem statusCompleted {f : Frame} (h : s.PumpSound) : (s.statusCompleted f).PumpSound := by
  have ha : (if s.isolated then s else s.setIsolatedFlag false).PumpSound := ite (fun _ => h) fun _ => h.of_kept (by simp)
  unfold State.statusCompleted
  dsimp only
  split
  · refine ite (fun hdue => ite (fun _ => ?_) fun _ => ha.setHandClaim (by rw [hdue.2]; rfl)) fun _ => ha
    exact setHandClaim (ha.of_kept (by simp)) (by simp [hdue.2])
  · exact ha

theorem toldComplete {i : SlotId} {f : Frame} (h : s.PumpSound) : (s.toldComplete i f).PumpSound := by
  unfold State.toldComplete
  split
  · exact h.claimCompleted
  · exact h
  · exact h.statusCompleted
  · exact h.of_kept (by simp)

theorem disableTransmitter {f : LineUnit → LineUnit} (h : s.PumpSound) : (s.disableTransmitter f).PumpSound := by
  have ha : (s.onLine fun u => { f u with txEnabled := false }).dropAttempt.PumpSound := h.of_kept (by simp)
  unfold State.disableTransmitter
  exact (ite (fun _ => ha.of_kept (by simp)) fun _ => ha).attemptBack.isolationChange

theorem latchConflict (h : s.PumpSound) : s.latchConflict.PumpSound := h.disableTransmitter

theorem lineError (h : s.PumpSound) : s.lineError.PumpSound := h.count

theorem endField (h : s.PumpSound) : s.endField.PumpSound := h.of_kept (by simp [State.endField])

theorem lineTaken (h : s.PumpSound) : s.lineTaken.PumpSound := by
  unfold State.lineTaken
  exact ite (fun _ => h.onLine.endField) fun _ => h.onLine

theorem receive {cls sender : Nat} {payload : List Byte} {effect : BayAddress → State → State} (h : s.PumpSound)
    (heffect : ∀ (a : BayAddress) (u : State), u.PumpSound → (effect a u).PumpSound) :
    (s.receive cls sender payload effect).PumpSound := by
  unfold State.receive
  refine ite (fun _ => finish ?_) fun _ => h
  split
  · exact ite (fun _ => h.lineTaken.latchConflict) fun _ => heffect _ _ h.lineTaken
  · exact h.lineTaken.lineError

theorem refreshPeer {a : BayAddress} (h : s.PumpSound) : (s.refreshPeer a).PumpSound := h.of_kept (by simp)

theorem claimHeard {payload : List Byte} {a : BayAddress} (h : s.PumpSound) : (s.claimHeard payload a).PumpSound := by
  have hr : (s.onEntry a PeerEntry.refreshed).PumpSound := h.of_kept ⟨rfl, rfl⟩
  have ht : (((s.onEntry a PeerEntry.refreshed).setGuard.markClaim a (claimCredit payload)).yieldClaim).PumpSound := by
    have hm : ((s.onEntry a PeerEntry.refreshed).setGuard.markClaim a (claimCredit payload)).PumpSound :=
      hr.setGuard.of_kept ⟨rfl, rfl⟩
    unfold State.yieldClaim
    exact ite (fun e => hm.loseClaim e) fun _ => hm
  unfold State.claimHeard
  exact ite (fun _ => ht.evaluate) fun _ => ht.evaluate.handOver

theorem statusHeard {payload : List Byte} {a : BayAddress} (h : s.PumpSound) : (s.statusHeard payload a).PumpSound :=
  h.of_kept (by simp [State.statusHeard])

theorem noticeHeard {payload : List Byte} {a : BayAddress} (h : s.PumpSound) : (s.noticeHeard payload a).PumpSound :=
  h.of_kept (by simp [State.noticeHeard])

theorem townRequest {effect : State → State} (h : s.PumpSound)
    (heffect : ∀ u : State, u.PumpSound → (effect u).PumpSound) : (s.townRequest effect).PumpSound := by
  unfold State.townRequest
  exact ite (fun _ => finish (ite (fun _ => heffect _ h.lineTaken) fun _ => h.lineTaken)) fun _ => h

theorem clockSecond (h : s.PumpSound) : s.clockSecond.PumpSound := by
  have ht : (s.onReport fun r => { r with
      house := r.house.next
      nextSecond := r.nextSecond.map (· + 1000)
      interval := r.interval.map Interval.second }).PumpSound := h.of_kept ⟨rfl, rfl⟩
  have hring : (s.pump.ringSecond).Sound ∧ s.pump.ringSecond.state = s.pump.state := by
    unfold Pump.ringSecond
    split <;> exact ⟨h.1, rfl⟩
  unfold State.clockSecond
  exact ite (fun _ => (ht.onPump hring.1 hring.2).count) fun _ => ht

/-! ### Pump times, supply and selector -/

/-- The claim time and the fallback time stand in their phases of the claim (R76, R80). -/
theorem endClaimTime {n : Nat} (h : s.PumpSound) (hphase : s.pump.claimPhase = some .waiting) :
    (s.onPump fun p => { p with
      claimPhase := some .fallback, claimTime := none, fallbackTime := some n }).PumpSound := by
  have hclaiming := h.claiming (by rw [hphase]; rfl)
  obtain ⟨_, h2, h3, h4, h5, h6, _, _, h9⟩ := h.1
  exact h.onPump ⟨by simp [hclaiming], h2, h3, h4, h5, h6, nofun, fun _ => rfl, h9⟩ rfl

theorem endFallback (h : s.PumpSound) (hphase : s.pump.claimPhase = some .fallback) : s.endFallback.PumpSound := by
  have hclaiming := h.claiming (by rw [hphase]; rfl)
  obtain ⟨h1, h2, h3, h4, h5, h6, h7, _, h9⟩ := h.1
  have ht : (s.onPump fun p => { p with fallbackTime := none }).PumpSound :=
    h.onPump ⟨h1, h2, h3, h4, h5, h6, h7, nofun, h9⟩ rfl
  unfold State.endFallback
  dsimp only
  split
  · exact ht.withdrawClaim.makeStart (by simp [hclaiming])
  · exact ht.withdrawClaim

/-- Feedback, with the times that it starts and ends in the states that time it (R87, R92). -/
theorem setFeedback {b : Bool} {loss stray opened : Option Nat} (h : s.PumpSound)
    (hloss : loss.isSome = true → s.pump.proved = true) (hstray : stray.isSome = true → s.pump.watch ≠ .off)
    (hopened : opened.isSome = true → s.pump.watch = .auto) : (s.onPump fun p => { p with
      feedback := b, lossTimer := loss, strayTimer := stray, openedAt := opened }).PumpSound := by
  obtain ⟨h1, h2, h3, h4, h5, h6, h7, h8, h9, h10, h11, h12, _, _, _, h16⟩ := h.1
  exact h.onPump ⟨h1, h2, h3, h4, h5, h6, h7, h8, h9, h10, h11, h12, hloss, hstray, hopened, h16⟩ rfl

theorem timedFeedback {x : Watch} {n : Nat} : (if x = .off then none else some n).isSome = true → x ≠ .off := by
  split <;> simp_all

theorem feedbackPresent (h : s.PumpSound) : s.feedbackPresent.PumpSound := by
  obtain ⟨_, hwindow, _, _, _, _, _, _, _, _, _, _, hloss, _, hopened, _⟩ := h.1
  unfold State.feedbackPresent
  split
  · next w hw =>
    have hstate : s.pump.state ≠ .startup := Pump.not_startup_of_proving (by rw [← hwindow, hw]; rfl)
    have hwithin : (s.onPump fun p => { p with feedback := true }).PumpSound := h.onPump h.1 rfl
    refine ite (fun _ => hwithin.feedbackInWindow hstate) fun _ => ?_
    have hnot := h.notProved hstate
    obtain ⟨_, _, _, _, _, _, _, _, _, _, _, _, hloss', _, hopened', _⟩ := hnot.1
    exact hnot.setFeedback hloss' timedFeedback hopened'
  · exact h.setFeedback nofun timedFeedback hopened

theorem feedbackAbsent (h : s.PumpSound) : s.feedbackAbsent.PumpSound := by
  have ht : (s.onPump fun p => { p with
      feedback := false
      lossTimer := if p.proved then some (s.now + 1000) else none
      strayTimer := none
      openedAt := none }).PumpSound :=
    h.setFeedback (by split <;> simp [*]) nofun nofun
  unfold State.feedbackAbsent
  dsimp only
  exact ite (fun e => ht.released (by rw [e]; simp)) fun _ => ht

theorem lockStray (h : s.PumpSound) (hstate : s.pump.state ≠ .startup) : s.lockStray.PumpSound := by
  unfold State.lockStray
  exact ite (fun _ => h.lock hstate) fun _ => h

theorem strayFeedback (h : s.PumpSound) (hstray : s.pump.strayTimer.isSome = true) : s.strayFeedback.PumpSound := by
  obtain ⟨h1, h2, h3, h4, h5, h6, h7, h8, h9, h10, h11, h12, h13, hwatch, h15, _⟩ := h.1
  have hstate := Pump.not_startup_of_watch (hwatch hstray)
  have ht : (s.onPump fun p => { p with
      strayTimer := none, lockPending := decide (p.state = .claiming) }).PumpSound :=
    h.onPump ⟨h1, h2, h3, h4, h5, h6, h7, h8, h9, h10, h11, h12, h13, nofun, h15, fun _ => hstate⟩ rfl
  unfold State.strayFeedback
  exact ite (fun _ => ht.lockStray hstate) fun _ => ite (fun e => ht.loseClaim e) fun _ => ht

theorem supplyOpening (h : s.PumpSound) (hstate : s.pump.state ≠ .startup) : s.supplyOpening.PumpSound := by
  unfold State.supplyOpening
  exact h.movePump hstate (.of_state (by simp))

theorem pumpSupplyLost (h : s.PumpSound) : s.pumpSupplyLost.PumpSound := by
  unfold State.pumpSupplyLost
  split
  · next e => exact h.supplyOpening (by simp [e])
  · next e => exact h.supplyOpening (by simp [e])
  · next e =>
    have hfit := h.fit (by simp [e])
    exact ite (fun _ => h) fun _ => h.movePump (by simp [e]) (.of_hand e rfl (hfit.hand e).2 (by simp))
  · exact h

theorem supplyLoss (h : s.PumpSound) : s.supplyLoss.PumpSound := by
  have ht : ((s.onSupply fun u => { u with lossPending := true }).count .supplyLosses 1).PumpSound := h.of_kept (by simp)
  exact ht.pumpSupplyLost.reformAvailability.of_kept (by simp [State.supplyLoss, State.pumpLoss])

theorem supplyBack (h : s.PumpSound) : s.supplyBack.PumpSound := by
  have ht : (s.onSupply fun u =>
      if u.lossPending then { u with lossPending := false, hold := u.hold || s.general.heldRecovery } else u).PumpSound :=
    h.of_kept ⟨rfl, rfl⟩
  exact ht.reformAvailability.of_kept (by simp [State.supplyBack])

theorem leaveClaim (h : s.PumpSound) : s.leaveClaim.PumpSound := by
  unfold State.leaveClaim
  exact ite (fun _ => h.withdrawClaim) fun _ => h

theorem leaveClaim_pump (s : State) : s.leaveClaim.pump = s.pump := by
  unfold State.leaveClaim
  split <;> simp

theorem moveToOff (h : s.PumpSound) : s.moveToOff.PumpSound := by
  unfold State.moveToOff
  split
  · exact h
  · exact h
  · exact h
  · next hstartup _ _ => exact h.leaveClaim.movePump (by rwa [leaveClaim_pump]) (.of_state (by simp [Pump.movedOff]))

theorem moveToAuto (h : s.PumpSound) : s.moveToAuto.PumpSound := by
  unfold State.moveToAuto
  split
  · next e => exact h.movePump (by simp [e]) (.of_state (by dsimp only; split <;> simp))
  · next e =>
    exact ite (fun _ => h.enterRunning (by simp [e])) fun _ =>
      ite (fun _ => h.movePump (by simp [e]) (.of_state (by simp))) fun _ => h.goStopping (by simp [e])
  · exact h

theorem moveToHand (h : s.PumpSound) : s.moveToHand.PumpSound := by
  unfold State.moveToHand
  split
  · next e => exact h.handStart (by simp [e])
  · next e => exact h.handStart (by simp [e])
  · next e => exact h.handStart (by simp [e])
  · next e => exact h.leaveClaim.handStart (by rw [leaveClaim_pump, e]; simp)
  · next e =>
    have hfit := h.fit (by simp [e])
    exact h.movePump (by simp [e]) (.of_hand rfl rfl rfl fun _ => hfit.window (by simp [Pump.proving, e]))
  · next e => exact h.movePump (by simp [e]) (.of_hand rfl rfl rfl (by simp))
  · next e => exact h.movePump (by simp [e]) (.of_hand rfl rfl rfl (by simp))
  · exact h

theorem moveSelector {x : PumpPosition} (h : s.PumpSound) : (s.moveSelector x).PumpSound := by
  cases x
  case off => exact h.moveToOff
  case hand => exact h.moveToHand
  case auto => exact h.moveToAuto

/-! ### Start-up and latch reset -/

theorem beginIdentify (h : s.PumpSound) (hs : ¬ s.ended) : s.beginIdentify.PumpSound := by
  have ht : (s.onStartUp fun c => { c with step := .identify, stepBegan := s.now }).PumpSound := h.onStartUp hs (by simp)
  unfold State.beginIdentify
  exact ite (fun _ => ht.onProbes.beginListen (by simp)) fun _ => ht.onProbes

theorem takeSettings {m : MemoryResult} {k : Checksum} {v : SectionFlags} {c : Settings} (h : s.PumpSound)
    (hs : ¬ s.ended) : (s.takeSettings m k v c).PumpSound := by
  have ht : (((s.onStartUp fun u => { u with
      memory := m
      checksum := k
      valid := v
      settings := some c
      digest := c.digest
      attemptDue := none
      attemptOpen := false }).onProbes (ProbeUnit.configured c.levels)).onStaging fun g => { g with
        latches := ((c.stages.map (·.levels)).getD []).map fun _ => false }).publish.PumpSound := h.of_kept (by simp)
  exact ht.beginIdentify (by simpa using hs)

theorem takeHandFromOut (h : s.PumpSound) : s.takeHandFromOut.PumpSound := by
  unfold State.takeHandFromOut
  exact ite (fun e => h.handStart (by simp [e.1])) fun _ => h

theorem firstPumpState_mem (s : State) : s.firstPumpState ∈ [.out, .ready, .running, .stopping, .cooling] := by
  unfold State.firstPumpState
  split <;> simp

theorem firstSupply (h : s.PumpSound) : s.firstSupply.PumpSound := by
  unfold State.firstSupply
  exact ite (fun _ => h) fun _ => h.supplyLoss

theorem flagIsolation (h : s.PumpSound) : s.flagIsolation.PumpSound := by
  unfold State.flagIsolation
  exact ite (fun _ => h.of_kept (by simp)) fun _ => h

/-- Start-up ends with the pump out of STARTUP (R73, R188). -/
theorem endStartUp (s : State) : s.endStartUp.PumpSound := by
  obtain ⟨u, hu⟩ : ∃ u, u = s.startClocks.enableTransmitter.freshenOwn.beginInterval := ⟨_, rfl⟩
  have hended : u.ended := by 
    rw [hu, State.ended, (State.beginInterval_keeps _).2.1]
    unfold State.freshenOwn
    split <;> rfl
  have hfirst : u.firstPump.PumpSound := of_movePump hended (.of_state (firstPumpState_mem u))
  have hweir : ((u.firstPump.onScreen Screen.firstState).restartInterval).weirOn.PumpSound :=
    hfirst.of_kept (by simp [State.restartInterval, State.weirOn])
  have htaken := hweir.flagIsolation.firstSupply.takeHandFromOut
  rw [State.endStartUp, ← hu]
  exact htaken.of_kept (by simp)

theorem pumpLatchReset (h : s.PumpSound) : s.pumpLatchReset.PumpSound := by
  have ht : (s.onPump fun p => { p with failures := 0, cooling := none }).PumpSound := h.onPump h.1 rfl
  unfold State.pumpLatchReset
  dsimp only
  refine ite (fun hstate => ?_) fun _ => ht
  have hstartup : s.pump.state ≠ .startup := by
    rcases hstate with e | e <;> exact ne_of_eq_of_ne e (by decide)
  exact (ht.movePump hstartup (.of_state (firstPumpState_mem _))).takeHandFromOut

theorem resetLatches (h : s.PumpSound) : s.resetLatches.PumpSound := by
  have hboth : s.lineLatchReset.pumpAndScreenReset.PumpSound :=
    (h.onLine : s.lineLatchReset.PumpSound).eitherOrder (fun _ => pumpLatchReset) fun _ hu => hu.of_kept ⟨rfl, rfl⟩
  have ha : (s.lineLatchReset.pumpAndScreenReset.onSupply fun u => { u with hold := false }).PumpSound :=
    hboth.of_kept ⟨rfl, rfl⟩
  have hb := ((ha.handOver (l := []) (k := .a2)).handOver (l := []) (k := .a8)).reformAvailability
  exact (hb.isolationChange (l := []) (was := s.isolated)).of_kept (by simp [State.resetLatches])

theorem acceptAll (h : s.PumpSound) : s.acceptAll.PumpSound := h.of_kept ⟨rfl, rfl⟩

theorem latchReset (h : s.PumpSound) : s.latchReset.PumpSound := h.eitherOrder (fun _ => acceptAll) fun _ => resetLatches

theorem poweredUp (s : State) : s.poweredUp.PumpSound := by
  have hreset : State.reset.PumpSound := ⟨by decide, by decide⟩
  exact hreset.of_kept ⟨rfl, rfl⟩

end State.PumpSound

/-- The pump of the next state that a command answers is sound. -/
def Result.PumpSound : Result → Prop
  | .next t => t.PumpSound
  | .fault _ => True
  | .refused _ => True

namespace State.PumpSound

variable {s : State}

/-! ### Commands -/

theorem restart (dt : Nat) (h : s.PumpSound) : (execRestart dt s).PumpSound := by
  unfold execRestart
  split
  · exact (poweredUp s).of_kept ⟨rfl, rfl⟩
  · exact h.elapse dt

theorem resetPress (dt : Nat) (h : s.PumpSound) : (execResetPress dt s).PumpSound := by
  have ht : ((s.elapse dt).onPanel fun b => { b with reset := true }).PumpSound := (h.elapse dt).of_kept ⟨rfl, rfl⟩
  exact ite (fun _ => h.elapse dt) fun _ => ite (fun _ => ht.of_kept ⟨rfl, rfl⟩) fun _ => ht

theorem latchResetCommand (dt : Nat) (h : s.PumpSound) : (execLatchReset dt s).PumpSound := by
  have ht : (((s.elapse dt).onStartUp fun c => { c with resetButton := .released }).onPanel
      fun b => { b with reset := false }).PumpSound := (h.elapse dt).of_kept ⟨rfl, rfl⟩
  unfold execLatchReset
  dsimp only
  split
  · exact ite (fun _ => ht.latchReset.finish) fun _ => h.elapse dt
  · exact h.elapse dt

theorem strapsDecided (dt : Nat) (number : BitVec 4) (h : s.PumpSound) :
    (execStrapsDecided dt number s).PumpSound := by
  unfold execStrapsDecided State.beginMemory
  exact ite (fun e => (h.elapse dt).onStartUp (by rw [State.ended, e.1]; simp) (by simp)) fun _ => h.elapse dt

theorem strapsTimeout (dt : Nat) (h : s.PumpSound) : (execStrapsTimeout dt s).PumpSound := by
  unfold execStrapsTimeout State.beginMemory
  exact ite (fun e => (h.reach dt _).onStartUp (by simp [e]) (by simp)) fun _ => h.elapse dt

theorem memoryAttemptStart (dt : Nat) (h : s.PumpSound) : (execMemoryAttemptStart dt s).PumpSound := by
  unfold execMemoryAttemptStart
  split
  · exact h.of_kept ⟨rfl, rfl⟩
  · exact h.elapse dt

theorem memoryNotAcknowledged (dt : Nat) (h : s.PumpSound) : (execMemoryNotAcknowledged dt s).PumpSound := by
  have ht := h.elapse dt
  exact ite (fun e => ite (fun _ => ht.of_kept ⟨rfl, rfl⟩)
    fun _ => ht.takeSettings (by rw [State.ended, e.1]; simp)) fun _ => ht

theorem memoryReadComplete (dt : Nat) (image : List Byte) (h : s.PumpSound) :
    (execMemoryReadComplete dt image s).PumpSound := by
  have ht := h.elapse dt
  refine ite (fun e => ?_) fun _ => ht
  have hs : ¬ (s.elapse dt).ended := by rw [State.ended, e.1]; simp
  exact ite (fun _ => ht.takeSettings hs) fun _ => ht.takeSettings hs

theorem endOfStartUp (dt : Nat) (h : s.PumpSound) : (execEndOfStartUp dt s).PumpSound :=
  ite (fun _ => (endStartUp _).finish) fun _ => h.elapse dt

theorem probeCycleBegin (dt : Nat) (h : s.PumpSound) : (execProbeCycleBegin dt s).PumpSound := by
  unfold execProbeCycleBegin
  split
  · exact h.elapse dt
  · exact ite (fun _ => (h.reach dt _).beginCycle.finish) fun _ => h.elapse dt

theorem noReply (dt : Nat) (h : s.PumpSound) : (execNoReply dt s).PumpSound := by
  unfold execNoReply
  split
  · exact (h.reach dt _).exchangeMissed.finish
  · exact h.elapse dt

theorem probeReplyEnd (dt : Nat) (reply : List LinkByte) (h : s.PumpSound) :
    (execProbeReplyEnd dt reply s).PumpSound := by
  have ht := h.elapse dt
  unfold execProbeReplyEnd
  split
  · exact ite (fun _ => ht) fun _ => ite (fun _ => ht.identifyReplied.finish) fun _ => ht.readReplied.finish
  · exact ht

theorem floatExcitation (dt : Nat) (float : FloatId) (reading : FloatReading) (h : s.PumpSound) :
    (execFloatExcitation dt float reading s).PumpSound := by
  have ht : ((s.reach dt s.floats.pulseEnd).onFloats fun u => (u.excite float reading).pulseEnded).PumpSound :=
    h.of_kept ⟨rfl, rfl⟩
  exact ite (fun _ => ite (fun _ => ht.afterExcitation.finish) fun _ => ht.highChanged) fun _ => h.elapse dt

/-- The line becomes idle, or held, and with it the isolation of the station may change (R21, R39, R40). -/
theorem lineChanged {f : LineUnit → LineUnit} {was : Bool} (h : s.PumpSound) :
    ((s.onLine f).isolationChange [] was).finish.PumpSound := h.onLine.isolationChange.finish

theorem lineIdle (dt : Nat) (h : s.PumpSound) : (execLineIdle dt s).PumpSound :=
  ite (fun _ => (h.elapse dt).lineChanged) fun _ => h.elapse dt

theorem lineHeld (dt : Nat) (h : s.PumpSound) : (execLineHeld dt s).PumpSound :=
  ite (fun _ => (h.elapse dt).lineChanged) fun _ => h.elapse dt

theorem startBitRead (dt : Nat) (h : s.PumpSound) : (execStartBitRead dt s).PumpSound :=
  ite (fun _ => (h.elapse dt).onLine) fun _ => h.elapse dt

theorem arbitrationLost (dt : Nat) (h : s.PumpSound) : (execArbitrationLost dt s).PumpSound :=
  ite (fun _ => (h.elapse dt).endField) fun _ => h.elapse dt

theorem frameCommitted (dt : Nat) (h : s.PumpSound) : (execFrameCommitted dt s).PumpSound :=
  ite (fun _ => (h.elapse dt).onLine) fun _ => h.elapse dt

theorem frameComplete (dt : Nat) (h : s.PumpSound) : (execFrameComplete dt s).PumpSound := by
  have ht := h.elapse dt
  unfold execFrameComplete
  dsimp only
  split
  · next i _ =>
    have hcomplete : ((s.elapse dt).completeAttempt i).PumpSound := ht.of_kept (by simp)
    split
    · exact hcomplete.toldComplete.finish
    · exact ht
  · exact ht

theorem notFollowing (dt : Nat) (h : s.PumpSound) : (execNotFollowing dt s).PumpSound := by
  have hdropped : (s.elapse dt).dropAttempt.PumpSound := (h.elapse dt).of_kept (by simp)
  have ha := (hdropped.onLine (f := fun u => { u with
    idle := false, notFollowingCount := u.notFollowingCount + 1 })).lineError
  exact ite (fun _ => (ite (fun _ => ha.disableTransmitter) fun _ => ha).finish) fun _ => h.elapse dt

theorem arbitrationReadbackFault (dt : Nat) (h : s.PumpSound) : (execArbitrationReadbackFault dt s).PumpSound :=
  ite (fun _ => (h.elapse dt).endField.lineError.finish) fun _ => h.elapse dt

theorem readbackMismatch (dt : Nat) (h : s.PumpSound) : (execReadbackMismatch dt s).PumpSound := by
  have hdropped : (s.elapse dt).dropAttempt.PumpSound := (h.elapse dt).of_kept (by simp)
  have ha := (hdropped.onLine (f := fun u => { u with conflictAborts := u.conflictAborts + 1 })).lineError
  exact ite (fun _ => (ite (fun _ => ha.eitherOrder (fun _ => attemptBack) fun _ => latchConflict)
    fun _ => ha.attemptBack).finish) fun _ => h.elapse dt

theorem txHeld (dt : Nat) (h : s.PumpSound) : (execTxHeld dt s).PumpSound :=
  ite (fun _ => (h.elapse dt).disableTransmitter.finish) fun _ => h.elapse dt

theorem frameDiscarded (dt : Nat) (bits : List Bool) (h : s.PumpSound) : (execFrameDiscarded dt bits s).PumpSound := by
  refine ite (fun _ => ?_) fun _ => h.elapse dt
  split
  · exact (h.elapse dt).lineTaken.lineError.finish
  · exact h.elapse dt

theorem addressConflict (dt : Nat) (cls : BitVec 3) (payload : List Byte) (h : s.PumpSound) :
    (execAddressConflict dt cls payload s).PumpSound := by
  unfold execAddressConflict
  dsimp only
  split
  · exact h.elapse dt
  · exact (h.elapse dt).receive fun _ _ => refreshPeer

theorem status (dt : Nat) (sender : BitVec 4) (payload : List Byte) (h : s.PumpSound) :
    (execStatus dt sender payload s).PumpSound := (h.elapse dt).receive fun _ _ => statusHeard

theorem claim (dt : Nat) (sender : BitVec 4) (payload : List Byte) (h : s.PumpSound) :
    (execClaim dt sender payload s).PumpSound := (h.elapse dt).receive fun _ _ => claimHeard

theorem spillNotice (dt : Nat) (sender : BitVec 4) (payload : List Byte) (h : s.PumpSound) :
    (execSpillNotice dt sender payload s).PumpSound := (h.elapse dt).receive fun _ _ => noticeHeard

/-- An ALARM REPORT, a SPILL RECORD and an INTERVAL REPORT refresh the peer's entry (R33). -/
theorem peerFrame (dt cls sender : Nat) (payload : List Byte) (h : s.PumpSound) :
    ((s.elapse dt).receive cls sender payload State.refreshPeer).PumpSound :=
  (h.elapse dt).receive fun _ _ => refreshPeer

theorem time (dt : Nat) (day : BitVec 16) (second : BitVec 24) (h : s.PumpSound) :
    (execTime dt day second s).PumpSound :=
  (h.elapse dt).townRequest fun _ hu => ite (fun _ => hu.of_kept (by simp)) fun _ => hu

theorem closeInterval (dt : Nat) (h : s.PumpSound) : (execCloseInterval dt s).PumpSound :=
  (h.elapse dt).townRequest fun _ hu => ite (fun _ => hu) fun _ => hu.of_kept (by simp)

theorem drawdown (dt : Nat) (offset minutes : BitVec 16) (h : s.PumpSound) :
    (execDrawdown dt offset minutes s).PumpSound := (h.elapse dt).townRequest fun _ hu => hu.of_kept ⟨rfl, rfl⟩

theorem unknownTownKind (dt : Nat) (payload : List Byte) (h : s.PumpSound) :
    (execUnknownTownKind dt payload s).PumpSound := by
  have ht := h.elapse dt
  unfold execUnknownTownKind
  dsimp only
  split
  · exact ite (fun _ => ht.lineTaken.lineError.finish) fun _ => ht
  · exact ite (fun _ => ht.townRequest fun _ hu => hu) fun _ => ht

theorem peerStale (dt : Nat) (peer : BayAddress) (h : s.PumpSound) : (execPeerStale dt peer s).PumpSound :=
  ite (fun _ => h.of_kept (by simp)) fun _ => h.elapse dt

theorem peerAbsent (dt : Nat) (peer : BayAddress) (h : s.PumpSound) : (execPeerAbsent dt peer s).PumpSound :=
  ite (fun _ => h.of_kept (by simp)) fun _ => h.elapse dt

theorem isolatedStartDelayEnd (dt : Nat) (h : s.PumpSound) : (execIsolatedStartDelayEnd dt s).PumpSound := by
  unfold execIsolatedStartDelayEnd
  split
  · next m _ =>
    have ht : ((s.reach dt m).onStaging fun g => { g with startDelay := .done }).PumpSound := h.of_kept ⟨rfl, rfl⟩
    exact ht.evaluate.finish
  · exact h.elapse dt

theorem drawdownExpiry (dt : Nat) (h : s.PumpSound) : (execDrawdownExpiry dt s).PumpSound := by
  unfold execDrawdownExpiry
  split
  · exact h.of_kept ⟨rfl, rfl⟩
  · exact h.elapse dt

theorem runClockSecond (dt : Nat) (h : s.PumpSound) : (execRunClockSecond dt s).PumpSound := by
  unfold execRunClockSecond
  split
  · exact h.elapse dt
  · exact (h.reach dt _).clockSecond

theorem creditHour (dt : Nat) (h : s.PumpSound) : (execCreditHour dt s).PumpSound := by
  unfold execCreditHour
  split
  · exact h.elapse dt
  · exact (h.reach dt _).onPump h.1 rfl

theorem townAbsent (dt : Nat) (h : s.PumpSound) : (execTownAbsent dt s).PumpSound := by
  unfold execTownAbsent
  split
  · exact h.elapse dt
  · exact ite (fun _ => h.of_kept (by simp)) fun _ => h.elapse dt

theorem intervalBoundary (dt : Nat) (h : s.PumpSound) : (execIntervalBoundary dt s).PumpSound :=
  ite (fun _ => h.of_kept (by simp)) fun _ => h.elapse dt

theorem intervalLengthLimit (dt : Nat) (h : s.PumpSound) : (execIntervalLengthLimit dt s).PumpSound :=
  ite (fun _ => h.of_kept (by simp)) fun _ => h.elapse dt

theorem rearm (dt : Nat) (kind : AlarmKind) (h : s.PumpSound) : (execRearm dt kind s).PumpSound := by
  unfold execRearm
  split
  · exact h.of_kept ⟨rfl, rfl⟩
  · exact h.elapse dt

theorem guardExpiry (dt : Nat) (h : s.PumpSound) : (execGuardExpiry dt s).PumpSound := by
  unfold execGuardExpiry
  split
  · exact h.elapse dt
  · next m _ =>
    have ht : ((s.reach dt m).onPump fun p => { p with guard := none }).PumpSound := (h.reach dt m).onPump h.1 rfl
    exact ht.actOnStart.finish

theorem claimTimeEnd (dt : Nat) (h : s.PumpSound) : (execClaimTimeEnd dt s).PumpSound := by
  unfold execClaimTimeEnd
  split
  · exact h.elapse dt
  · exact ite (fun hphase => (h.reach dt _).endClaimTime hphase) fun _ => h.reach dt _

theorem fallbackTimeEnd (dt : Nat) (h : s.PumpSound) : (execFallbackTimeEnd dt s).PumpSound := by
  unfold execFallbackTimeEnd
  split
  · exact h.elapse dt
  · exact ite (fun hphase => ((h.reach dt _).endFallback hphase).finish) fun _ => h.reach dt _

theorem runFeedbackChange (dt : Nat) (present : Bool) (h : s.PumpSound) :
    (execRunFeedbackChange dt present s).PumpSound :=
  ite (fun _ => h.elapse dt) fun _ =>
    (ite (fun _ => (h.elapse dt).feedbackPresent) fun _ => (h.elapse dt).feedbackAbsent).finish

theorem proofTimeEnd (dt : Nat) (h : s.PumpSound) : (execProofTimeEnd dt s).PumpSound := by
  unfold execProofTimeEnd
  split
  · exact h.elapse dt
  · next w hw =>
    have hproving : s.pump.proving = true := by rw [← h.1.2.1, hw]; rfl
    exact ite (fun _ => h.reach dt _) fun _ =>
      ((h.reach dt w.ends).notProved (Pump.not_startup_of_proving hproving)).finish

theorem feedbackLost (dt : Nat) (h : s.PumpSound) : (execFeedbackLost dt s).PumpSound := by
  obtain ⟨_, _, _, _, _, _, _, _, _, _, _, _, hloss, _⟩ := h.1
  unfold execFeedbackLost
  split
  · exact h.elapse dt
  · next m hm =>
    have hproved := hloss (by rw [hm]; rfl)
    exact ((h.reach dt m).failure (Pump.not_startup_of_proved hproved)).finish

theorem provingRunEnd (dt : Nat) (h : s.PumpSound) : (execProvingRunEnd dt s).PumpSound := by
  obtain ⟨h1, h2, h3, h4, h5, h6, h7, h8, h9, h10, h11, _, h13⟩ := h.1
  unfold execProvingRunEnd
  split
  · exact h.elapse dt
  · exact (h.reach dt _).onPump ⟨h1, h2, h3, h4, h5, h6, h7, h8, h9, h10, h11, nofun, h13⟩ rfl

theorem minRunEnd (dt : Nat) (h : s.PumpSound) : (execMinRunEnd dt s).PumpSound := by
  obtain ⟨h1, h2, h3, h4, h5, h6, h7, h8, h9, _, h11⟩ := h.1
  unfold execMinRunEnd
  split
  · exact h.elapse dt
  · next m _ =>
    have ht : ((s.reach dt m).onPump fun p => { p with minRun := none }).PumpSound :=
      (h.reach dt m).onPump ⟨h1, h2, h3, h4, h5, h6, h7, h8, h9, nofun, h11⟩ rfl
    exact ht.actOnStop.finish

theorem stopDelayEnd (dt : Nat) (h : s.PumpSound) : (execStopDelayEnd dt s).PumpSound := by
  obtain ⟨_, _, _, _, _, _, _, _, _, _, hdelay, _⟩ := h.1
  unfold execStopDelayEnd
  split
  · exact h.elapse dt
  · next m hm =>
    have hu : ((s.reach dt m).onPump fun p => { p with stopDelay := none }).PumpSound :=
      (h.reach dt m).setStopDelay nofun
    have hstate := hdelay (by rw [hm]; rfl)
    exact ite (fun _ => (hu.goStopping (ne_of_eq_of_ne hstate (by decide))).finish) fun _ => hu

theorem releaseTimeEnd (dt : Nat) (h : s.PumpSound) : (execReleaseTimeEnd dt s).PumpSound := by
  obtain ⟨_, _, _, _, _, _, _, _, hrelease, _⟩ := h.1
  unfold execReleaseTimeEnd
  split
  · exact h.elapse dt
  · next m hm =>
    have hstate := hrelease (by rw [hm]; rfl)
    exact ite (fun _ => ((h.reach dt m).lock (ne_of_eq_of_ne hstate (by decide))).finish) fun _ => h.reach dt m

theorem feedbackWithoutCommand (dt : Nat) (h : s.PumpSound) : (execFeedbackWithoutCommand dt s).PumpSound := by
  unfold execFeedbackWithoutCommand
  split
  · exact h.elapse dt
  · next m hm => exact ((h.reach dt m).strayFeedback (by rw [State.reach_eq, State.elapse_pump, hm]; rfl)).finish

theorem coolingTimeEnd (dt : Nat) (h : s.PumpSound) : (execCoolingTimeEnd dt s).PumpSound := by
  unfold execCoolingTimeEnd
  split
  · exact h.elapse dt
  · next m _ =>
    have hu : ((s.reach dt m).onPump fun p => { p with cooling := none }).PumpSound := (h.reach dt m).onPump h.1 rfl
    exact ite (fun e => (hu.movePump (by rw [e]; simp) (.of_state (by simp))).finish) fun _ => hu

theorem minOffEnd (dt : Nat) (h : s.PumpSound) : (execMinOffEnd dt s).PumpSound := by
  unfold execMinOffEnd
  split
  · exact h.elapse dt
  · next m _ =>
    have ht : ((s.reach dt m).onPump fun p => { p with minOff := none }).PumpSound := (h.reach dt m).onPump h.1 rfl
    exact ht.reformAvailability.finish

theorem supplyStateChange (dt : Nat) (healthy : Bool) (h : s.PumpSound) :
    (execSupplyStateChange dt healthy s).PumpSound := by
  have hu : ((s.elapse dt).onSupply fun v => { v with healthy := healthy }).PumpSound := h.of_kept ⟨rfl, rfl⟩
  exact ite (fun _ => h.elapse dt) fun _ =>
    ite (fun _ => (ite (fun _ => hu.supplyBack.handOver) fun _ => hu.supplyLoss.handOver).finish) fun _ => hu

theorem pumpSelectorMove (dt : Nat) (inputs : SelectorInputs) (h : s.PumpSound) :
    (execPumpSelectorMove dt inputs s).PumpSound := by
  have hu : ((s.elapse dt).onPump fun p => { p with selector := selectorPosition inputs }).PumpSound :=
    (h.elapse dt).onPump h.1 rfl
  exact ite (fun _ => h.elapse dt) fun _ =>
    ite (fun _ => hu.moveSelector.reformAvailability.finish) fun _ => hu.of_kept (by simp)

theorem screenSelectorMove (dt : Nat) (position : ScreenPosition) (h : s.PumpSound) :
    (execScreenSelectorMove dt position s).PumpSound :=
  ite (fun _ => h.elapse dt) fun _ => ite (fun _ => h.of_kept (by simp)) fun _ => h.of_kept ⟨rfl, rfl⟩

theorem rakeNow (dt : Nat) (h : s.PumpSound) : (execRakeNow dt s).PumpSound :=
  ite (fun _ => h.elapse dt) fun _ => h.of_kept (by simp)

theorem differentialTrigger (dt : Nat) (h : s.PumpSound) : (execDifferentialTrigger dt s).PumpSound := by
  unfold execDifferentialTrigger
  split
  · exact h.elapse dt
  · exact h.of_kept (by simp)

theorem intervalTrigger (dt : Nat) (h : s.PumpSound) : (execIntervalTrigger dt s).PumpSound := by
  unfold execIntervalTrigger
  split
  · exact h.elapse dt
  · exact h.of_kept (by simp)

theorem camChange (dt : Nat) (closed : Bool) (h : s.PumpSound) : (execCamChange dt closed s).PumpSound :=
  ite (fun _ => h.elapse dt) fun _ => ite (fun _ => h.of_kept (by simp)) fun _ => h.of_kept ⟨rfl, rfl⟩

theorem forwardTimeLimit (dt : Nat) (h : s.PumpSound) : (execForwardTimeLimit dt s).PumpSound :=
  ite (fun _ => h.of_kept (by simp)) fun _ => h.elapse dt

theorem rakeOvercurrentInput (dt : Nat) (active : Bool) (h : s.PumpSound) :
    (execRakeOvercurrentInput dt active s).PumpSound := (h.elapse dt).of_kept ⟨rfl, rfl⟩

theorem overcurrent (dt : Nat) (h : s.PumpSound) : (execOvercurrent dt s).PumpSound := by
  unfold execOvercurrent
  split
  · exact h.elapse dt
  · exact h.of_kept (by simp)

theorem reverseEnergise (dt : Nat) (h : s.PumpSound) : (execReverseEnergise dt s).PumpSound := by
  unfold execReverseEnergise
  split
  · exact h.elapse dt
  · exact ite (fun _ => h.of_kept ⟨rfl, rfl⟩) fun _ => h.reach dt _

theorem reversingEnd (dt : Nat) (h : s.PumpSound) : (execReversingEnd dt s).PumpSound := by
  unfold execReversingEnd
  split
  · exact h.of_kept ⟨rfl, rfl⟩
  · exact h.elapse dt

theorem pauseEnd (dt : Nat) (h : s.PumpSound) : (execPauseEnd dt s).PumpSound := by
  unfold execPauseEnd
  split
  · exact h.of_kept ⟨rfl, rfl⟩
  · exact h.elapse dt

theorem setBlinded {v : Bool} (h : s.PumpSound) : (s.setBlinded v).PumpSound := by
  have ht : (s.onScreen fun c => { c with blinded := v }).PumpSound := h.of_kept ⟨rfl, rfl⟩
  exact ht.reformAvailability.handOver

theorem blindSet (dt : Nat) (h : s.PumpSound) : (execBlindSet dt s).PumpSound := by
  unfold execBlindSet
  split
  · exact h.elapse dt
  · exact ite (fun _ => h.reach dt _) fun _ => (h.reach dt _).setBlinded.finish

theorem blindClear (dt : Nat) (h : s.PumpSound) : (execBlindClear dt s).PumpSound := by
  unfold execBlindClear
  split
  · exact h.elapse dt
  · exact ite (fun _ => (h.reach dt _).setBlinded.finish) fun _ => h.reach dt _

theorem accept (dt : Nat) (h : s.PumpSound) : (execAccept dt s).PumpSound := by
  have ht : ((s.elapse dt).onPanel fun b => { b with accept := true }).PumpSound := h.of_kept ⟨rfl, rfl⟩
  exact ite (fun _ => h.elapse dt) fun _ => ite (fun _ => ht.acceptAll) fun _ => ht

theorem buttonRelease (dt : Nat) (button : Button) (h : s.PumpSound) : (execButtonRelease dt button s).PumpSound := by
  cases button
  case rakeNow => exact h.of_kept ⟨rfl, rfl⟩
  case accept => exact h.of_kept ⟨rfl, rfl⟩
  case reset => exact ite (fun _ => h.of_kept ⟨rfl, rfl⟩) fun _ => h.elapse dt

/-- Whatever command it is, the next state's pump is sound. -/
theorem exec (c : Instr) (h : s.PumpSound) : Result.PumpSound (exec c s) := by
  cases c with
  | powerUp => exact poweredUp s
  | resetPress dt => exact h.resetPress dt
  | latchReset dt => exact h.latchResetCommand dt
  | restart dt => exact h.restart dt
  | strapsDecided dt number => exact h.strapsDecided dt number
  | strapsTimeout dt => exact h.strapsTimeout dt
  | memoryAttemptStart dt => exact h.memoryAttemptStart dt
  | memoryNotAcknowledged dt => exact h.memoryNotAcknowledged dt
  | memoryReadComplete dt image => exact h.memoryReadComplete dt image
  | endOfStartUp dt => exact h.endOfStartUp dt
  | probeCycleBegin dt => exact h.probeCycleBegin dt
  | read dt => exact h.startAttempt
  | identify dt => exact h.startAttempt
  | noReply dt => exact h.noReply dt
  | probeReplyEnd dt reply => exact h.probeReplyEnd dt reply
  | probeByteDiscarded dt _ => exact h.elapse dt
  | floatExcitation dt float reading => exact h.floatExcitation dt float reading
  | lineIdle dt => exact h.lineIdle dt
  | arbitrationLost dt => exact h.arbitrationLost dt
  | frameCommitted dt => exact h.frameCommitted dt
  | frameComplete dt => exact h.frameComplete dt
  | notFollowing dt => exact h.notFollowing dt
  | arbitrationReadbackFault dt => exact h.arbitrationReadbackFault dt
  | readbackMismatch dt => exact h.readbackMismatch dt
  | txHeld dt => exact h.txHeld dt
  | lineHeld dt => exact h.lineHeld dt
  | frameDiscarded dt bits => exact h.frameDiscarded dt bits
  | addressConflict dt cls payload => exact h.addressConflict dt cls payload
  | status dt sender payload => exact h.status dt sender payload
  | claim dt sender payload => exact h.claim dt sender payload
  | spillNotice dt sender payload => exact h.spillNotice dt sender payload
  | alarmReport dt _ _ => exact h.peerFrame dt _ _ _
  | spillRecord dt _ _ => exact h.peerFrame dt _ _ _
  | intervalReport dt _ _ => exact h.peerFrame dt _ _ _
  | time dt day second => exact h.time dt day second
  | closeInterval dt => exact h.closeInterval dt
  | drawdown dt offset minutes => exact h.drawdown dt offset minutes
  | acceptAlarms dt => exact (h.elapse dt).townRequest fun _ => acceptAll
  | unknownTownKind dt payload => exact h.unknownTownKind dt payload
  | peerStale dt peer => exact h.peerStale dt peer
  | peerAbsent dt peer => exact h.peerAbsent dt peer
  | isolatedStartDelayEnd dt => exact h.isolatedStartDelayEnd dt
  | drawdownExpiry dt => exact h.drawdownExpiry dt
  | runClockSecond dt => exact h.runClockSecond dt
  | creditHour dt => exact h.creditHour dt
  | guardExpiry dt => exact h.guardExpiry dt
  | claimTimeEnd dt => exact h.claimTimeEnd dt
  | fallbackTimeEnd dt => exact h.fallbackTimeEnd dt
  | runFeedbackChange dt present => exact h.runFeedbackChange dt present
  | proofTimeEnd dt => exact h.proofTimeEnd dt
  | feedbackLost dt => exact h.feedbackLost dt
  | provingRunEnd dt => exact h.provingRunEnd dt
  | minRunEnd dt => exact h.minRunEnd dt
  | stopDelayEnd dt => exact h.stopDelayEnd dt
  | releaseTimeEnd dt => exact h.releaseTimeEnd dt
  | feedbackWithoutCommand dt => exact h.feedbackWithoutCommand dt
  | coolingTimeEnd dt => exact h.coolingTimeEnd dt
  | minOffEnd dt => exact h.minOffEnd dt
  | supplyStateChange dt healthy => exact h.supplyStateChange dt healthy
  | pumpSelectorMove dt inputs => exact h.pumpSelectorMove dt inputs
  | screenSelectorMove dt position => exact h.screenSelectorMove dt position
  | rakeNow dt => exact h.rakeNow dt
  | differentialTrigger dt => exact h.differentialTrigger dt
  | intervalTrigger dt => exact h.intervalTrigger dt
  | camChange dt closed => exact h.camChange dt closed
  | forwardTimeLimit dt => exact h.forwardTimeLimit dt
  | rakeOvercurrentInput dt active => exact h.rakeOvercurrentInput dt active
  | overcurrent dt => exact h.overcurrent dt
  | reverseEnergise dt => exact h.reverseEnergise dt
  | reversingEnd dt => exact h.reversingEnd dt
  | pauseEnd dt => exact h.pauseEnd dt
  | blindSet dt => exact h.blindSet dt
  | blindClear dt => exact h.blindClear dt
  | rearm dt kind => exact h.rearm dt kind
  | accept dt => exact h.accept dt
  | townAbsent dt => exact h.townAbsent dt
  | intervalBoundary dt => exact h.intervalBoundary dt
  | intervalLengthLimit dt => exact h.intervalLengthLimit dt
  | startBitRead dt => exact h.startBitRead dt
  | buttonRelease dt button => exact h.buttonRelease dt button
theorem step (h : s.PumpSound) : Result.PumpSound (step s) := by
  unfold Machine.step
  split
  · exact h.elapse 1
  · exact exec _ (h.of_kept ⟨rfl, rfl⟩)

end State.PumpSound
end Sys2Proof.Machine

open Sys2Proof.Machine in
/-- Settles O56: the items of the pump are kept in their states by every operation that a command's meaning calls. -/
theorem pumpStaysSound : Obligations.PumpStaysSound := by
  intro s t hsound hstep
  have h : Result.PumpSound (step s) := hsound.step
  rwa [hstep] at h

/-! ## What the pump's operations leave around the pump

`State.Around` says what a change of the pump, a start, a stop or a failure leaves as it was, and which counts it gives. It
is carried through the operations of the Pump Sequencer as the ranges are, one lemma per operation. -/

namespace Sys2Proof.Machine

variable {s t u : State} {ks : List AlarmKind} {gs : List (CountId × Nat)}

/-! ### Slots and reports, operation by operation -/

/-- A frame placed changes its own slot alone (R25, R27). -/
theorem State.place_line (s : State) (i : SlotId) (f : Frame) : ∃ x, (s.place i f).line = s.line.setSlot i x := by
  unfold State.place
  dsimp only
  (repeat' split) <;> exact ⟨_, rfl⟩

/-- Leaving the arbitration field changes the not-following count alone (R36). -/
theorem State.leaveField_line (s : State) : ∃ n, s.leaveField.line = { s.line with notFollowingCount := n } := by
  unfold State.leaveField
  (repeat' split) <;> exact ⟨_, rfl⟩

/-- A claim withdrawn in time leaves its slot empty, and no attempt on it (R28, R79). -/
theorem State.withdrawClaim_line_withdrawn (h : s.line.committed .claim = false) : ∃ a n,
    s.withdrawClaim.line = { s.line with claim := .empty, attempt := a, notFollowingCount := n } := by
  have hanswer : s.withdrawalAnswer .claim = .withdrawn := by simp [State.withdrawalAnswer, h]
  simp only [State.withdrawClaim, hanswer, State.withdraw, h, Bool.false_eq_true, if_false]
  split
  · obtain ⟨n, hn⟩ := (s.onLine fun u => { u.setSlot .claim .empty with attempt := none }).leaveField_line
    exact ⟨none, n, by rw [hn]; rfl⟩
  · exact ⟨s.line.attempt, s.line.notFollowingCount, rfl⟩

/-- A committed claim goes on, and its withdrawal stands (R27, R28, R79). -/
theorem State.withdrawClaim_line_tooLate (h : s.line.committed .claim = true) :
    s.withdrawClaim.line = { s.line with claim := ⟨s.line.claim.frame, none⟩, claimWithdrawal := true } := by
  have hanswer : s.withdrawalAnswer .claim = .tooLate := by simp [State.withdrawalAnswer, h]
  simp only [State.withdrawClaim, hanswer, State.withdraw, h, if_true]
  rfl

/-- A STATUS placed changes the STATUS slot alone (R46). -/
theorem State.placeStatus_line (s : State) : ∃ x, s.placeStatus.line = { s.line with status := x } := by
  unfold State.placeStatus
  (repeat' split)
  · exact ⟨_, rfl⟩
  · exact s.place_line .status _
  · exact ⟨_, rfl⟩

/-- So does publishing the own entry (R45, R46). -/
theorem State.publish_line (s : State) : ∃ x, s.publish.line = { s.line with status := x } := by
  unfold State.publish
  split
  · exact ⟨_, rfl⟩
  · split
    · exact ⟨_, rfl⟩
    · exact State.placeStatus_line _

theorem State.turnAbnormal_report (s : State) (k : AlarmKind) (n : Snapshot) :
    (s.turnAbnormal k n).report.apartFromSlot = s.report.apartFromSlot := by
  unfold State.turnAbnormal
  dsimp only
  (repeat' split) <;> rfl

theorem State.turnAbnormalSince_report (s : State) (l : List Snapshot) (k : AlarmKind) :
    (s.turnAbnormalSince l k).report.apartFromSlot = s.report.apartFromSlot := by
  unfold State.turnAbnormalSince
  split
  · exact s.turnAbnormal_report k _
  · have hchosen : (s.chooseSnapshot l).2.report = s.report := by simp
    rw [State.turnAbnormal_report, hchosen]

theorem State.handOver_report (s : State) (l : List Snapshot) (k : AlarmKind) :
    (s.handOver l k).report.apartFromSlot = s.report.apartFromSlot := by
  unfold State.handOver
  split
  · exact s.turnAbnormalSince_report l k
  · simp

theorem State.alarmEvent_report (s : State) (l : List Snapshot) (k : AlarmKind) :
    (s.alarmEvent l k).report.apartFromSlot = s.report.apartFromSlot := by
  have hturned : (s.alarmEvent l k).report = (s.turnAbnormalSince l k).report := by simp [State.alarmEvent]
  rw [hturned, s.turnAbnormalSince_report]

/-- An event touches the record of its own kind only (R156). -/
theorem State.alarmEvent_alarm_ne (s : State) {k j : AlarmKind} (l : List Snapshot) (h : k ≠ j) :
    (s.alarmEvent l k).alarm j = s.alarm j :=
  (State.turnNormal_alarm_ne _ h).trans (s.turnAbnormalSince_alarm_ne l h)

/-! ### The frame -/

/-- The state but for the blocks that a change of the pump may touch. -/
def State.outside (s : State) : State :=
  { s with
    line := State.reset.line, peers := State.reset.peers, staging := State.reset.staging, pump := State.reset.pump
    screen := State.reset.screen, alarms := State.reset.alarms, report := State.reset.report, draws := 0 }

/-- The Staging Unit but for the available flag, the start wish and the limit-held indication (R61 to R64). -/
def Staging.apartFromPump (g : Staging) : Staging :=
  { g with available := false, startWish := .notHeld, limitHeld := false }

/-- The Line Interface's protections and NOTICE slot, and nothing of the other slots and the attempt. -/
def LineUnit.apartFromPump (u : LineUnit) : LineUnit :=
  { u with
    idle := false, attempt := none, claim := .empty, status := .empty, report := .empty, claimWithdrawal := false
    reportWithdrawal := false, notFollowingCount := 0 }

/-- The Report Unit with counts given at this moment; with no interval in progress none is taken (R169, R174). -/
def ReportUnit.given (gs : List (CountId × Nat)) (r : ReportUnit) : ReportUnit :=
  if r.interval.isSome then { r with aside := r.aside ++ gs } else r

/-- `t` comes from `u` by changes of the pump and what goes with them, with `gs` counted; of the alarms, those of the kinds
`ks` may have changed. -/
structure State.Around (ks : List AlarmKind) (gs : List (CountId × Nat)) (u t : State) : Prop where
  outside : t.outside = u.outside
  alarms : ∀ k, k ∉ ks → t.alarm k = u.alarm k
  peers : ∀ a, u.startUp.address ≠ some a → t.peers.get a = u.peers.get a
  entries : ∀ (v : State) a, v.withPublished (t.peers.get a) = v.withPublished (u.peers.get a)
  staging : t.staging.apartFromPump = u.staging.apartFromPump
  line : t.line.apartFromPump = u.line.apartFromPump
  report : t.report.apartFromSlot = (u.report.given gs).apartFromSlot

theorem ReportUnit.given_nil (r : ReportUnit) : r.given [] = r := by
  simp [ReportUnit.given]

/-- Counts given after others of the same moment. -/
theorem ReportUnit.given_given (r : ReportUnit) (gs hs : List (CountId × Nat)) :
    (r.given gs).given hs = r.given (gs ++ hs) := by
  unfold ReportUnit.given
  split
  · simp [*]
  · simp [*]

theorem ReportUnit.given_congr {r q : ReportUnit} (h : r.apartFromSlot = q.apartFromSlot) (gs : List (CountId × Nat)) :
    (r.given gs).apartFromSlot = (q.given gs).apartFromSlot := by
  have hsame (x : ReportUnit) : (x.given gs).apartFromSlot = (x.apartFromSlot.given gs).apartFromSlot := by
    unfold ReportUnit.given
    split <;> simp_all [ReportUnit.apartFromSlot]
  rw [hsame r, hsame q, h]

namespace State.Around

theorem refl (s : State) : s.Around ks [] s :=
  ⟨rfl, fun _ _ => rfl, fun _ _ => rfl, fun _ _ => rfl, rfl, rfl, by rw [ReportUnit.given_nil]⟩

theorem address (h : u.Around ks gs t) : t.startUp.address = u.startUp.address := by
  have haddress := congrArg (fun x : State => x.startUp.address) h.outside
  exact haddress

theorem trans {hs : List (CountId × Nat)} (h : u.Around ks gs s) (g : s.Around ks hs t) : u.Around ks (gs ++ hs) t where
  outside := g.outside.trans h.outside
  alarms k hk := (g.alarms k hk).trans (h.alarms k hk)
  peers a ha := (g.peers a (by rwa [h.address])).trans (h.peers a ha)
  entries v a := (g.entries v a).trans (h.entries v a)
  staging := g.staging.trans h.staging
  line := g.line.trans h.line
  report := by rw [g.report, ReportUnit.given_congr h.report, ReportUnit.given_given]

/-- A step that counts nothing. -/
theorem step (h : u.Around ks gs s) (g : s.Around ks [] t) : u.Around ks gs t := by
  simpa using h.trans g

/-- An operation that leaves the alarms and the peer table. -/
theorem of_kept (h : u.Around ks gs s) (houtside : t.outside = s.outside) (halarms : t.alarms = s.alarms)
    (hpeers : t.peers = s.peers) (hstaging : t.staging.apartFromPump = s.staging.apartFromPump)
    (hline : t.line.apartFromPump = s.line.apartFromPump)
    (hreport : t.report.apartFromSlot = s.report.apartFromSlot) : u.Around ks gs t :=
  h.step ⟨houtside, fun k _ => State.alarm_congr halarms k, fun _ _ => by rw [hpeers], fun _ _ => by rw [hpeers],
    hstaging, hline, by rw [ReportUnit.given_nil, hreport]⟩

/-- An operation of the alarm table on kinds that may change. -/
theorem of_alarms (h : u.Around ks gs s) (houtside : t.outside = s.outside) (hpeers : t.peers = s.peers)
    (hstaging : t.staging = s.staging) (hline : t.line = s.line)
    (hreport : t.report.apartFromSlot = s.report.apartFromSlot)
    (halarms : ∀ k, k ∉ ks → t.alarm k = s.alarm k) : u.Around ks gs t :=
  h.step ⟨houtside, halarms, fun _ _ => by rw [hpeers], fun _ _ => by rw [hpeers], by rw [hstaging], by rw [hline],
    by rw [ReportUnit.given_nil, hreport]⟩

theorem ite {c : Prop} [Decidable c] (hs : c → u.Around ks gs s) (ht : ¬ c → u.Around ks gs t) :
    u.Around ks gs (if c then s else t) := by
  split
  · exact hs ‹_›
  · exact ht ‹_›

theorem onPump {f : Pump → Pump} (h : u.Around ks gs s) : u.Around ks gs (s.onPump f) :=
  h.of_kept rfl rfl rfl rfl rfl rfl

theorem onScreen {f : Screen → Screen} (h : u.Around ks gs s) : u.Around ks gs (s.onScreen f) :=
  h.of_kept rfl rfl rfl rfl rfl rfl

theorem onStaging {f : Staging → Staging} (h : u.Around ks gs s)
    (hf : (f s.staging).apartFromPump = s.staging.apartFromPump) : u.Around ks gs (s.onStaging f) :=
  h.of_kept rfl rfl rfl hf rfl rfl

theorem onLine {f : LineUnit → LineUnit} (h : u.Around ks gs s)
    (hf : (f s.line).apartFromPump = s.line.apartFromPump) : u.Around ks gs (s.onLine f) :=
  h.of_kept rfl rfl rfl rfl hf rfl

theorem count {i : CountId} {n : Nat} (h : u.Around ks gs s) : u.Around ks (gs ++ [(i, n)]) (s.count i n) :=
  h.trans ⟨rfl, fun _ _ => rfl, fun _ _ => rfl, fun _ _ => rfl, rfl, rfl, rfl⟩

theorem handOver {l : List Snapshot} {k : AlarmKind} (h : u.Around ks gs s) (hk : k ∈ ks) :
    u.Around ks gs (s.handOver l k) :=
  h.of_alarms (by simp [State.outside]) (by simp) (by simp) (by simp) (s.handOver_report l k)
    fun _ hj => s.handOver_alarm_ne l (ne_of_mem_of_not_mem hk hj)

theorem alarmEvent {l : List Snapshot} {k : AlarmKind} (h : u.Around ks gs s) (hk : k ∈ ks) :
    u.Around ks gs (s.alarmEvent l k) :=
  h.of_alarms (by simp [State.outside]) (by simp) (by simp) (by simp) (s.alarmEvent_report l k)
    fun _ hj => s.alarmEvent_alarm_ne l (ne_of_mem_of_not_mem hk hj)

theorem publish (h : u.Around ks gs s) : u.Around ks gs s.publish := by
  obtain ⟨x, hline⟩ := s.publish_line
  refine h.step ⟨by simp [State.outside], fun k _ => State.alarm_congr (by simp) k,
    (State.Follows.refl (steady := false) s).publish.peers, fun v a => s.publish_entries v a, by simp, by rw [hline]; rfl,
    by simp [ReportUnit.given_nil]⟩

theorem placeClaim (h : u.Around ks gs s) : u.Around ks gs s.placeClaim := by
  obtain ⟨x, hline⟩ := s.place_line .claim (.claim s.staging.dAuto s.pump.credit)
  exact h.of_kept (by simp [State.outside]) (by simp) (by simp) (by simp) (by rw [State.placeClaim, hline]; rfl) (by simp)

theorem withdrawClaim (h : u.Around ks gs s) : u.Around ks gs s.withdrawClaim := by
  refine h.of_kept (by simp [State.outside]) (by simp) (by simp) (by simp) ?_ (by simp)
  cases hc : s.line.committed .claim
  · obtain ⟨a, n, hline⟩ := State.withdrawClaim_line_withdrawn hc
    rw [hline]; rfl
  · rw [State.withdrawClaim_line_tooLate hc]; rfl

/-- The selection and the offer that close a step (R26, R177). -/
theorem finish (h : u.Around ks gs s) : u.Around ks gs s.finish := by
  obtain ⟨_, hline, hreport⟩ := s.finish_selects
  have hline' := congrArg LineUnit.apartFromPump hline
  exact h.of_kept (by simp [State.outside]) (by simp) (by simp) (by simp) hline' hreport

/-! ### Pump Sequencer -/

theorem formAvailable (h : u.Around ks gs s) : u.Around ks gs s.formAvailable := (h.onStaging rfl).publish

theorem endHandClaim (h : u.Around ks gs s) : u.Around ks gs s.endHandClaim := by
  unfold State.endHandClaim
  exact ite (fun _ => h) fun _ => (ite (fun _ => h.withdrawClaim) fun _ => h).onPump

theorem changePump {f : Pump → Pump} (h : u.Around ks gs s) : u.Around ks gs (s.changePump f) :=
  h.onPump.endHandClaim.onPump

theorem limitWish (h : u.Around ks gs s) : u.Around ks gs s.limitWish :=
  h.onStaging (by split <;> rfl)

theorem pumpSource {old : PumpState} (h : u.Around ks gs s) : u.Around ks gs (s.pumpSource old) :=
  h.of_kept (by simp [State.outside]) (by simp) (by simp) (by simp) (by simp) (by simp)

theorem setGuard (h : u.Around ks gs s) : u.Around ks gs s.setGuard := h.onPump

theorem addStart (h : u.Around ks gs s) : u.Around ks gs s.addStart := h.onPump

section

variable (ha5 : AlarmKind.a5 ∈ ks)
include ha5

/-- A change of the pump, with A5 handed over (R95). -/
theorem movePump {f : Pump → Pump} (h : u.Around ks gs s) : u.Around ks gs (s.movePump f) :=
  (h.changePump.limitWish.formAvailable.handOver ha5).pumpSource

theorem lock {c : LockCause} (h : u.Around ks gs s) : u.Around ks gs (s.lock c) := by
  unfold State.lock
  exact ite (fun _ => h) fun _ => h.movePump ha5

theorem claimResolved (h : u.Around ks gs s) : u.Around ks gs s.claimResolved := by
  unfold State.claimResolved
  exact ite (fun _ => h.lock ha5) fun _ => ite (fun _ => h.movePump ha5) fun _ => h

theorem loseClaim (h : u.Around ks gs s) : u.Around ks gs s.loseClaim := by
  unfold State.loseClaim
  split
  · exact h.withdrawClaim.claimResolved ha5
  · exact h.withdrawClaim.movePump ha5

theorem dropWish (h : u.Around ks gs s) : u.Around ks gs s.dropWish := by
  have ht : u.Around ks gs (s.onStaging fun g => { g with startWish := .notHeld }) := h.onStaging rfl
  unfold State.dropWish
  exact ite (fun _ => ht.loseClaim ha5) fun _ => ht

theorem reformAvailability (h : u.Around ks gs s) : u.Around ks gs s.reformAvailability := by
  unfold State.reformAvailability
  exact ite (fun _ => h.formAvailable.dropWish ha5) fun _ => h.formAvailable

theorem beginClaim (h : u.Around ks gs s) : u.Around ks gs s.beginClaim := h.placeClaim.movePump ha5

theorem released (h : u.Around ks gs s) : u.Around ks gs s.released := h.movePump ha5

theorem goStopping (h : u.Around ks gs s) : u.Around ks gs s.goStopping := by
  unfold State.goStopping
  exact ite (fun _ => h.movePump ha5) fun _ => (h.movePump ha5).released ha5

theorem actOnStop (h : u.Around ks gs s) : u.Around ks gs s.actOnStop := by
  unfold State.actOnStop
  refine ite (fun _ => h) fun _ => ite (fun _ => h.onPump) fun _ => ite (fun _ => h) fun _ => ?_
  split
  · exact h.goStopping ha5
  · exact h.onPump

theorem stopFloatCutOut (h : u.Around ks gs s) : u.Around ks gs s.stopFloatCutOut := by
  unfold State.stopFloatCutOut
  exact ite (fun _ => h.goStopping ha5) fun _ => h

theorem enterRunning (h : u.Around ks gs s) : u.Around ks gs s.enterRunning :=
  ((h.movePump ha5).stopFloatCutOut ha5).actOnStop ha5

theorem earlyProof (h : u.Around ks gs s) : u.Around ks (gs ++ [(.failedStarts, 1)]) s.earlyProof := h.count.lock ha5

theorem proven (h : u.Around ks gs s) : u.Around ks gs s.proven := by
  unfold State.proven
  exact ite (fun _ => h.movePump ha5) fun _ => h.enterRunning ha5

theorem failedTo (h : u.Around ks gs s) : u.Around ks gs s.failedTo := by
  unfold State.failedTo
  exact ite (fun _ => h.onPump.lock ha5) fun _ => h.onPump.movePump ha5

theorem failure {k : AlarmKind} (h : u.Around ks gs s) (hk : k ∈ ks) : u.Around ks gs (s.failure k) :=
  (h.failedTo ha5).alarmEvent hk

end

/-- The start list ages, with A6 handed over (R64, R84). -/
theorem ageStarts (ha6 : AlarmKind.a6 ∈ ks) (h : u.Around ks gs s) : u.Around ks gs s.ageStarts := by
  have ht : u.Around ks gs ((s.onPump (Pump.aged s.startUp.runClock)).onStaging fun g => { g with limitHeld := false }) :=
    h.onPump.onStaging rfl
  unfold State.ageStarts
  exact ite (fun _ => h) fun _ => ht.formAvailable.handOver ha6

theorem fullListEvent {b : Bool} {l : List Snapshot} (ha6 : AlarmKind.a6 ∈ ks) (h : u.Around ks gs s) :
    u.Around ks gs (s.fullListEvent b l) := by
  unfold State.fullListEvent
  exact ite (fun _ => h.alarmEvent ha6) fun _ => h

/-! ### What the frame says -/

theorem sameBut (h : u.Around ks gs t) (hscreen : t.screen = u.screen) :
    State.SameBut [.line, .peers, .staging, .pump, .alarms, .report] u t := by
  obtain ⟨hout, _⟩ := h
  simp only [State.outside, State.mk.injEq] at hout
  obtain ⟨hnow, hstartUp, hprobes, hfloats, _, _, _, _, hsupply, _, hweir, _, _, hpanel, _, hpending⟩ := hout
  simp [State.SameBut, hnow, hstartUp, hprobes, hfloats, hsupply, hweir, hpanel, hpending, hscreen]

/-- With the screen too, which an entry into RUNNING may trigger (R118). -/
theorem sameBut_screen (h : u.Around ks gs t) :
    State.SameBut [.line, .peers, .staging, .pump, .screen, .alarms, .report] u t := by
  obtain ⟨hout, _⟩ := h
  simp only [State.outside, State.mk.injEq] at hout
  obtain ⟨hnow, hstartUp, hprobes, hfloats, _, _, _, _, hsupply, _, hweir, _, _, hpanel, _, hpending⟩ := hout
  simp [State.SameBut, hnow, hstartUp, hprobes, hfloats, hsupply, hweir, hpanel, hpending]

theorem aroundThePump (h : u.Around ks gs t) : State.AroundThePump ks u t := by
  refine ⟨h.alarms, h.peers, fun own _ => h.entries t own, ?_, ?_, ?_⟩
  · exact congrArg (fun g : Staging => { g with
      available := t.staging.available, startWish := t.staging.startWish, limitHeld := t.staging.limitHeld }) h.staging
  · exact congrArg (fun l : LineUnit => { l with
      idle := t.line.idle, attempt := t.line.attempt, claim := t.line.claim, status := t.line.status
      report := t.line.report, claimWithdrawal := t.line.claimWithdrawal
      reportWithdrawal := t.line.reportWithdrawal, notFollowingCount := t.line.notFollowingCount }) h.line
  · have hgiven : ({ (u.report.given gs) with aside := t.report.aside, itemGone := t.report.itemGone } : ReportUnit) =
        { u.report with aside := t.report.aside, itemGone := t.report.itemGone } := by
      unfold ReportUnit.given
      split <;> rfl
    exact (congrArg (fun r : ReportUnit => { r with
      aside := t.report.aside, itemGone := t.report.itemGone }) h.report).trans hgiven

/-- With nothing counted the accumulators stand. -/
theorem accumulated_nil (h : u.Around ks [] t) : t.report.accumulated = u.report.accumulated := by
  have hreport := h.report
  rw [ReportUnit.given_nil] at hreport
  have haccumulated := congrArg ReportUnit.accumulated hreport
  exact haccumulated

/-- With an interval in progress the counts given join their accumulators (R169, R174). -/
theorem accumulated_all (h : u.Around ks gs t) (hinterval : u.report.interval.isSome = true) :
    t.report.accumulated = u.report.accumulated.addAll gs := by
  have hreport := h.report
  rw [ReportUnit.given, if_pos hinterval] at hreport
  have haccumulated := congrArg ReportUnit.accumulated hreport
  refine haccumulated.trans ?_
  show u.report.counts.addAll (u.report.aside ++ gs) = _
  rw [Accumulators.addAll, List.foldl_append]
  rfl

/-- One count is added to its accumulator (R169). -/
theorem accumulated_one {g : CountId × Nat} (h : u.Around ks [g] t) (hinterval : u.report.interval.isSome = true) :
    t.report.accumulated = u.report.accumulated.add g := h.accumulated_all hinterval

end State.Around
end Sys2Proof.Machine

/-! ## The pump as its operations leave it

The pump after each shared operation of the Pump Sequencer, item by item where the items stand (R71, R72, R83 to R96), the
claim slot beside it (R79, R110), and A5 (R95). -/

namespace Sys2Proof.Machine

variable {s t u : State}

/-! ### What a sound pump holds, item by item (R71, R76, R86 to R92, R110) -/

namespace Pump.Sound

variable {p : Pump} {m : Nat}

theorem claiming {x : ClaimPhase} (h : p.Sound) (hphase : p.claimPhase = some x) : p.state = .claiming :=
  of_decide_eq_true (h.1.symm.trans (by simp [hphase]))

theorem claimPhase_none (h : p.Sound) (hstate : p.state ≠ .claiming) : p.claimPhase = none := by
  simpa [hstate] using h.1

theorem proving {w : ProvingWindow} (h : p.Sound) (hwindow : p.window = some w) : p.proving = true := by
  obtain ⟨_, hsome, _⟩ := h
  rw [← hsome, hwindow]
  rfl

theorem handClaim_isSome (h : p.Sound) : p.handClaim.isSome = decide (p.state = .hand) := by
  obtain ⟨_, _, _, _, hclaim, _⟩ := h
  exact hclaim

theorem waiting (h : p.Sound) (htime : p.claimTime = some m) : p.claimPhase = some .waiting := by
  obtain ⟨_, _, _, _, _, _, hwaiting, _⟩ := h
  exact hwaiting (by simp [htime])

theorem fallback (h : p.Sound) (htime : p.fallbackTime = some m) : p.claimPhase = some .fallback := by
  obtain ⟨_, _, _, _, _, _, _, hfallback, _⟩ := h
  exact hfallback (by simp [htime])

theorem stopping (h : p.Sound) (htime : p.releaseTime = some m) : p.state = .stopping := by
  obtain ⟨_, _, _, _, _, _, _, _, hstopping, _⟩ := h
  exact hstopping (by simp [htime])

theorem proved (h : p.Sound) (htime : p.lossTimer = some m) : p.proved = true := by
  obtain ⟨_, _, _, _, _, _, _, _, _, _, _, _, hproved, _⟩ := h
  exact hproved (by simp [htime])

theorem watched (h : p.Sound) (htime : p.strayTimer = some m) : p.watch ≠ .off := by
  obtain ⟨_, _, _, _, _, _, _, _, _, _, _, _, _, hwatch, _⟩ := h
  exact hwatch (by simp [htime])

theorem watched_opened (h : p.Sound) (htime : p.openedAt = some m) : p.watch = .auto := by
  obtain ⟨_, _, _, _, _, _, _, _, _, _, _, _, _, _, hwatch, _⟩ := h
  exact hwatch (by simp [htime])

/-- Outside HAND there is no hand claim (R110). -/
theorem claimPlaced (h : p.Sound) (hstate : p.state ≠ .hand) : p.claimPlaced = false := by
  have hnone : p.handClaim = none := by simpa [hstate] using h.handClaim_isSome
  simp [Pump.claimPlaced, hnone]

/-- In CLAIMING the claim may be lost until it is being withdrawn (R76, R79). -/
theorem mayLoseClaim (h : p.Sound) (hstate : p.state = .claiming) (hphase : p.claimPhase ≠ some .withdrawing) :
    p.mayLoseClaim = true := by
  have hsome : p.claimPhase.isSome = true := by simp [h.1, hstate]
  obtain ⟨x, hx⟩ := Option.isSome_iff_exists.mp hsome
  cases x with
  | waiting => simp [Pump.mayLoseClaim, hx]
  | fallback => simp [Pump.mayLoseClaim, hx]
  | withdrawing => exact absurd hx hphase

end Pump.Sound

/-! ### Single items of the lasting ones -/

theorem Pump.starts_of_lasting {p q : Pump} (h : p.lasting = q.lasting) : p.starts = q.starts := by
  have hstarts := congrArg Pump.starts h
  exact hstarts

theorem Pump.starts_of_lasting_with {p q : Pump} {l : List Nat} (h : p.lasting = { q.lasting with starts := l }) :
    p.starts = l := by
  have hstarts := congrArg Pump.starts h
  exact hstarts

theorem Pump.guard_of_lasting {p q : Pump} (h : p.lasting = q.lasting) : p.guard = q.guard := by
  have hguard := congrArg Pump.guard h
  exact hguard

/-! ### A change of the pump -/

/-- A hand claim that may stand, or that is neither due nor placed, is not touched by a change (R110). -/
theorem State.endHandClaim_eq
    (h : s.pump.mayClaim = true ∨ s.pump.handClaim = none ∨ s.pump.handClaim = some .noClaim) : s.endHandClaim = s := by
  obtain ⟨c, hc⟩ : ∃ c, c = s.pump.handClaim := ⟨_, rfl⟩
  unfold State.endHandClaim
  rcases h with h | h | h
  · rw [if_pos h]
  all_goals
    have hsame : s.onPump (fun p => { p with handClaim := c }) = s := by rw [hc]; rfl
    split
    · rfl
    · rw [h] at hc
      simpa [Pump.claimPlaced, h, State.onPump, hc] using hsame

/-- A change of the pump, a hand claim in hand left out (R71, R110). -/
theorem State.movePump_pump_claim (s : State) (f : Pump → Pump) : ∃ c,
    (s.movePump f).pump = Pump.tidied s.now (s.after s.general.minOff) s.pump { f s.pump with handClaim := c } := by
  obtain ⟨c, hc, _⟩ := (s.onPump f).endHandClaim_pump
  exact ⟨c, by rw [State.movePump_pump, State.changePump, State.onPump_pump, hc, State.onPump_pump]⟩

/-- A change that leaves the hand claim is the change with the items and times of the new state (R71). -/
theorem State.movePump_pump_eq {f : Pump → Pump}
    (h : (f s.pump).mayClaim = true ∨ (f s.pump).handClaim = none ∨ (f s.pump).handClaim = some .noClaim) :
    (s.movePump f).pump = Pump.tidied s.now (s.after s.general.minOff) s.pump (f s.pump) := by
  rw [State.movePump_pump, State.changePump, State.onPump_pump, State.endHandClaim_eq (by exact h), State.onPump_pump]

/-- The items that go with no one state are left to the change (R68, R74, R75, R84, R93, R94, R107). -/
theorem State.movePump_lasting (s : State) (f : Pump → Pump) : (s.movePump f).pump.lasting = (f s.pump).lasting := by
  obtain ⟨c, hc⟩ := s.movePump_pump_claim f
  rw [hc]
  rfl

/-- A change that withdraws no hand claim changes no slot but the STATUS (R46, R110). -/
theorem State.movePump_line {f : Pump → Pump} (h : (f s.pump).mayClaim = true ∨ (f s.pump).claimPlaced = false) :
    ∃ x, (s.movePump f).line = { s.line with status := x } := by
  have hchange : (s.changePump f).line = s.line := by
    simp only [State.changePump, State.onPump_line, State.endHandClaim]
    split
    · rfl
    · next hmay =>
      have hplaced : (f s.pump).claimPlaced = false := h.resolve_left hmay
      simp [hplaced]
  obtain ⟨x, hx⟩ := (((s.changePump f).limitWish).onStaging fun g => { g with
    available := (s.changePump f).limitWish.isAvailable }).publish_line
  refine ⟨x, ?_⟩
  simp only [State.movePump, State.pumpSource_keeps, State.handOver_keeps, State.formAvailable]
  rw [hx]
  simp [hchange]

/-- The start wish is held in READY and CLAIMING only (R62). -/
theorem State.movePump_startWish_notHeld {f : Pump → Pump} (h : (s.movePump f).pump.mayWish = false) :
    (s.movePump f).staging.startWish = .notHeld := by
  rw [State.movePump_pump] at h
  simp [State.movePump, State.formAvailable, State.limitWish, h]

/-- A5 is abnormal in LOCKED, and normal elsewhere (R95). -/
theorem State.movePump_a5 (hended : s.ended) (f : Pump → Pump) :
    ((s.movePump f).alarm .a5).abnormal = decide ((f s.pump).state = .locked) := by
  obtain ⟨v, hv⟩ : ∃ v, v = (s.changePump f).limitWish.formAvailable := ⟨_, rfl⟩
  have hvended : v.ended := State.ended_of_kept hended (by simp [hv])
  have halarms : (s.movePump f).alarm .a5 = (v.handOver [] .a5).alarm .a5 :=
    State.alarm_congr (by simp [State.movePump, hv]) _
  have hstate : v.pump.state = (f s.pump).state := by simp [hv]
  rw [halarms, State.handOver_abnormal hvended, State.condition, hstate]

/-! ### The contactor -/

theorem Pump.closed_of_locked {p : Pump} (h : p.state = .locked) : p.closed = false := by
  simp [Pump.closed, h]

/-- The opening of the contactor starts the min-off time (R96). -/
theorem Pump.tidied_minOff_opened {old new : Pump} (hold : old.closed = true) (hnew : new.closed = false) (now : Nat)
    (m : Option Nat) : (Pump.tidied now m old new).minOff = m := by
  simp [Pump.tidied, hold, hnew]

/-- A change that does not open it leaves the min-off time to the change (R96). -/
theorem Pump.tidied_minOff_kept {old new : Pump} (h : old.closed = false ∨ new.closed = true) (now : Nat)
    (m : Option Nat) : (Pump.tidied now m old new).minOff = new.minOff := by
  rcases h with h | h <;> simp [Pump.tidied, h]

theorem State.after_minOff_congr (hnow : t.now = s.now) (hstartUp : t.startUp = s.startUp) :
    t.after t.general.minOff = s.after s.general.minOff := by
  simp [State.after, hnow, State.general_congr hstartUp]

/-- In HAND while HALTED it stands open too (R110). -/
theorem Pump.closed_of_halted {p : Pump} (hhand : p.state = .hand) (hphase : p.handPhase = some .halted) :
    p.closed = false := by
  simp [Pump.closed, hhand, hphase]

/-! ### Lockouts (R95) -/

theorem State.lock_eq {c : LockCause} (h : s.pump.state ≠ .locked) :
    s.lock c = s.movePump fun p => { p with state := .locked, lockCause := some c } := by
  rw [State.lock, if_neg h]

/-- A cause found in LOCKED changes nothing (R95). -/
theorem State.lock_of_locked {c : LockCause} (h : s.pump.state = .locked) : s.lock c = s := by
  rw [State.lock, if_pos h]

theorem State.lock_locks {c : LockCause} (h : s.pump.state ≠ .locked) :
    (s.lock c).pump.state = .locked ∧ (s.lock c).pump.lockCause = some c ∧ (s.lock c).pump.lockPending = false := by
  rw [State.lock_eq h, State.movePump_pump_tidied _ _ (by simp)]
  simp [Pump.tidied, keepIf]

theorem State.lock_lasting (s : State) (c : LockCause) : (s.lock c).pump.lasting = s.pump.lasting := by
  unfold State.lock
  split
  · rfl
  · exact s.movePump_lasting _

theorem State.lock_a5 {c : LockCause} (hended : s.ended) (h : s.pump.state ≠ .locked) :
    ((s.lock c).alarm .a5).abnormal = true := by
  rw [State.lock_eq h, State.movePump_a5 hended]
  simp

/-- A lockout from a state without a placed hand claim leaves the claim slot (R110). -/
theorem State.lock_line {c : LockCause} (h : s.pump.claimPlaced = false) :
    ∃ x, (s.lock c).line = { s.line with status := x } := by
  unfold State.lock
  split
  · exact ⟨_, rfl⟩
  · exact State.movePump_line (.inr h)

/-! ### Early proof (R86) -/

theorem State.earlyProof_lasting (s : State) : s.earlyProof.pump.lasting = s.pump.lasting :=
  (s.count .failedStarts 1).lock_lasting .earlyProof

theorem State.earlyProof_line (h : s.pump.claimPlaced = false) :
    ∃ x, s.earlyProof.line = { s.line with status := x } :=
  State.lock_line (s := s.count .failedStarts 1) h

/-! ### Claims (R79) -/

/-- In CLAIMING, and before the claim is committed, a lost claim leaves its slot and is resolved (R79). -/
theorem State.loseClaim_withdrawn (h : s.line.committed .claim = false) :
    s.loseClaim = s.withdrawClaim.claimResolved := by
  simp [State.loseClaim, State.withdrawalAnswer, h]

theorem State.loseClaim_tooLate (h : s.line.committed .claim = true) :
    s.loseClaim = s.withdrawClaim.movePump fun p => { p with claimPhase := some .withdrawing } := by
  simp [State.loseClaim, State.withdrawalAnswer, h]

theorem State.claimResolved_lasting (s : State) : s.claimResolved.pump.lasting = s.pump.lasting := by
  unfold State.claimResolved
  split
  · exact s.lock_lasting _
  · split
    · exact s.movePump_lasting _
    · rfl

theorem State.loseClaim_lasting (s : State) : s.loseClaim.pump.lasting = s.pump.lasting := by
  have hpump : s.withdrawClaim.pump = s.pump := by simp
  unfold State.loseClaim
  split
  · rw [State.claimResolved_lasting, hpump]
  · rw [State.movePump_lasting, hpump]
    rfl

theorem State.dropWish_lasting (s : State) : s.dropWish.pump.lasting = s.pump.lasting := by
  unfold State.dropWish
  dsimp only
  split
  · exact State.loseClaim_lasting _
  · rfl

theorem State.reformAvailability_lasting (s : State) : s.reformAvailability.pump.lasting = s.pump.lasting := by
  have hformed : s.formAvailable.pump = s.pump := by simp [State.formAvailable]
  unfold State.reformAvailability
  dsimp only
  split
  · rw [State.dropWish_lasting, hformed]
  · rw [hformed]

/-! ### Stopping (R89 to R91) -/

theorem State.goStopping_of_feedback (h : s.pump.feedback = true) :
    s.goStopping = s.movePump fun p => { p with state := .stopping, releaseTime := some (s.now + 2000) } := by
  simp [State.goStopping, h]

theorem State.goStopping_of_noFeedback (h : s.pump.feedback = false) :
    s.goStopping = (s.movePump fun p => { p with
      state := .stopping, releaseTime := some (s.now + 2000) }).released := by
  simp [State.goStopping, h]

theorem State.released_lasting (s : State) : s.released.pump.lasting = s.pump.lasting := s.movePump_lasting _

theorem State.goStopping_lasting (s : State) : s.goStopping.pump.lasting = s.pump.lasting := by
  unfold State.goStopping
  dsimp only
  split
  · exact s.movePump_lasting _
  · exact (State.released_lasting _).trans (s.movePump_lasting _)

/-- A stop with the feedback present: STOPPING, with the release time running (R91). -/
theorem State.goStopping_waits (h : s.pump.feedback = true) :
    s.goStopping.pump.state = .stopping ∧ s.goStopping.pump.releaseTime = some (s.now + 2000) := by
  rw [State.goStopping_of_feedback h, State.movePump_pump_tidied _ _ (by simp)]
  simp [Pump.tidied, keepIf]

theorem State.released_state (s : State) : s.released.pump.state = .ready := by simp [State.released]

/-- A stop with the feedback absent is READY at once (R91). -/
theorem State.goStopping_ready (h : s.pump.feedback = false) : s.goStopping.pump.state = .ready := by
  rw [State.goStopping_of_noFeedback h, State.released_state]

theorem State.goStopping_open (s : State) : s.goStopping.pump.closed = false :=
  Pump.closed_of_stopped s.goStopping_state

/-- A release starts the min-off time (R91, R96). -/
theorem State.released_minOff (h : s.pump.closed = false) : s.released.pump.minOff = s.after s.general.minOff := by
  rw [State.released, State.movePump_pump_tidied _ _ (by simp), Pump.tidied_minOff_kept (.inl h)]

/-- A stop that opens the contactor starts the min-off time and ends the times of running (R89, R91, R96). -/
theorem State.goStopping_times (h : s.pump.closed = true) :
    s.goStopping.pump.minOff = s.after s.general.minOff ∧ s.goStopping.pump.minRun = none ∧
    s.goStopping.pump.stopDelay = none ∧ s.goStopping.pump.provingRun = none := by
  obtain ⟨f, hf⟩ : ∃ f : Pump → Pump, f = fun p => { p with state := .stopping, releaseTime := some (s.now + 2000) } :=
    ⟨_, rfl⟩
  have hpump := s.movePump_pump_tidied f (by simp [hf])
  have hopen : (s.movePump f).pump.closed = false := Pump.closed_of_stopped (by simp [hf])
  have hafter := State.after_minOff_congr (s := s) (t := s.movePump f) (by simp) (by simp)
  have hmoved : (s.movePump f).pump.minOff = s.after s.general.minOff := by
    rw [hpump, Pump.tidied_minOff_opened h (by rw [hf]; rfl)]
  cases hfeedback : s.pump.feedback
  · rw [State.goStopping_of_noFeedback hfeedback, ← hf]
    refine ⟨(State.released_minOff hopen).trans hafter, ?_⟩
    rw [State.released, State.movePump_pump_tidied _ _ (by simp)]
    simp [Pump.tidied, keepIf, Pump.proved]
  · rw [State.goStopping_of_feedback hfeedback, ← hf]
    refine ⟨hmoved, ?_⟩
    rw [hpump]
    simp [hf, Pump.tidied, keepIf, Pump.proved]

end Sys2Proof.Machine

/-! ## The outputs (R72, R98, R99, R110, R116, R133, R164, R165) -/

namespace Sys2Proof.Machine

variable {s : State}

theorem State.contactor_iff : s.contactor = true ↔ s.pump.state = .proving ∨ s.pump.state = .running ∨
    (s.pump.state = .hand ∧ (s.pump.handPhase = some .window ∨ s.pump.handPhase = some .proved)) := by
  cases h : s.pump.state <;> simp [State.contactor, Pump.closed, h]

/-- In HAND the RUN lamp follows the hand phase, and elsewhere the pump state alone (R98, R113). -/
theorem State.runLamp_iff :
    (s.runLamp = .steady ↔ s.pump.state = .running ∨ (s.pump.state = .hand ∧ s.pump.handPhase = some .proved)) ∧
    (s.runLamp = .flashing ↔ s.pump.state = .proving ∨ (s.pump.state = .hand ∧ s.pump.handPhase = some .window)) := by
  cases hstate : s.pump.state
  case hand =>
    rcases hphase : s.pump.handPhase with _ | phase
    · simp [State.runLamp, hstate, hphase]
    · cases phase <;> simp [State.runLamp, hstate, hphase]
  all_goals simp [State.runLamp, hstate]

theorem State.faultLamp_iff : (s.faultLamp = .steady ↔ s.pump.state = .locked) ∧
    (s.faultLamp = .flashing ↔ s.pump.state = .cooling) := by
  cases h : s.pump.state <;> simp [State.faultLamp, h]

theorem State.screenLamp_iff : (s.screenLamp = .steady ↔ s.screen.state = .jammed) ∧
    (s.screenLamp = .flashing ↔ s.screen.blinded = true ∧ s.screen.state ≠ .jammed) := by
  unfold State.screenLamp
  split
  · next hjammed => simp [hjammed]
  · next hjammed => split <;> simp_all

/-- The twelve alarm kinds are all in their order (R154). -/
theorem AlarmKind.mem_inOrder (k : AlarmKind) : k ∈ AlarmKind.inOrder := by cases k <;> decide

theorem AlarmKind.any_inOrder {p : AlarmKind → Bool} : AlarmKind.inOrder.any p = true ↔ ∃ k, p k = true := by
  simp [List.any_eq_true, AlarmKind.mem_inOrder]

theorem State.horn_iff : s.horn = true ↔ ∃ k, (s.alarmSetting k).horn = true ∧ (s.alarm k).accepted = false := by
  simp [State.horn, AlarmKind.mem_inOrder]

theorem State.beacon_flashing_iff : s.beacon = .flashing ↔ ∃ k, (s.alarm k).accepted = false := by
  unfold State.beacon
  split
  · next h => simpa [AlarmKind.mem_inOrder] using h
  · next h =>
    have hnone : ¬ ∃ k, (s.alarm k).accepted = false := by simpa [AlarmKind.mem_inOrder] using h
    split <;> simpa using hnone

theorem State.beacon_steady_iff : s.beacon = .steady ↔
    (∀ k, (s.alarm k).accepted = true) ∧ ∃ k, (s.alarm k).abnormal = true := by
  by_cases haccepted : ∃ k, (s.alarm k).accepted = false
  · have hflashing := State.beacon_flashing_iff.mpr haccepted
    obtain ⟨k, hk⟩ := haccepted
    have hopen : ¬ ∀ k, (s.alarm k).accepted = true := fun hall => by simp [hall k] at hk
    simp [hflashing, hopen]
  · have hall : ∀ k, (s.alarm k).accepted = true := by simpa using haccepted
    have hany : ¬ AlarmKind.inOrder.any (fun k => !(s.alarm k).accepted) = true := by simp [hall]
    rw [State.beacon, if_neg hany, ← AlarmKind.any_inOrder (p := fun k => (s.alarm k).abnormal)]
    split <;> simp_all

section

open Sys2Proof

/-- Settles O48: the lamps by the pump and screen states, the horn and the beacon over the twelve kinds, and the shared
phase the model's free one (log entry 23). -/
theorem outputsFollowTheState : Obligations.OutputsFollowTheState := by
  refine ⟨fun s => ⟨State.contactor_iff, State.runLamp_iff.1, State.runLamp_iff.2, State.faultLamp_iff.1,
    State.faultLamp_iff.2, State.screenLamp_iff.1, State.screenLamp_iff.2, ?forward, ?reverse, ?both, State.horn_iff,
    State.beacon_flashing_iff, State.beacon_steady_iff, rfl, rfl⟩, Config.flashPhase, fun s => ?phase⟩
  case forward => simp [State.rakeForward]
  case reverse => simp [State.rakeReverse]
  case both => cases h : s.screen.state <;> simp [State.rakeForward, State.rakeReverse, h]
  case phase => simp [State.lit]

end

end Sys2Proof.Machine

/-! ## The ends of the proving-run, cooling and min-off times (R61, R88, R94, R96) -/

namespace Sys2Proof.Machine

variable {s t : State}

theorem State.finish_pump (s : State) : s.finish.pump = s.pump := by simp

theorem State.finish_screen (s : State) : s.finish.screen = s.screen := by simp

/-! ### A change that stops nothing -/

theorem keepIf_eq {α : Type} {b : Bool} {x : Option α} (h : x.isSome = true → b = true) : keepIf b x = x := by
  cases x <;> cases b <;> simp_all [keepIf]

/-- Where every item stands in its state already, and neither contactor nor watch changes, a change leaves nothing behind
(R71). -/
theorem Pump.Sound.tidied_eq {old new : Pump} (h : new.Sound) (hcontactor : old.closed = false ∨ new.closed = true)
    (hwatch : new.watch = old.watch) (hlocked : new.state ≠ .locked) (now : Nat) (m : Option Nat) :
    Pump.tidied now m old new = new := by
  obtain ⟨hphase, hwindow, hcause, hhandPhase, hhandClaim, hhandStart, hclaimTime, hfallback, hrelease, hminRun, hdelay,
    hproving, hloss, hstray, hopened, _⟩ := h
  have hkept : keepIf (decide (new.state = .claiming)) new.claimPhase = new.claimPhase :=
    keepIf_eq fun e => hphase.symm.trans e
  have hstrayTimer : (if new.watch = .off then none else if new.watch = old.watch then new.strayTimer
      else if new.feedback then some (now + 2000) else none) = new.strayTimer := by
    rw [if_pos hwatch]
    split
    · next hoff => exact (Option.not_isSome_iff_eq_none.mp fun e => hstray e hoff).symm
    · rfl
  unfold Pump.tidied
  dsimp only
  rw [hkept, hstrayTimer, keepIf_eq fun e => decide_eq_true (hclaimTime e), keepIf_eq fun e => decide_eq_true (hfallback e),
    keepIf_eq fun e => hwindow.symm.trans e, keepIf_eq fun e => decide_eq_true (hrelease e),
    keepIf_eq fun e => hcause.symm.trans e, keepIf_eq fun e => hhandPhase.symm.trans e,
    keepIf_eq fun e => hhandClaim.symm.trans e, keepIf_eq fun e => decide_eq_true (hhandStart e),
    keepIf_eq fun e => decide_eq_true (hminRun e), keepIf_eq fun e => decide_eq_true (hdelay e), keepIf_eq hproving,
    keepIf_eq hloss, keepIf_eq fun e => decide_eq_true (hopened e)]
  have hminOff : (if (old.closed && !new.closed) = true then m else new.minOff) = new.minOff := by
    rcases hcontactor with e | e <;> simp [e]
  rw [hminOff]
  simp [hlocked]

/-- The end of the cooling time leaves each item where it belongs (R94). -/
theorem Pump.Sound.cooled {p : Pump} (h : p.Sound) (hstate : p.state = .cooling) :
    ({ p with state := .ready, cooling := none } : Pump).Sound := by
  simpa [Pump.Sound, Pump.proving, Pump.proved, Pump.watch, hstate] using h

/-! ### The three ends -/

theorem exec_provingRunEnd {dt m : Nat} (h : s.pump.provingRun = some m) : exec (.provingRunEnd dt) s =
    .next ((s.reach dt m).onPump fun p => { p with provingRun := none, failures := 0 }) := by
  show execProvingRunEnd dt s = _
  simp only [execProvingRunEnd, h]

theorem exec_coolingTimeEnd {dt m : Nat} (h : s.pump.cooling = some m) : exec (.coolingTimeEnd dt) s = .next (
    let u := (s.reach dt m).onPump fun p => { p with cooling := none }
    if u.pump.state = .cooling then (u.movePump fun p => { p with state := .ready }).finish else u) := by
  show execCoolingTimeEnd dt s = _
  simp only [execCoolingTimeEnd, h]

theorem exec_minOffEnd {dt m : Nat} (h : s.pump.minOff = some m) : exec (.minOffEnd dt) s =
    .next (((s.reach dt m).onPump fun p => { p with minOff := none }).reformAvailability.finish) := by
  show execMinOffEnd dt s = _
  simp only [execMinOffEnd, h]

/-- A claim that is lost leaves the min-off time, since the contactor stands open in CLAIMING (R79, R96). -/
theorem State.dropWish_minOff (h : s.pump.claimPhase.isSome = true → s.pump.state = .claiming) :
    s.dropWish.pump.minOff = s.pump.minOff := by
  unfold State.dropWish
  dsimp only
  split
  · next hlose =>
    have hclaiming : s.pump.state = .claiming := by
      refine h ?_
      rcases Bool.or_eq_true_iff.mp hlose with e | e <;>
        · have hphase : s.pump.claimPhase = _ := of_decide_eq_true e
          simp [hphase]
    exact (State.loseClaim_conditions (by exact hclaiming)).minOff
  · rfl

theorem State.reformAvailability_minOff (h : s.pump.claimPhase.isSome = true → s.pump.state = .claiming) :
    s.reformAvailability.pump.minOff = s.pump.minOff := by
  have hformed : s.formAvailable.pump = s.pump := by simp [State.formAvailable]
  unfold State.reformAvailability
  dsimp only
  split
  · rw [State.dropWish_minOff (by rwa [hformed]), hformed]
  · rw [hformed]

theorem State.dropWish_shown (h : s.Shown) : s.dropWish.Shown := by
  have ht : (s.onStaging fun g => { g with startWish := .notHeld }).Shown :=
    h.of_kept (by constructor <;> rfl) rfl rfl rfl rfl
  unfold State.dropWish
  dsimp only
  split
  · exact ht.loseClaim
  · exact ht

theorem State.reformAvailability_shown (s : State) : s.reformAvailability.Shown := by
  unfold State.reformAvailability
  dsimp only
  split
  · exact State.dropWish_shown s.formAvailable_shown
  · exact s.formAvailable_shown

theorem State.Shown.finish (h : s.Shown) : s.finish.Shown :=
  h.of_kept (by constructor <;> simp) (by simp) (by simp) (by simp) (by simp)

section

open Sys2Proof

/-- Settles O36: the cooling time's end by the change it makes, the min-off time's by availability formed again. -/
theorem provingRunCoolingAndMinOffEnd : Obligations.ProvingRunCoolingAndMinOffEnd := by
  refine ⟨fun s dt m h => exec_provingRunEnd h, fun s dt m hsound => ⟨fun h hstate => ?elsewhere, fun h hstate => ?cooled,
    fun h => ?minOff⟩⟩
  case elsewhere => exact ⟨_, (exec_coolingTimeEnd h).trans (congrArg _ (if_neg hstate)), rfl⟩
  case cooled =>
    obtain ⟨u, hu⟩ : ∃ u, u = (s.reach dt m).onPump fun p => { p with cooling := none } := ⟨_, rfl⟩
    obtain ⟨f, hf⟩ : ∃ f : Pump → Pump, f = fun p => { p with state := .ready } := ⟨_, rfl⟩
    have hupump : u.pump = { s.pump with cooling := none } := by rw [hu]; rfl
    have haround : (s.reach dt m).Around [.a5] [] (u.movePump f).finish := by
      rw [hu]; exact ((State.Around.refl _).onPump.movePump (by simp)).finish
    have hpump : (u.movePump f).pump = { s.pump with state := .ready, cooling := none } := by
      rw [State.movePump_pump_tidied _ _ (by simp [hf]), hupump, hf]
      exact (hsound.cooled hstate).tidied_eq (.inl (by simp [Pump.closed, hstate])) (by simp [Pump.watch, hstate])
        (by simp) _ _
    have hshown := (u.movePump_shown f).finish
    refine ⟨(u.movePump f).finish, ?_, haround.sameBut ?_, haround.aroundThePump, ?_, ?_⟩
    · rw [exec_coolingTimeEnd h, ← hu, hf]
      exact congrArg _ (if_pos (by rw [hupump]; exact hstate))
    · have hscreen := State.movePump_screen (s := u) f (by simp [hf])
      rw [State.finish_screen, hscreen, hu]
      rfl
    · simpa using hpump
    · have hready : (u.movePump f).finish.pump.state = .ready := by simp [hf]
      rw [hshown.available, State.isAvailable, hready]
      rfl
  case minOff =>
    obtain ⟨u, hu⟩ : ∃ u, u = (s.reach dt m).onPump fun p => { p with minOff := none } := ⟨_, rfl⟩
    have hupump : u.pump = { s.pump with minOff := none } := by rw [hu]; rfl
    have haround : (s.reach dt m).Around [.a5] [] u.reformAvailability.finish := by
      rw [hu]; exact ((State.Around.refl _).onPump.reformAvailability (by simp)).finish
    have hclaim : u.pump.claimPhase.isSome = true → u.pump.state = .claiming := by
      rw [hupump]
      exact fun e => hsound.claiming (Option.some_get e).symm
    refine ⟨u.reformAvailability.finish, by rw [exec_minOffEnd h, hu], haround.sameBut (by simp [hu]),
      haround.aroundThePump, ?_, ?_, ?_, fun hstate => ?_⟩
    · rw [State.finish_pump, State.reformAvailability_lasting, hupump]
      rfl
    · have hminOff := State.reformAvailability_minOff hclaim
      rw [hupump] at hminOff
      simpa using hminOff
    · exact u.reformAvailability_shown.finish.available
    · have hphase : u.pump.claimPhase = none := by
        rw [hupump]
        exact hsound.claimPhase_none hstate
      have hpump := (State.reformAvailability_pump hphase).trans hupump
      simpa using hpump

end

end Sys2Proof.Machine

/-! ## The stop wish through the stop delay (R89, R91) -/

namespace Sys2Proof.Machine

variable {s t u : State} {dt m : Nat}

/-! ### The stop wish in RUNNING -/

/-- With no stop wish held the stop delay does not run (R89). -/
theorem State.actOnStop_of_noWish (hstate : s.pump.state = .running) (hwish : s.staging.stopWish = false) :
    s.actOnStop = s.onPump fun p => { p with stopDelay := none } := by
  simp [State.actOnStop, hstate, hwish]

/-- A stop wish past the min-run time starts the stop delay (R89). -/
theorem State.actOnStop_delays (hstate : s.pump.state = .running) (hwish : s.staging.stopWish = true)
    (hminRun : s.pump.minRun = none) (hdelay : s.pump.stopDelay = none) (hsetting : s.general.stopDelay ≠ 0) :
    s.actOnStop = s.onPump fun p => { p with stopDelay := some (s.now + s.general.stopDelay * 1000) } := by
  simp [State.actOnStop, hstate, hwish, hminRun, hdelay, State.after, hsetting]

/-- With a stop delay of 0 s it stops the pump at once (R89). -/
theorem State.actOnStop_stops (hstate : s.pump.state = .running) (hwish : s.staging.stopWish = true)
    (hminRun : s.pump.minRun = none) (hdelay : s.pump.stopDelay = none) (hsetting : s.general.stopDelay = 0) :
    s.actOnStop = s.goStopping := by
  simp [State.actOnStop, hstate, hwish, hminRun, hdelay, State.after, hsetting]

theorem exec_minRunEnd (h : s.pump.minRun = some m) : exec (.minRunEnd dt) s =
    .next (((s.reach dt m).onPump fun p => { p with minRun := none }).actOnStop.finish) := by
  show execMinRunEnd dt s = _
  simp only [execMinRunEnd, h]

theorem exec_stopDelayEnd (h : s.pump.stopDelay = some m) : exec (.stopDelayEnd dt) s = .next (
    let u := (s.reach dt m).onPump fun p => { p with stopDelay := none }
    if u.staging.stopWish then u.goStopping.finish else u) := by
  show execStopDelayEnd dt s = _
  simp only [execStopDelayEnd, h]

/-- Time passing, then a change of pump items that leaves the lasting ones and the contactor, then a stop: the event of
MIN_RUN_END or of STOP_DELAY_END. -/
theorem stop_of_timer (c : Instr) (hstate : s.pump.state = .running) (hwish : s.staging.stopWish = true)
    (hc : (c = .stopDelayEnd dt ∧ s.pump.stopDelay = some m) ∨
      (c = .minRunEnd dt ∧ s.pump.minRun = some m ∧ s.pump.stopDelay = none ∧ s.general.stopDelay = 0)) :
    ∃ p : Pump, exec c s = .next (State.goStopping { s.reach dt m with pump := p }).finish ∧
      p.state = .running ∧ p.feedback = s.pump.feedback ∧ p.lasting = s.pump.lasting := by
  rcases hc with ⟨rfl, hdelay⟩ | ⟨rfl, hminRun, hdelay, hsetting⟩
  · refine ⟨{ s.pump with stopDelay := none }, ?_, hstate, rfl, rfl⟩
    rw [exec_stopDelayEnd hdelay]
    exact congrArg _ (if_pos hwish)
  · refine ⟨{ s.pump with minRun := none }, ?_, hstate, rfl, rfl⟩
    rw [exec_minRunEnd hminRun, State.actOnStop_stops (by exact hstate) (by exact hwish) rfl (by exact hdelay)
      (by exact hsetting)]
    rfl

section

open Sys2Proof

/-- Settles O37: the stop wish starts the delay or stops the pump, and a stop opens the contactor of a running pump. -/
theorem stopWishActsThroughTheDelay : Obligations.StopWishActsThroughTheDelay := by
  refine fun s dt m _ hstate => ⟨fun hminRun hwish hdelay hsetting => ?starts, fun hminRun hwish => ?rests,
    fun hdelay hwish => ?gone, fun c hc hwish => ?stops⟩
  case starts =>
    obtain ⟨u, hu⟩ : ∃ u, u = (s.reach dt m).onPump fun p => { p with minRun := none } := ⟨_, rfl⟩
    have hact : u.actOnStop = { s.reach dt m with pump := { s.pump with
        minRun := none, stopDelay := some ((s.reach dt m).now + s.general.stopDelay * 1000) } } := by
      rw [hu, State.actOnStop_delays (by exact hstate) (by exact hwish) rfl (by exact hdelay) (by exact hsetting)]
      rfl
    have hnow : u.actOnStop.finish.now = (s.reach dt m).now := by simp [hact]
    refine ⟨u.actOnStop.finish, by rw [exec_minRunEnd hminRun, hu], ?_⟩
    rw [hnow, ← hact]
    exact u.actOnStop.finish_selects
  case rests =>
    obtain ⟨u, hu⟩ : ∃ u, u = (s.reach dt m).onPump fun p => { p with minRun := none } := ⟨_, rfl⟩
    have hact : u.actOnStop = { s.reach dt m with pump := { s.pump with minRun := none, stopDelay := none } } := by
      rw [hu, State.actOnStop_of_noWish (by exact hstate) (by exact hwish)]
      rfl
    refine ⟨u.actOnStop.finish, by rw [exec_minRunEnd hminRun, hu], ?_⟩
    rw [← hact]
    exact u.actOnStop.finish_selects
  case gone =>
    exact ⟨_, (exec_stopDelayEnd hdelay).trans (congrArg _ (if_neg (by simp [hwish]))), rfl⟩
  case stops =>
    obtain ⟨p, hexec, hprunning, hpfeedback, hplasting⟩ := stop_of_timer c hstate hwish hc
    obtain ⟨u, hu⟩ : ∃ u, u = { s.reach dt m with pump := p } := ⟨_, rfl⟩
    have hupump : u.pump = p := by rw [hu]
    have haround : (s.reach dt m).Around [.a5] [] u.goStopping.finish := by
      have hset : (s.reach dt m).Around [.a5] [] ((s.reach dt m).onPump fun _ => p) := (State.Around.refl _).onPump
      rw [hu]; exact (hset.goStopping (by simp)).finish
    obtain ⟨hminOff, hminRun, hdelay, hproving⟩ :=
      State.goStopping_times (s := u) (by simp [hupump, Pump.closed, hprunning])
    have hnow : u.goStopping.finish.now = u.now := by simp
    refine ⟨u.goStopping.finish, by rw [hexec, hu], haround.sameBut ?_, haround.aroundThePump, ?_⟩
    · have hscreen : u.goStopping.screen = u.screen := by simp
      rw [State.finish_screen, hscreen, hu]
    · rw [State.contactor, State.finish_pump, hnow]
      refine ⟨u.goStopping_lasting.trans (by rw [hupump, hplasting]), u.goStopping_open, hminRun, hdelay, hproving,
        hminOff.trans (by rw [hu]; rfl), fun h => ?_, fun h => ?_⟩
      · exact State.goStopping_waits (by rw [hupump, hpfeedback, h])
      · exact State.goStopping_ready (by rw [hupump, hpfeedback, h])

end

end Sys2Proof.Machine

/-! ## Run feedback outside a proving window (R87, R91, R92, R104, R108, R112) -/

namespace Sys2Proof.Machine

variable {s t u : State} {dt m : Nat}

theorem exec_runFeedbackChange_same : exec (.runFeedbackChange dt s.pump.feedback) s = .next (s.elapse dt) := by
  show execRunFeedbackChange dt s.pump.feedback s = _
  exact congrArg _ (if_pos rfl)

theorem exec_runFeedbackChange_present (h : s.pump.feedback = false) :
    exec (.runFeedbackChange dt true) s = .next (s.elapse dt).feedbackPresent.finish := by
  show execRunFeedbackChange dt true s = _
  simp [execRunFeedbackChange, h]

theorem exec_runFeedbackChange_absent (h : s.pump.feedback = true) :
    exec (.runFeedbackChange dt false) s = .next (s.elapse dt).feedbackAbsent.finish := by
  show execRunFeedbackChange dt false s = _
  simp [execRunFeedbackChange, h]

/-- The pump when feedback comes outside a proving window (R92, R104, R108). -/
def Pump.feedbackCame (now : Nat) (p : Pump) : Pump :=
  { p with
    feedback := true
    lossTimer := none
    strayTimer := if p.watch = .off then none else some (p.strayEnd now) }

/-- The pump when feedback goes (R87, R92, R104, R112). -/
def Pump.feedbackGone (now : Nat) (p : Pump) : Pump :=
  { p with
    feedback := false
    lossTimer := if p.proved then some (now + 1000) else none
    strayTimer := none
    openedAt := none }

theorem State.feedbackPresent_of_noWindow (h : s.pump.window = none) :
    s.feedbackPresent = s.onPump (Pump.feedbackCame s.now) := by
  simp only [State.feedbackPresent, h]
  rfl

theorem State.feedbackAbsent_of_not_stopping (h : s.pump.state ≠ .stopping) :
    s.feedbackAbsent = s.onPump (Pump.feedbackGone s.now) := by
  unfold State.feedbackAbsent
  exact if_neg h

theorem State.feedbackAbsent_of_stopping (h : s.pump.state = .stopping) :
    s.feedbackAbsent = (s.onPump (Pump.feedbackGone s.now)).released := by
  unfold State.feedbackAbsent
  exact if_pos h

/-- Feedback is timed from its arrival when no opening or move stands within 2 s (R92). -/
theorem Pump.strayEnd_of_arrival {p : Pump} {now : Nat} (h : ∀ m ∈ p.openedAt, m + 2000 ≤ now) :
    p.strayEnd now = now + 2000 := by
  unfold Pump.strayEnd
  split
  · next x hx => rw [if_neg (Nat.not_lt.mpr (h x hx))]
  · rfl

/-- Feedback is timed from an opening or a move within 2 s (R104, R108). -/
theorem Pump.strayEnd_of_opened {p : Pump} {now : Nat} (h : p.openedAt = some m) (hnow : now < m + 2000) :
    p.strayEnd now = m + 2000 := by
  simp [Pump.strayEnd, h, hnow]

/-- A stop released: READY, the min-off time started, and neither a release nor feedback without command timed
(R91, R92). -/
theorem State.released_pump (hfeedback : s.pump.feedback = false) (hstate : s.pump.state = .stopping) :
    s.released.pump.minOff = s.after s.general.minOff ∧ s.released.pump.releaseTime = none ∧
    s.released.pump.strayTimer = none := by
  refine ⟨State.released_minOff (Pump.closed_of_stopped (.inl hstate)), ?_⟩
  rw [State.released, State.movePump_pump_tidied _ _ (by simp)]
  simp [Pump.tidied, keepIf, Pump.watch, hfeedback, hstate]

section

open Sys2Proof

/-- Settles O34: outside a window feedback that comes or goes changes the pump's timers alone, but for the release in
STOPPING. -/
theorem feedbackOutsideTheWindow : Obligations.FeedbackOutsideTheWindow := by
  refine fun s dt hsound => ⟨exec_runFeedbackChange_same, fun hfeedback hwindow => ?came, fun hfeedback hstate => ?gone,
    fun hfeedback hstate => ?released⟩
  case came =>
    obtain ⟨u, hu⟩ : ∃ u, u = (s.elapse dt).onPump (Pump.feedbackCame (s.now + dt)) := ⟨_, rfl⟩
    have hstray : u.finish.pump.strayTimer =
        if s.pump.watch = .off then none else some (s.pump.strayEnd (s.now + dt)) := by
      rw [State.finish_pump, hu]; rfl
    refine ⟨u.finish, ?_, ?_, fun hoff => ?_, fun hwatch hopened => ?_, fun m hopened hnow => ?_⟩
    · rw [exec_runFeedbackChange_present hfeedback, State.feedbackPresent_of_noWindow (by exact hwindow), hu]
      rfl
    · have hselects := u.finish_selects
      rw [hstray]
      rw [hu] at hselects ⊢
      exact hselects
    · rw [hstray, if_pos hoff]
    · rw [hstray, if_neg hwatch, Pump.strayEnd_of_arrival hopened]
    · rw [hstray, if_neg (by simp [hsound.watched_opened hopened]), Pump.strayEnd_of_opened hopened hnow]
  case gone =>
    refine ⟨_, exec_runFeedbackChange_absent hfeedback, ?_⟩
    rw [State.feedbackAbsent_of_not_stopping (by exact hstate)]
    exact State.finish_selects _
  case released =>
    obtain ⟨u, hu⟩ : ∃ u, u = (s.elapse dt).onPump (Pump.feedbackGone (s.now + dt)) := ⟨_, rfl⟩
    have hustate : u.pump.state = .stopping := by rw [hu]; exact hstate
    have haround : (s.elapse dt).Around [.a5] [] u.released.finish := by
      rw [hu]; exact ((State.Around.refl _).onPump.released (by simp)).finish
    obtain ⟨hminOff, hrelease, hstray⟩ := State.released_pump (s := u) (by rw [hu]; rfl) hustate
    refine ⟨u.released.finish, ?_, haround.sameBut ?_, haround.aroundThePump, ?_⟩
    · rw [exec_runFeedbackChange_absent hfeedback, State.feedbackAbsent_of_stopping (by exact hstate), hu]
      rfl
    · have hscreen : u.released.screen = u.screen := by simp
      rw [State.finish_screen, hscreen, hu]
      rfl
    · rw [State.contactor, State.finish_pump]
      exact ⟨u.released_lasting.trans (by rw [hu]; rfl), u.released_state,
        Pump.closed_of_stopped (.inr u.released_state), hrelease, hstray, hminOff.trans (by rw [hu]; rfl)⟩

end

end Sys2Proof.Machine

/-! ## Lockouts (R73, R91, R92, R95) -/

namespace Sys2Proof.Machine

variable {s t u : State} {dt m : Nat}

/-- The selection and the offer leave the claim slot (R26, R177). -/
theorem State.finish_claim (s : State) : s.finish.line.claim = s.line.claim := by
  have hclaim := congrArg LineUnit.claim s.finish_selects.2.1
  exact hclaim

/-- They leave a claim's standing withdrawal too (R28, R177). -/
theorem State.finish_claimWithdrawal (s : State) : s.finish.line.claimWithdrawal = s.line.claimWithdrawal := by
  have hwithdrawal := congrArg LineUnit.claimWithdrawal s.finish_selects.2.1
  exact hwithdrawal

theorem State.finish_alarm (s : State) (k : AlarmKind) : s.finish.alarm k = s.alarm k := State.alarm_congr (by simp) k

/-! ### The watch and the lockout -/

/-- Feedback without command is timed with the contactor open (R92, R112). -/
theorem Pump.closed_of_watch {p : Pump} (h : p.watch ≠ .off) : p.closed = false := by
  unfold Pump.watch at h
  split at h
  case h_5 hstate =>
    split at h
    · next hphase => exact Pump.closed_of_halted hstate hphase
    · exact absurd rfl h
  case h_6 => exact absurd rfl h
  all_goals simp [Pump.closed, *]

theorem Pump.not_locked_of_watch {p : Pump} (h : p.watch ≠ .off) : p.state ≠ .locked := by
  intro e
  simp [Pump.watch, e] at h

/-- A locked pump has no window, no release time and no feedback without command in hand (R86, R91, R92). -/
theorem Pump.Sound.of_locked {p : Pump} (h : p.Sound) (hstate : p.state = .locked) :
    p.window = none ∧ p.releaseTime = none ∧ p.strayTimer = none := by
  refine ⟨?_, ?_, ?_⟩ <;> by_contra hsome <;> obtain ⟨x, hx⟩ := Option.ne_none_iff_exists'.mp hsome
  · have hproving := h.proving hx
    simp [Pump.proving, hstate] at hproving
  · have hstopping := h.stopping hx
    simp [hstate] at hstopping
  · exact h.watched hx (by simp [Pump.watch, hstate])

/-! ### The two lockouts -/

theorem exec_releaseTimeEnd (h : s.pump.releaseTime = some m) : exec (.releaseTimeEnd dt) s = .next (
    if s.pump.feedback then ((s.reach dt m).lock .notReleasing).finish else s.reach dt m) := by
  show execReleaseTimeEnd dt s = _
  simp only [execReleaseTimeEnd, h]
  rfl

theorem exec_releaseTimeEnd_none (h : s.pump.releaseTime = none) :
    exec (.releaseTimeEnd dt) s = .next (s.elapse dt) := by
  show execReleaseTimeEnd dt s = _
  simp only [execReleaseTimeEnd, h]

theorem exec_feedbackWithoutCommand (h : s.pump.strayTimer = some m) : exec (.feedbackWithoutCommand dt) s =
    .next (s.reach dt m).strayFeedback.finish := by
  show execFeedbackWithoutCommand dt s = _
  simp only [execFeedbackWithoutCommand, h]

theorem exec_feedbackWithoutCommand_none (h : s.pump.strayTimer = none) :
    exec (.feedbackWithoutCommand dt) s = .next (s.elapse dt) := by
  show execFeedbackWithoutCommand dt s = _
  simp only [execFeedbackWithoutCommand, h]

/-- The pump with its feedback without command taken, the lockout left to a claim in CLAIMING (R92). -/
def Pump.strayTaken (p : Pump) : Pump := { p with strayTimer := none, lockPending := decide (p.state = .claiming) }

theorem State.strayFeedback_of_not_claiming (h : s.pump.state ≠ .claiming) :
    s.strayFeedback = (s.onPump Pump.strayTaken).lockStray := by
  unfold State.strayFeedback
  exact if_pos h

theorem State.strayFeedback_of_claim (hstate : s.pump.state = .claiming) (hlose : s.pump.mayLoseClaim = true) :
    s.strayFeedback = (s.onPump Pump.strayTaken).loseClaim := by
  unfold State.strayFeedback
  exact (if_neg (not_not_intro hstate)).trans (if_pos hlose)

/-- A claim withdrawn with a lockout waiting for it locks the pump (R79, R92). -/
theorem State.loseClaim_locks (hcommitted : s.line.committed .claim = false) (hpending : s.pump.lockPending = true) :
    s.loseClaim = s.withdrawClaim.lock .withoutCommand := by
  rw [State.loseClaim_withdrawn hcommitted, State.claimResolved, if_pos (by simpa using hpending)]

/-- Feedback without command locks a fitted pump, once a claim in hand is withdrawn (R92). -/
theorem State.strayFeedback_locks (hsound : s.pump.Sound) (hfitted : s.general.pumpFitted = true)
    (hclaim : s.pump.state = .claiming → s.line.committed .claim = false ∧ s.pump.claimPhase ≠ some .withdrawing) :
    ∃ v : State, s.strayFeedback = v.lock .withoutCommand ∧ v.pump = s.pump.strayTaken ∧ v.startUp = s.startUp ∧
      (s.pump.state = .claiming → v.line.claim = .empty) := by
  by_cases hstate : s.pump.state = .claiming
  · obtain ⟨hcommitted, hphase⟩ := hclaim hstate
    obtain ⟨_, _, hline⟩ := State.withdrawClaim_line_withdrawn (s := s.onPump Pump.strayTaken) hcommitted
    refine ⟨(s.onPump Pump.strayTaken).withdrawClaim, ?_, by simp, by simp, fun _ => by rw [hline]⟩
    rw [State.strayFeedback_of_claim hstate (hsound.mayLoseClaim hstate hphase)]
    exact State.loseClaim_locks hcommitted (decide_eq_true hstate)
  · refine ⟨s.onPump Pump.strayTaken, ?_, rfl, rfl, fun h => absurd h hstate⟩
    rw [State.strayFeedback_of_not_claiming hstate, State.lockStray, if_pos]
    have hfitted' : (s.onPump Pump.strayTaken).general.pumpFitted = true := hfitted
    simp [hfitted']

namespace State.Around

variable {ks : List AlarmKind} {gs : List (CountId × Nat)}

theorem lockStray (ha5 : AlarmKind.a5 ∈ ks) (h : u.Around ks gs s) : u.Around ks gs s.lockStray := by
  unfold State.lockStray
  exact ite (fun _ => h.lock ha5) fun _ => h

theorem strayFeedback (ha5 : AlarmKind.a5 ∈ ks) (h : u.Around ks gs s) : u.Around ks gs s.strayFeedback := by
  unfold State.strayFeedback
  exact ite (fun _ => h.onPump.lockStray ha5) fun _ => ite (fun _ => h.onPump.loseClaim ha5) fun _ => h.onPump

end State.Around

theorem State.lockStray_lasting (s : State) : s.lockStray.pump.lasting = s.pump.lasting := by
  unfold State.lockStray
  split
  · exact s.lock_lasting _
  · rfl

theorem State.strayFeedback_lasting (s : State) : s.strayFeedback.pump.lasting = s.pump.lasting := by
  unfold State.strayFeedback
  dsimp only
  split
  · exact State.lockStray_lasting _
  · split
    · exact State.loseClaim_lasting _
    · rfl

theorem State.strayFeedback_screen (s : State) : s.strayFeedback.screen = s.screen := by
  unfold State.strayFeedback State.lockStray
  dsimp only
  (repeat' split) <;> simp

/-- Feedback that comes or goes leaves a lockout as it is (R92, R95). -/
theorem exec_runFeedbackChange_locked (hsound : s.pump.Sound) (hstate : s.pump.state = .locked) (present : Bool) :
    ∃ t, exec (.runFeedbackChange dt present) s = .next t ∧ t.pump.feedback = present ∧ t.pump.state = .locked ∧
      t.pump.lockCause = s.pump.lockCause := by
  obtain ⟨hwindow, _, _⟩ := hsound.of_locked hstate
  by_cases hsame : present = s.pump.feedback
  · subst hsame
    exact ⟨_, exec_runFeedbackChange_same, rfl, hstate, rfl⟩
  · cases present
    · refine ⟨_, exec_runFeedbackChange_absent (by simpa using Ne.symm hsame), ?_⟩
      rw [State.finish_pump, State.feedbackAbsent_of_not_stopping (by simp [hstate])]
      exact ⟨rfl, hstate, rfl⟩
    · refine ⟨_, exec_runFeedbackChange_present (by simpa using Ne.symm hsame), ?_⟩
      rw [State.finish_pump, State.feedbackPresent_of_noWindow (by exact hwindow)]
      exact ⟨rfl, hstate, rfl⟩

section

open Sys2Proof

/-- Settles O38: a lockout is the one change to LOCKED, made at once or when the claim in hand is withdrawn, and nothing
but a reset leaves it. -/
theorem lockoutsLockThePump : Obligations.LockoutsLockThePump := by
  intro s dt m hsound
  have haround : (s.reach dt m).Around [.a5] [] (s.reach dt m).strayFeedback.finish :=
    ((State.Around.refl _).strayFeedback (by simp)).finish
  have hscreen : (s.reach dt m).strayFeedback.finish.screen = (s.reach dt m).screen := by
    rw [State.finish_screen, State.strayFeedback_screen]
  refine ⟨fun hrelease hfeedback => ?notReleasing, fun hstate => ?locked,
    fun hrelease hfeedback => ?releases, fun hstray hfitted hclaim => ?stray, fun hstray hstate hcommitted hphase => ?waits,
    fun hstray hfitted hstate => ?unfitted⟩
  case notReleasing =>
    have hstate : (s.reach dt m).pump.state ≠ .locked := by simp [hsound.stopping hrelease]
    obtain ⟨hlocked, hcause, _⟩ := State.lock_locks (c := .notReleasing) hstate
    have hround : (s.reach dt m).Around [.a5] [] ((s.reach dt m).lock .notReleasing).finish :=
      ((State.Around.refl _).lock (by simp)).finish
    refine ⟨_, (exec_releaseTimeEnd hrelease).trans (congrArg _ (if_pos hfeedback)), hround.sameBut (by simp),
      hround.aroundThePump, ?_⟩
    rw [State.contactor, State.finish_pump]
    refine ⟨State.lock_lasting _ _, hlocked, hcause, Pump.closed_of_locked hlocked, fun hended => ?_⟩
    rw [State.finish_alarm]
    exact State.lock_a5 hended hstate
  case locked =>
    obtain ⟨_, hrelease, hstray⟩ := hsound.of_locked hstate
    refine ⟨fun cause => State.lock_of_locked hstate, exec_releaseTimeEnd_none hrelease,
      exec_feedbackWithoutCommand_none hstray, fun present => ?_⟩
    obtain ⟨t, hexec, hfeedback, hlocked, hcause⟩ := exec_runFeedbackChange_locked hsound hstate present
    exact ⟨t, hexec, hfeedback, hlocked, hcause, Pump.closed_of_locked hlocked⟩
  case releases =>
    exact (exec_releaseTimeEnd hrelease).trans (congrArg _ (if_neg (by simp [hfeedback])))
  case stray =>
    have hunlocked : s.pump.state ≠ .locked := Pump.not_locked_of_watch (hsound.watched hstray)
    obtain ⟨v, hv, hvpump, hvstartUp, hvclaim⟩ := State.strayFeedback_locks (s := s.reach dt m) hsound hfitted hclaim
    have hvstate : v.pump.state ≠ .locked := by rw [hvpump]; exact hunlocked
    obtain ⟨hlocked, hcause, hpending⟩ := State.lock_locks (c := .withoutCommand) hvstate
    refine ⟨_, exec_feedbackWithoutCommand hstray, haround.sameBut hscreen, haround.aroundThePump, ?_⟩
    rw [State.contactor, State.finish_pump, State.finish_claim]
    refine ⟨State.strayFeedback_lasting _, by rw [hv, hlocked], by rw [hv, hcause],
      by rw [hv]; exact Pump.closed_of_locked hlocked, by rw [hv, hpending], fun hstate => ?_, fun hended => ?_⟩
    · have hplaced : v.pump.claimPlaced = false := by
        rw [hvpump]; exact hsound.claimPlaced (by simp [hstate])
      obtain ⟨x, hx⟩ := State.lock_line (c := .withoutCommand) hplaced
      rw [hv, hx]
      exact hvclaim hstate
    · rw [State.finish_alarm, hv]
      exact State.lock_a5 (State.ended_of_kept (s := s.reach dt m) hended hvstartUp) hvstate
  case waits =>
    have hlose := hsound.mayLoseClaim hstate hphase
    obtain ⟨v, hv⟩ : ∃ v, v = ((s.reach dt m).onPump Pump.strayTaken).withdrawClaim := ⟨_, rfl⟩
    obtain ⟨f, hf⟩ : ∃ f : Pump → Pump, f = fun p => { p with claimPhase := some .withdrawing } := ⟨_, rfl⟩
    have hvpump : v.pump = s.pump.strayTaken := by rw [hv]; simp
    have hvline : v.line = { s.line with claim := ⟨s.line.claim.frame, none⟩, claimWithdrawal := true } := by
      rw [hv]; exact State.withdrawClaim_line_tooLate (s := (s.reach dt m).onPump Pump.strayTaken) hcommitted
    have hmoved : (s.reach dt m).strayFeedback = v.movePump f := by
      rw [State.strayFeedback_of_claim (s := s.reach dt m) hstate hlose, hv, hf]
      exact State.loseClaim_tooLate (s := (s.reach dt m).onPump Pump.strayTaken) hcommitted
    have hpump := v.movePump_pump_tidied f (by simp [hf, hvpump, Pump.strayTaken, hstate])
    obtain ⟨x, hx⟩ := State.movePump_line (s := v) (f := f) (.inr (by
      rw [hf, hvpump]; exact hsound.claimPlaced (by simp [hstate])))
    refine ⟨_, exec_feedbackWithoutCommand hstray, haround.sameBut hscreen, haround.aroundThePump, ?_⟩
    rw [State.finish_pump, State.finish_claim, State.finish_claimWithdrawal]
    refine ⟨State.strayFeedback_lasting _, ?_⟩
    rw [hmoved, hx, hpump, hf, hvpump, hvline]
    simp [Pump.tidied, keepIf, Pump.strayTaken, hstate]
  case unfitted =>
    have hopen := Pump.closed_of_watch (hsound.watched hstray)
    refine ⟨_, exec_feedbackWithoutCommand hstray, haround.sameBut hscreen, haround.aroundThePump, ?_⟩
    rw [State.contactor, State.finish_pump]
    refine ⟨State.strayFeedback_lasting _, ?_⟩
    rw [State.strayFeedback_of_not_claiming (s := s.reach dt m) hstate]
    unfold State.lockStray
    split
    · have hlocked := State.lock_locks (s := (s.reach dt m).onPump Pump.strayTaken) (c := .withoutCommand)
        (Pump.not_locked_of_watch (hsound.watched hstray))
      exact ⟨Pump.closed_of_locked hlocked.1, .inr hlocked.1⟩
    · exact ⟨hopen, .inl rfl⟩

end

end Sys2Proof.Machine

/-! ## Event alarms (R156 to R159) -/

namespace Sys2Proof.Machine

variable {s t u : State} {dt m : Nat} {k : AlarmKind}

theorem State.alarmSetting_congr (h : t.startUp = s.startUp) (k : AlarmKind) : t.alarmSetting k = s.alarmSetting k := by
  simp [State.alarmSetting, State.settings, h]

theorem AlarmRecord.dropClear_fields (r : AlarmRecord) :
    r.dropClear.accepted = r.accepted ∧ r.dropClear.armed = r.armed := by
  unfold AlarmRecord.dropClear
  split <;> exact ⟨rfl, rfl⟩

theorem AlarmRecord.latch_accepted (r : AlarmRecord) (x : PendingRaise) : (r.latch x).accepted = r.accepted := by
  unfold AlarmRecord.latch
  (repeat' split) <;> rfl

/-- An armed kind holds a raise after the turn to abnormal (R157). -/
theorem AlarmRecord.latch_raise {r : AlarmRecord} (h : r.armed = true) (x : PendingRaise) :
    (r.latch x).raise.isSome = true := by
  unfold AlarmRecord.latch
  split
  · next hraise => exact hraise
  · rfl

/-- A turn to abnormal leaves the kind not accepted, and latches a raise where one is wanted (R157). -/
theorem State.turnAbnormal_record (hended : s.ended) (hnormal : (s.alarm k).abnormal = false) (n : Snapshot) :
    ((s.turnAbnormal k n).alarm k).accepted = false ∧
    ((s.alarmSetting k).report = true → (s.alarm k).armed = true →
      ((s.turnAbnormal k n).alarm k).raise.isSome = true) := by
  have hturns : ¬ (¬ s.ended ∨ (s.alarm k).abnormal = true) := by simp [hended, hnormal]
  obtain ⟨haccepted, harmed⟩ := (s.alarm k).turned.dropClear_fields
  have hturned : (s.alarm k).turned.accepted = false := rfl
  unfold State.turnAbnormal
  dsimp only
  rw [if_neg hturns]
  split
  · refine ⟨?_, fun _ h => ?_⟩
    · simp [AlarmRecord.latch_accepted, haccepted, hturned]
    · simpa using AlarmRecord.latch_raise (harmed.trans h) _
  · next hreport => exact ⟨by simp [hturned], fun h => absurd h hreport⟩

theorem State.turnAbnormalSince_record (hended : s.ended) (hnormal : (s.alarm k).abnormal = false) (l : List Snapshot) :
    ((s.turnAbnormalSince l k).alarm k).abnormal = true ∧ ((s.turnAbnormalSince l k).alarm k).accepted = false ∧
    ((s.alarmSetting k).report = true → (s.alarm k).armed = true →
      ((s.turnAbnormalSince l k).alarm k).raise.isSome = true) := by
  unfold State.turnAbnormalSince
  split
  · exact ⟨State.turnAbnormal_abnormal hended k _, State.turnAbnormal_record hended hnormal _⟩
  · obtain ⟨v, hv⟩ : ∃ v, v = (s.chooseSnapshot l).2 := ⟨_, rfl⟩
    have hvstartUp : v.startUp = s.startUp := by simp [hv]
    have hvalarm : v.alarm k = s.alarm k := State.alarm_congr (by simp [hv]) k
    have hvended := State.ended_of_kept hended hvstartUp
    dsimp only
    rw [← State.alarmSetting_congr hvstartUp, ← hvalarm, ← hv]
    exact ⟨State.turnAbnormal_abnormal hvended k _, State.turnAbnormal_record hvended (by rw [hvalarm, hnormal]) _⟩

/-- A turn to normal takes the moment and keeps the acceptance and a pending raise (R159). -/
theorem State.turnNormal_record (hended : s.ended) (habnormal : (s.alarm k).abnormal = true) :
    ((s.turnNormal k).alarm k).normalSince = some s.now ∧
    ((s.turnNormal k).alarm k).accepted = (s.alarm k).accepted ∧
    ((s.turnNormal k).alarm k).raise = (s.alarm k).raise := by
  have hturns : ¬ (¬ s.ended ∨ ¬ (s.alarm k).abnormal = true) := by simp [hended, habnormal]
  unfold State.turnNormal
  dsimp only
  rw [if_neg hturns]
  split <;> simp

/-- After an event the kind is normal (R156). -/
theorem State.alarmEvent_abnormal (hended : s.ended) (l : List Snapshot) :
    ((s.alarmEvent l k).alarm k).abnormal = false :=
  State.turnNormal_abnormal (State.ended_of_kept hended (by simp)) k

/-- An event of a kind that was normal is a turn to abnormal and to normal at this moment (R156, R157, R159). -/
theorem State.alarmEvent_record (hended : s.ended) (hnormal : (s.alarm k).abnormal = false) (l : List Snapshot) :
    ((s.alarmEvent l k).alarm k).accepted = false ∧ ((s.alarmEvent l k).alarm k).normalSince = some s.now ∧
    ((s.alarmSetting k).report = true → (s.alarm k).armed = true →
      ((s.alarmEvent l k).alarm k).raise.isSome = true) := by
  obtain ⟨habnormal, haccepted, hraise⟩ := State.turnAbnormalSince_record hended hnormal l
  have hvended : (s.turnAbnormalSince l k).ended := State.ended_of_kept hended (by simp)
  obtain ⟨hsince, hkept, hraised⟩ := State.turnNormal_record hvended habnormal
  refine ⟨hkept.trans haccepted, hsince.trans (by simp), fun hreport harmed => ?_⟩
  rw [State.alarmEvent, hraised]
  exact hraise hreport harmed

end Sys2Proof.Machine

/-! ## Failures (R86, R87, R93, R96, R112) -/

namespace Sys2Proof.Machine

variable {s t u : State} {dt m : Nat} {k : AlarmKind}

/-- A failure counted (R93). -/
def Pump.failureCounted (p : Pump) : Pump := { p with failures := min 6 (p.failures + 1) }

/-- The pump after a failure that does not lock it, `p` with the failure counted (R93, R112). -/
def Pump.failedOnce (now : Nat) (p : Pump) : Pump :=
  { p with
    state := if p.state = .hand then .hand else if p.failures = 3 then .cooling else .ready
    handPhase := some .halted
    cooling := if p.failures = 3 then some (now + 1800000) else p.cooling }

theorem State.failedTo_locks (h : 5 ≤ s.pump.failures) :
    s.failedTo = (s.onPump Pump.failureCounted).lock .repeatedFailures := by
  have hsix : min 6 (s.pump.failures + 1) = 6 := by omega
  unfold State.failedTo
  exact if_pos hsix

theorem State.failedTo_moves (h : s.pump.failures < 5) :
    s.failedTo = (s.onPump Pump.failureCounted).movePump (Pump.failedOnce s.now) := by
  have hsix : ¬ min 6 (s.pump.failures + 1) = 6 := by omega
  unfold State.failedTo
  exact if_neg hsix

/-- The states that a failure leads to, none of which closes the contactor (R72, R93). -/
theorem Pump.failedOnce_state (now : Nat) (p : Pump) : (p.failedOnce now).state = .hand ∨
    (p.failedOnce now).state = .cooling ∨ (p.failedOnce now).state = .ready := by
  unfold Pump.failedOnce
  dsimp only
  (repeat' split) <;> simp

/-- LOCKED, COOLING, READY, and HAND while HALTED hold the contactor open, with no window (R72, R86, R110). -/
def Pump.Halted (p : Pump) : Prop :=
  p.state = .locked ∨ p.state = .cooling ∨ p.state = .ready ∨ p.state = .hand ∧ p.handPhase = some .halted

theorem Pump.Halted.rests {p : Pump} (h : p.Halted) : p.closed = false ∧ p.proving = false := by
  rcases h with h | h | h | ⟨h, hphase⟩ <;> simp [Pump.closed, Pump.proving, *]

theorem Pump.Halted.tidied {p : Pump} (h : p.Halted) (now : Nat) (m : Option Nat) (old : Pump) :
    (Pump.tidied now m old p).Halted := by
  rcases h with h | h | h | ⟨h, hphase⟩ <;> simp [Pump.Halted, Pump.tidied, keepIf, *]

theorem Pump.Halted.phase {p : Pump} (h : p.Halted) (hhand : p.state = .hand) : p.handPhase = some .halted := by
  rcases h with h | h | h | ⟨_, hphase⟩
  · simp [h] at hhand
  · simp [h] at hhand
  · simp [h] at hhand
  · exact hphase

/-- A change that opens the contactor from a proving or proved motor, whatever becomes of a hand claim, ends the window and
starts the min-off time (R86, R96). -/
theorem State.movePump_opens {f : Pump → Pump} (hclosed : s.pump.closed = true) (hf : (f s.pump).Halted) :
    (s.movePump f).pump.Halted ∧ (s.movePump f).pump.window = none ∧
    (s.movePump f).pump.minOff = s.after s.general.minOff := by
  obtain ⟨c, hc⟩ := s.movePump_pump_claim f
  obtain ⟨p, hp⟩ : ∃ p, p = ({ f s.pump with handClaim := c } : Pump) := ⟨_, rfl⟩
  have hhalted : p.Halted := by rw [hp]; exact hf
  rw [hc, ← hp, Pump.tidied_minOff_opened hclosed hhalted.rests.1]
  exact ⟨hhalted.tidied _ _ _, by simp [Pump.tidied, keepIf, hhalted.rests.2], rfl⟩

/-- Every failure opens the contactor, ends the window and starts the min-off time (R86, R96). -/
theorem State.failedTo_opens (hclosed : s.pump.closed = true) :
    s.failedTo.pump.Halted ∧ s.failedTo.pump.window = none ∧
    s.failedTo.pump.minOff = s.after s.general.minOff := by
  rcases Nat.lt_or_ge s.pump.failures 5 with h | h
  · rw [State.failedTo_moves h]
    refine State.movePump_opens (s := s.onPump Pump.failureCounted) hclosed ?_
    rcases Pump.failedOnce_state s.now s.pump.failureCounted with e | e | e
    · exact .inr (.inr (.inr ⟨e, rfl⟩))
    · exact .inr (.inl e)
    · exact .inr (.inr (.inl e))
  · have hstate : (s.onPump Pump.failureCounted).pump.state ≠ .locked := by
      intro e
      have hlocked : s.pump.closed = false := Pump.closed_of_locked e
      simp [hlocked] at hclosed
    rw [State.failedTo_locks h, State.lock_eq hstate]
    exact State.movePump_opens (s := s.onPump Pump.failureCounted) hclosed (.inl rfl)

/-- Of the lasting items a failure changes the count and the cooling time alone (R93, R94). -/
theorem State.failedTo_lasting (s : State) : s.failedTo.pump.lasting =
    { s.pump.lasting with failures := min 6 (s.pump.failures + 1), cooling := s.failedTo.pump.cooling } := by
  have hshape {p : Pump} {c : Option Nat} (h : p.lasting =
      { s.pump.lasting with failures := min 6 (s.pump.failures + 1), cooling := c }) : p.lasting =
      { s.pump.lasting with failures := min 6 (s.pump.failures + 1), cooling := p.cooling } := by
    have hcooling := congrArg Pump.cooling h
    rw [h, show p.cooling = c from hcooling]
  rcases Nat.lt_or_ge s.pump.failures 5 with h | h
  · rw [State.failedTo_moves h]
    exact hshape (State.movePump_lasting _ _)
  · rw [State.failedTo_locks h]
    exact hshape (State.lock_lasting _ _)

/-- Below the sixth failure the count gives the state and the cooling time (R93, R112). -/
theorem State.failedTo_state (h : s.pump.failures < 5) :
    s.failedTo.pump.state = (if s.pump.state = .hand then .hand
      else if s.pump.failures = 2 then .cooling else .ready) ∧
    s.failedTo.pump.cooling = (if s.pump.failures = 2 then some (s.now + 1800000) else s.pump.cooling) := by
  have hthird : min 6 (s.pump.failures + 1) = 3 ↔ s.pump.failures = 2 := by omega
  rw [State.failedTo_moves h]
  simp [Pump.failedOnce, Pump.failureCounted, hthird]

theorem State.failedTo_locked (h : 5 ≤ s.pump.failures) (hstate : s.pump.state ≠ .locked) :
    s.failedTo.pump.state = .locked ∧ s.failedTo.pump.lockCause = some .repeatedFailures := by
  obtain ⟨hlocked, hcause, _⟩ := State.lock_locks (s := s.onPump Pump.failureCounted) (c := .repeatedFailures) hstate
  rw [State.failedTo_locks h]
  exact ⟨hlocked, hcause⟩

theorem State.failure_pump (s : State) (k : AlarmKind) : (s.failure k).pump = s.failedTo.pump := by
  simp [State.failure]

/-- The event of a failure is on the record of its kind (R86, R87, R156). -/
theorem State.failure_record (hended : s.ended) (hk : k ∉ [AlarmKind.a5]) :
    ((s.failure k).alarm k).abnormal = false ∧ ((s.alarm k).abnormal = false →
      ((s.failure k).alarm k).accepted = false ∧ ((s.failure k).alarm k).normalSince = some s.now) := by
  have haround : s.Around [.a5] [] s.failedTo := (State.Around.refl s).failedTo (by simp)
  have hfended : s.failedTo.ended := State.ended_of_kept hended (by simp)
  refine ⟨State.alarmEvent_abnormal hfended _, fun hnormal => ?_⟩
  obtain ⟨haccepted, hsince, _⟩ :=
    State.alarmEvent_record hfended (by rwa [haround.alarms k hk]) [s.snapshot] (k := k)
  exact ⟨haccepted, hsince.trans (by simp)⟩

/-! ### The two failures -/

theorem exec_proofTimeEnd {w : ProvingWindow} (h : s.pump.window = some w) (hfeedback : s.pump.feedback = false) :
    exec (.proofTimeEnd dt) s = .next (s.reach dt w.ends).notProved.finish := by
  show execProofTimeEnd dt s = _
  simp [execProofTimeEnd, h, hfeedback]

theorem exec_feedbackLost (h : s.pump.lossTimer = some m) :
    exec (.feedbackLost dt) s = .next ((s.reach dt m).failure .a4).finish := by
  show execFeedbackLost dt s = _
  simp only [execFeedbackLost, h]

/-- A motor that proves or has proved is driven (R72, R86, R87). -/
theorem Pump.closed_of_proving {p : Pump} (h : p.proving = true ∨ p.proved = true) : p.closed = true := by
  rcases h with h | h <;> cases hstate : p.state <;> simp_all [Pump.proving, Pump.proved, Pump.closed]

/-- What a failure counts at its own moment: the failed start when the proof time has ended (R86, R169). -/
def failureCounts (k : AlarmKind) : List (CountId × Nat) := if k = .a3 then [(.failedStarts, 1)] else []

/-- Either failure happens to a driven motor, with its count given (R86, R87). -/
theorem exec_failure (c : Instr) (hsound : s.pump.Sound)
    (hc : (c = .proofTimeEnd dt ∧ k = .a3 ∧ s.pump.feedback = false ∧ ∃ w, s.pump.window = some w ∧ w.ends = m) ∨
      (c = .feedbackLost dt ∧ k = .a4 ∧ s.pump.lossTimer = some m)) :
    ∃ v : State, exec c s = .next (v.failure k).finish ∧ v.pump = s.pump ∧ v.now = (s.reach dt m).now ∧
      v.startUp = (s.reach dt m).startUp ∧ v.alarms = s.alarms ∧ v.screen = (s.reach dt m).screen ∧
      (s.reach dt m).Around [k, .a5] (failureCounts k) v ∧ s.pump.closed = true ∧ k ∉ [AlarmKind.a5] := by
  rcases hc with ⟨rfl, rfl, hfeedback, w, hw, rfl⟩ | ⟨rfl, rfl, htimer⟩
  · refine ⟨(s.reach dt w.ends).count .failedStarts 1, exec_proofTimeEnd hw hfeedback, rfl, rfl, rfl, rfl, rfl,
      (State.Around.refl _).count, Pump.closed_of_proving (.inl (hsound.proving hw)), by decide⟩
  · exact ⟨s.reach dt m, exec_feedbackLost htimer, rfl, rfl, rfl, rfl, rfl, State.Around.refl _,
      Pump.closed_of_proving (.inr (hsound.proved htimer)), by decide⟩

section

open Sys2Proof

/-- Settles O35: either failure is one operation on a driven motor, by the consecutive-failure count it reaches. -/
theorem failureCountsAndSetsTheState : Obligations.FailureCountsAndSetsTheState := by
  intro s dt m c k hsound hc
  obtain ⟨v, hexec, hvpump, hvnow, hvstartUp, hvalarms, hvscreen, hv, hclosed, hk⟩ := exec_failure c hsound hc
  have haround : (s.reach dt m).Around [k, .a5] (failureCounts k) (v.failure k).finish :=
    (hv.failure (by simp) (by simp)).finish
  have hvclosed : v.pump.closed = true := by rw [hvpump, hclosed]
  have hvstate : v.pump.state ≠ .locked := fun e => by simp [Pump.closed_of_locked e] at hvclosed
  obtain ⟨hhalted, hwindow, hminOff⟩ := State.failedTo_opens hvclosed
  have hnow : (v.failure k).finish.now = v.now := by simp [State.failure]
  have hscreen : (v.failure k).finish.screen = (s.reach dt m).screen := by
    rw [State.finish_screen, ← hvscreen]
    simp [State.failure]
  have hafter : v.after v.general.minOff = (s.reach dt m).after s.general.minOff := by
    rw [State.after_minOff_congr hvnow hvstartUp]
    rfl
  have hpump : (v.failure k).finish.pump = v.failedTo.pump := by rw [State.finish_pump, State.failure_pump]
  refine ⟨_, hexec, haround.sameBut hscreen, haround.aroundThePump, ?_⟩
  rw [State.contactor, hpump, hnow, ← hvpump]
  refine ⟨v.failedTo_lasting, hhalted.rests.1, hwindow, ?_, fun h => State.failedTo_locked h hvstate, fun h => ?_,
    fun h hnot => ?_, hhalted.phase, fun hended => ?_, fun hinterval => ?_⟩
  · rw [hminOff, hafter, hvnow]
    rfl
  · obtain ⟨hstate, hcooling⟩ := State.failedTo_state (s := v) (by omega)
    exact ⟨hcooling.trans (if_pos h), by rw [hstate, if_pos h]⟩
  · obtain ⟨hstate, hcooling⟩ := State.failedTo_state h
    exact ⟨hcooling.trans (if_neg hnot), by rw [hstate, if_neg hnot]⟩
  · obtain ⟨habnormal, hrecord⟩ := State.failure_record (State.ended_of_kept (s := s.reach dt m) hended hvstartUp) hk
    rw [State.alarm_congr hvalarms] at hrecord
    rw [State.finish_alarm]
    exact ⟨habnormal, hrecord⟩
  · unfold failureCounts at haround
    split
    · next ha3 =>
      rw [if_pos ha3] at haround
      exact haround.accumulated_one (by simpa using hinterval)
    · next ha3 =>
      rw [if_neg ha3] at haround
      exact haround.accumulated_nil

end

end Sys2Proof.Machine

/-! ## Feedback in a proving window (R86, R88, R112, R118) -/

namespace Sys2Proof.Machine

variable {s t u : State} {dt m : Nat}

/-! ### The rake trigger of an entry into RUNNING (R118 to R120) -/

theorem State.trigger_before_end (h : ¬ s.ended) : s.trigger = s := if_pos h

theorem State.trigger_idle (hended : s.ended) (h : s.screen.state = .idle) :
    s.trigger = if s.supply.healthy then s.onScreen (Screen.startCycle s.now) else s := by
  simp [State.trigger, hended, h]

theorem State.trigger_inCycle (hended : s.ended)
    (h : s.screen.state = .forward ∨ s.screen.state = .reversing ∨ s.screen.state = .pause) :
    s.trigger = s.onScreen fun c => { c with rakeAgain := true } := by
  rcases h with h | h | h <;> simp [State.trigger, hended, h]

theorem State.trigger_lost (h : s.screen.state = .jammed ∨ s.screen.state = .out) : s.trigger = s := by
  rcases h with h | h <;> simp [State.trigger, h]

/-- Only the screen and what stands at the moment of the entry bear on the trigger (R118). -/
theorem State.RakedWithPump.congr (h : s.RakedWithPump t) (hscreen : u.screen = t.screen) : s.RakedWithPump u := by
  rw [State.RakedWithPump, hscreen]
  exact h

/-- The screen after a change that enters RUNNING is that of a trigger under rake with pump (R118). -/
theorem State.movePump_screen_running {f : Pump → Pump} (hf : (f s.pump).state = .running)
    (hstate : s.pump.state ≠ .running) : ∃ v : State,
    v.now = s.now ∧ v.startUp = s.startUp ∧ v.supply = s.supply ∧ v.screen = s.screen ∧
    (s.movePump f).screen = if s.settings.screen.map (·.rakeWithPump) = some true then v.trigger.screen else s.screen := by
  obtain ⟨v, hv⟩ : ∃ v, v = (s.changePump f).limitWish.formAvailable.handOver [] .a5 := ⟨_, rfl⟩
  have hvscreen : v.screen = s.screen := by simp [hv, State.formAvailable]
  have hvrunning : v.pump.state = .running := by simp [hv, State.formAvailable, hf]
  have hsettings : v.settings = s.settings := by
    have hstartUp : v.startUp = s.startUp := by simp [hv, State.formAvailable]
    rw [State.settings, hstartUp]; rfl
  refine ⟨v, by simp [hv, State.formAvailable], by simp [hv, State.formAvailable], by simp [hv, State.formAvailable],
    hvscreen, ?_⟩
  have hmoved : s.movePump f = v.pumpSource s.pump.state := by rw [hv]; rfl
  rw [hmoved, State.pumpSource, hsettings]
  simp only [hvrunning, hstate, ne_eq, not_false_eq_true, true_and]
  split
  · rfl
  · exact hvscreen

/-- An entry into RUNNING triggers the rake under rake with pump (R118 to R120). -/
theorem State.movePump_raked {f : Pump → Pump} (hf : (f s.pump).state = .running) (hstate : s.pump.state ≠ .running) :
    s.RakedWithPump (s.movePump f) := by
  obtain ⟨v, hnow, hstartUp, hsupply, hscreen, htriggered⟩ := State.movePump_screen_running hf hstate
  have hended : v.ended ↔ s.ended := by rw [State.ended, State.ended, hstartUp]
  refine ⟨fun hlost => ?lost, fun g hg hrake hended' => ⟨fun hidle hhealthy => ?starts, fun hcycle => ?marks⟩⟩
  case lost =>
    rw [htriggered]
    split
    · next hrake =>
      obtain ⟨g, hg, hgrake⟩ := Option.map_eq_some_iff.mp hrake
      rw [← hscreen]
      rcases hlost with h | h | h | h | ⟨hidle, hdead⟩
      · simp [h g hg] at hgrake
      · rw [State.trigger_before_end (hended.not.mpr h)]
      · rw [State.trigger_lost (.inl (by rw [hscreen, h]))]
      · rw [State.trigger_lost (.inr (by rw [hscreen, h]))]
      · by_cases hv : v.ended
        · rw [State.trigger_idle hv (by rw [hscreen, hidle]), hsupply, hdead]
          rfl
        · rw [State.trigger_before_end hv]
    · rfl
  case starts =>
    rw [htriggered, if_pos (by simp [hg, hrake]), State.trigger_idle (hended.mpr hended') (by rw [hscreen, hidle]),
      hsupply, if_pos hhealthy, State.onScreen_screen, hscreen, hnow]
    rfl
  case marks =>
    rw [htriggered, if_pos (by simp [hg, hrake]), State.trigger_inCycle (hended.mpr hended') (by rwa [hscreen]),
      State.onScreen_screen, hscreen]

/-! ### The entry into RUNNING (R88 to R90) -/

/-- The pump as it enters RUNNING (R88). -/
def State.runningPump (s : State) (p : Pump) : Pump :=
  { p with
    state := .running
    minRun := s.after s.general.minRun
    stopDelay := none
    provingRun := some (s.now + 60000) }

theorem State.enterRunning_eq (s : State) :
    s.enterRunning = (s.movePump s.runningPump).stopFloatCutOut.actOnStop := rfl

theorem State.actOnStop_lasting (s : State) : s.actOnStop.pump.lasting = s.pump.lasting := by
  unfold State.actOnStop
  split
  · rfl
  · split
    · rfl
    · split
      · rfl
      · split
        · exact s.goStopping_lasting
        · rfl

theorem State.stopFloatCutOut_lasting (s : State) : s.stopFloatCutOut.pump.lasting = s.pump.lasting := by
  unfold State.stopFloatCutOut
  split
  · exact s.goStopping_lasting
  · rfl

theorem State.enterRunning_lasting (s : State) : s.enterRunning.pump.lasting = s.pump.lasting := by
  rw [State.enterRunning_eq, State.actOnStop_lasting, State.stopFloatCutOut_lasting, State.movePump_lasting]
  rfl

theorem State.enterRunning_screen (s : State) : s.enterRunning.screen = (s.movePump s.runningPump).screen := by
  simp [State.enterRunning_eq]

/-- With neither a stop wish nor the STOP float's cut-out, the pump stays in RUNNING (R89, R90). -/
theorem State.enterRunning_stays (hwish : s.staging.stopWish = false) (hfloat : s.floats.stop.presented ≠ .opened) :
    s.enterRunning.pump.state = .running ∧ s.enterRunning.pump.closed = true ∧ s.enterRunning.pump.window = none ∧
    s.enterRunning.pump.provingRun = some (s.now + 60000) ∧
    s.enterRunning.pump.minRun = s.after s.general.minRun ∧ s.enterRunning.pump.stopDelay = none ∧
    s.enterRunning.pump.minOff = s.pump.minOff := by
  obtain ⟨v, hv⟩ : ∃ v, v = s.movePump s.runningPump := ⟨_, rfl⟩
  have hpump : v.pump = Pump.tidied s.now (s.after s.general.minOff) s.pump (s.runningPump s.pump) := by
    rw [hv]; exact s.movePump_pump_tidied _ (by simp [State.runningPump])
  have haround : s.Around [.a5] [] v := by rw [hv]; exact (State.Around.refl s).movePump (by simp)
  have hvwish : v.staging.stopWish = false := by
    have hstaging := congrArg Staging.stopWish haround.staging
    exact (show v.staging.stopWish = s.staging.stopWish from hstaging).trans hwish
  have hvfloat : v.stopFloatCutOut = v := by
    have hopen : v.floats.stop.presented ≠ .opened := by rw [hv]; simpa using hfloat
    simp [State.stopFloatCutOut, hopen]
  have hrunning : v.pump.state = .running := by rw [hpump]; rfl
  rw [State.enterRunning_eq, ← hv, hvfloat, State.actOnStop_of_noWish hrunning hvwish, State.onPump_pump, hpump]
  simp [Pump.tidied, keepIf, State.runningPump, Pump.closed, Pump.proving, Pump.proved]

/-! ### Feedback in the window (R86, R112) -/

/-- The pump with its feedback there. -/
def Pump.withFeedback (p : Pump) : Pump := { p with feedback := true }

theorem exec_runFeedbackChange_window {w : ProvingWindow} (hfeedback : s.pump.feedback = false)
    (hwindow : s.pump.window = some w) (hends : s.now + dt ≤ w.ends) : exec (.runFeedbackChange dt true) s =
    .next (((s.elapse dt).onPump Pump.withFeedback).feedbackInWindow w).finish := by
  rw [exec_runFeedbackChange_present hfeedback]
  simp only [State.feedbackPresent, State.elapse_pump, hwindow]
  exact congrArg _ (congrArg State.finish (if_pos hends))

theorem State.feedbackInWindow_early {w : ProvingWindow} (h : s.now ≤ w.closedAt + 40) :
    s.feedbackInWindow w = s.earlyProof := if_pos h

theorem State.feedbackInWindow_proves {w : ProvingWindow} (h : w.closedAt + 40 < s.now) :
    s.feedbackInWindow w = s.proven := if_neg (Nat.not_le.mpr h)

theorem State.proven_auto (h : s.pump.state ≠ .hand) : s.proven = s.enterRunning := if_neg h

/-- The pump proved in HAND (R112). -/
def Pump.provedByHand (now : Nat) (p : Pump) : Pump :=
  { p with handPhase := some .proved, provingRun := some (now + 60000), cooling := none }

theorem State.proven_hand (h : s.pump.state = .hand) : s.proven = s.movePump (Pump.provedByHand s.now) := if_pos h

theorem State.proven_lasting (s : State) :
    s.proven.pump.lasting = { s.pump.lasting with cooling := s.proven.pump.cooling } := by
  by_cases h : s.pump.state = .hand
  · have hlasting := s.movePump_lasting (Pump.provedByHand s.now)
    rw [← State.proven_hand h] at hlasting
    rw [hlasting, show s.proven.pump.cooling = none from congrArg Pump.cooling hlasting]
    rfl
  · have hlasting := s.enterRunning_lasting
    rw [← State.proven_auto h] at hlasting
    have hcooling : s.proven.pump.cooling = s.pump.cooling := by rw [State.proven_auto h]; simp
    rw [hlasting, hcooling]
    rfl

/-- In HAND a proved pump goes on with its contactor closed (R110, R112). -/
theorem State.proven_hand_pump (h : s.pump.state = .hand) :
    s.proven.pump.state = .hand ∧ s.proven.pump.handPhase = some .proved ∧ s.proven.pump.closed = true ∧
    s.proven.pump.window = none ∧ s.proven.pump.cooling = none ∧
    s.proven.pump.provingRun = some (s.now + 60000) ∧ s.proven.pump.minOff = s.pump.minOff := by
  rw [State.proven_hand h, State.movePump_pump_eq (.inl (by simp [Pump.mayClaim, Pump.provedByHand, h]))]
  simp [Pump.tidied, keepIf, Pump.provedByHand, Pump.closed, Pump.proving, Pump.proved, h]

section

open Sys2Proof

/-- Settles O33: feedback in the window is early proof or proves the pump, and an entry into RUNNING is the one thing here
that can trigger the rake. -/
theorem feedbackInTheProvingWindow : Obligations.FeedbackInTheProvingWindow := by
  intro s dt w hsound hfeedback hwindow hends
  obtain ⟨u, hu⟩ : ∃ u, u = (s.elapse dt).onPump Pump.withFeedback := ⟨_, rfl⟩
  have hupump : u.pump = s.pump.withFeedback := by rw [hu]; rfl
  have hunow : u.now = s.now + dt := by rw [hu]; rfl
  have huscreen : u.screen = (s.elapse dt).screen := by rw [hu]; rfl
  have hustart : (s.elapse dt).Around [.a5] [] u := by rw [hu]; exact (State.Around.refl _).onPump
  have hclosed : u.pump.closed = true := by rw [hupump]; exact Pump.closed_of_proving (.inl (hsound.proving hwindow))
  have hlocked : u.pump.state ≠ .locked := fun e => by simp [Pump.closed_of_locked e] at hclosed
  have hexec := exec_runFeedbackChange_window hfeedback hwindow hends
  rw [← hu] at hexec
  rcases Nat.lt_or_ge (w.closedAt + 40) (s.now + dt) with hlate | hearly
  · have hproves : u.feedbackInWindow w = u.proven := State.feedbackInWindow_proves (by omega)
    have haround := (hustart.proven (by simp)).finish
    have hearly : ¬ s.now + dt ≤ w.closedAt + 40 := by omega
    rw [hproves] at hexec
    refine ⟨_, hexec, haround.sameBut_screen, haround.aroundThePump, ?_⟩
    rw [State.contactor, State.finish_pump]
    refine ⟨u.proven_lasting.trans (by rw [hupump]; rfl), fun h => absurd h hearly, fun _ hstate hwish hfloat => ?_,
      fun _ hstate => ?_, fun _ hstate => ?_⟩
    · have hauto : u.pump.state ≠ .hand := by rw [hupump]; simp [Pump.withFeedback, hstate]
      rw [State.proven_auto hauto]
      have hstays := State.enterRunning_stays (s := u) (by rw [hu]; exact hwish) (by rw [hu]; exact hfloat)
      rw [hunow, hupump, show u.after u.general.minRun =
        (if s.general.minRun = 0 then none else some (s.now + dt + s.general.minRun * 1000)) by rw [hu]; rfl] at hstays
      exact hstays
    · have hustate : u.pump.state = .proving := by rw [hupump]; exact hstate
      have hraked : u.RakedWithPump (u.movePump u.runningPump) :=
        State.movePump_raked rfl (by simp [hustate])
      refine State.RakedWithPump.congr (t := u.movePump u.runningPump) ?_ ?_
      · rw [hu] at hraked ⊢
        exact hraked
      · rw [State.finish_screen, State.proven_auto (by simp [hustate]), State.enterRunning_screen]
    · have hustate : u.pump.state = .hand := by rw [hupump]; exact hstate
      obtain ⟨hhand, hphase, hclosed', hnone, hcooling, hrun, hminOff⟩ := State.proven_hand_pump hustate
      refine ⟨hhand, ?_, hphase, hclosed', hnone, hcooling, by rw [hrun, hunow], by rw [hminOff, hupump]; rfl⟩
      have hscreen := State.movePump_screen (s := u) (Pump.provedByHand u.now) (by simp [Pump.provedByHand])
      rw [State.finish_screen, State.proven_hand hustate, hscreen, huscreen]
  · have hfails : u.feedbackInWindow w = u.earlyProof := State.feedbackInWindow_early (by omega)
    have haround := (hustart.earlyProof (by simp)).finish
    have hlate : ¬ w.closedAt + 40 < s.now + dt := by omega
    have hscreen : u.earlyProof.screen = u.screen := by simp
    obtain ⟨hstate, hcause, _⟩ := State.earlyProof_locks hlocked
    rw [hfails] at hexec
    refine ⟨_, hexec, haround.sameBut_screen, haround.aroundThePump, ?_⟩
    rw [State.contactor, State.finish_pump, State.finish_screen]
    have hcooling : u.earlyProof.pump.cooling = s.pump.cooling := by simp [hupump, Pump.withFeedback]
    refine ⟨by rw [u.earlyProof_lasting, hcooling, hupump]; rfl, fun _ => ⟨hstate, hcause, Pump.closed_of_locked hstate,
      hscreen.trans huscreen, fun hinterval => haround.accumulated_one (by simpa using hinterval)⟩,
      fun h => absurd h hlate, fun h => absurd h hlate, fun h => absurd h hlate⟩

end

end Sys2Proof.Machine

/-! ## Starts, the guard, the claim and the fallback (R75, R76, R80, R82 to R86) -/

namespace Sys2Proof.Machine

variable {s t u : State} {dt m : Nat}

/-! ### A start in Auto (R83, R84, R86) -/

/-- The start list with the start of now: aged, its oldest entry leaving it when it is full (R83, R84). -/
def State.startList (s : State) : List Nat :=
  (if s.general.startsPerHour ≤ (s.pump.aged s.startUp.runClock).starts.length
    then (s.pump.aged s.startUp.runClock).starts.tail else (s.pump.aged s.startUp.runClock).starts) ++
    [s.startUp.runClock]

theorem State.startList_newest (s : State) : s.startList.getLast? = some s.startUp.runClock := by
  simp [State.startList]

/-- The station with the start listed and counted, as a start finds it (R83, R84, R169). -/
def State.startListed (s : State) : State := s.ageStarts.addStart.count .starts 1

theorem State.startListed_pump (s : State) : s.startListed.pump = { s.pump with starts := s.startList } := by
  have hlimited : s.ageStarts.startLimited =
      decide (s.general.startsPerHour ≤ (s.pump.aged s.startUp.runClock).starts.length) := by
    rw [State.startLimited, State.general_congr (s := s) (by simp), State.ageStarts_pump_aged]
  have hstartUp : s.ageStarts.startUp = s.startUp := by simp
  have hlisted : s.startListed.pump = s.ageStarts.addStart.pump := rfl
  rw [hlisted, State.addStart, State.onPump_pump, hlimited, State.ageStarts_pump_aged, hstartUp]
  simp only [decide_eq_true_eq]
  rfl

theorem State.startListed_keeps (s : State) : s.startListed.now = s.now ∧ s.startListed.startUp = s.startUp ∧
    s.startListed.screen = s.screen := by
  simp [State.startListed]

/-- Ageing the start list leaves the claim slot (R46, R84). -/
theorem State.startListed_line (s : State) : ∃ x, s.startListed.line = { s.line with status := x } := by
  have hlisted : s.startListed.line = s.ageStarts.line := by simp [State.startListed]
  rw [hlisted]
  unfold State.ageStarts
  dsimp only
  split
  · exact ⟨_, rfl⟩
  · obtain ⟨x, hx⟩ := State.publish_line (((s.onPump (Pump.aged s.startUp.runClock)).onStaging fun g =>
      { g with limitHeld := false }).onStaging fun g => { g with available := ((s.onPump (Pump.aged
        s.startUp.runClock)).onStaging fun g => { g with limitHeld := false }).isAvailable })
    refine ⟨x, ?_⟩
    simp only [State.handOver_keeps, State.formAvailable]
    rw [hx]
    rfl

/-- The pump as it starts in Auto, `s` the station at the moment (R83, R86). -/
def State.startingPump (s : State) (p : Pump) : Pump :=
  { p with state := .proving, window := some s.newWindow, minRun := none, stopDelay := none }

/-- The station with its contactor closed for a start in Auto (R83). -/
def State.closedForStart (s : State) : State := s.startListed.movePump s.startingPump

theorem State.makeStart_eq (s : State) : s.makeStart = s.closedForStart.checkEarlyProof := by
  unfold State.makeStart State.closedForStart State.startListed State.startingPump
  rfl

theorem State.closedForStart_pump (s : State) : s.closedForStart.pump = Pump.tidied s.now (s.after s.general.minOff)
    { s.pump with starts := s.startList } (s.startingPump { s.pump with starts := s.startList }) := by
  obtain ⟨hnow, hstartUp, _⟩ := s.startListed_keeps
  rw [State.closedForStart, State.movePump_pump_tidied _ _ (by simp [State.startingPump]), State.startListed_pump, hnow,
    State.after_minOff_congr hnow hstartUp]

theorem State.closedForStart_proving (s : State) : s.closedForStart.pump.state = .proving := by
  rw [State.closedForStart_pump]; rfl

theorem State.closedForStart_feedback (s : State) : s.closedForStart.pump.feedback = s.pump.feedback := by
  rw [State.closedForStart_pump]; rfl

/-- Without feedback the start is the contactor's closing alone (R83). -/
theorem State.makeStart_of_noFeedback (h : s.pump.feedback = false) : s.makeStart = s.closedForStart := by
  simp [State.makeStart_eq, State.checkEarlyProof, State.closedForStart_feedback, h]

/-- With feedback there already it is early proof (R86). -/
theorem State.makeStart_of_feedback (h : s.pump.feedback = true) : s.makeStart = s.closedForStart.earlyProof := by
  simp [State.makeStart_eq, State.checkEarlyProof, State.closedForStart_feedback, h, Pump.proving,
    State.closedForStart_proving]

theorem State.closedForStart_lasting (s : State) :
    s.closedForStart.pump.lasting = { s.pump.lasting with starts := s.startList } := by
  rw [State.closedForStart_pump]; rfl

theorem State.makeStart_lasting (s : State) :
    s.makeStart.pump.lasting = { s.pump.lasting with starts := s.startList } := by
  cases h : s.pump.feedback
  · rw [State.makeStart_of_noFeedback h, State.closedForStart_lasting]
  · rw [State.makeStart_of_feedback h, State.earlyProof_lasting, State.closedForStart_lasting]

theorem State.makeStart_startList (s : State) : s.makeStart.pump.starts = s.startList :=
  Pump.starts_of_lasting_with s.makeStart_lasting

/-- A start in Auto is in PROVING with the contactor closed, its window open and no claim or start wish left
(R72, R83, R86). -/
theorem State.makeStart_proves (h : s.pump.feedback = false) :
    s.makeStart.pump.state = .proving ∧ s.makeStart.pump.closed = true ∧
    s.makeStart.pump.window = some s.newWindow ∧ s.makeStart.pump.claimPhase = none ∧
    s.makeStart.staging.startWish = .notHeld := by
  rw [State.makeStart_of_noFeedback h]
  refine ⟨s.closedForStart_proving, by simp [Pump.closed, State.closedForStart_proving], ?_, ?_,
    State.movePump_startWish_notHeld ?_⟩
  · rw [State.closedForStart_pump]; rfl
  · rw [State.closedForStart_pump]; rfl
  · have hstate : (s.startListed.movePump s.startingPump).pump.state = .proving := s.closedForStart_proving
    simp only [Pump.mayWish, hstate]
    rfl

theorem State.makeStart_locks (h : s.pump.feedback = true) :
    s.makeStart.pump.state = .locked ∧ s.makeStart.pump.lockCause = some .earlyProof := by
  rw [State.makeStart_of_feedback h]
  obtain ⟨hstate, hcause, _⟩ := State.earlyProof_locks (s := s.closedForStart) (by simp [State.closedForStart_proving])
  exact ⟨hstate, hcause⟩

/-- A start without a placed hand claim leaves the claim slot (R83, R110). -/
theorem State.makeStart_line (h : s.pump.claimPlaced = false) :
    ∃ x, s.makeStart.line = { s.line with status := x } := by
  have hplaced : (s.startingPump s.startListed.pump).claimPlaced = false := by
    rw [State.startListed_pump]; exact h
  obtain ⟨x, hx⟩ := s.startListed_line
  obtain ⟨y, hy⟩ := State.movePump_line (s := s.startListed) (f := s.startingPump) (.inr hplaced)
  have hclosed : s.closedForStart.line = { s.line with status := y } := by rw [State.closedForStart, hy, hx]
  cases hfeedback : s.pump.feedback
  · exact ⟨y, by rw [State.makeStart_of_noFeedback hfeedback, hclosed]⟩
  · have hgone : s.closedForStart.pump.claimPlaced = false := by rw [State.closedForStart_pump]; rfl
    obtain ⟨z, hz⟩ := State.earlyProof_line hgone
    exact ⟨z, by rw [State.makeStart_of_feedback hfeedback, hz, hclosed]⟩

namespace State.Around

variable {ks : List AlarmKind} {gs : List (CountId × Nat)}

theorem closedForStart (ha5 : AlarmKind.a5 ∈ ks) (ha6 : AlarmKind.a6 ∈ ks) (h : u.Around ks gs s) :
    u.Around ks (gs ++ [(.starts, 1)]) s.closedForStart := by
  unfold State.closedForStart State.startListed
  exact (h.ageStarts ha6).addStart.count.movePump ha5

/-- What a start counts: the start, and the failed start of early proof (R86, R169). -/
theorem makeStart (ha5 : AlarmKind.a5 ∈ ks) (ha6 : AlarmKind.a6 ∈ ks) (h : u.Around ks gs s) :
    u.Around ks (gs ++ if s.pump.feedback then [(.starts, 1), (.failedStarts, 1)] else [(.starts, 1)]) s.makeStart := by
  cases hfeedback : s.pump.feedback
  · rw [State.makeStart_of_noFeedback hfeedback]
    exact h.closedForStart ha5 ha6
  · have hearly := (h.closedForStart ha5 ha6).earlyProof ha5
    rw [State.makeStart_of_feedback hfeedback]
    simpa using hearly

end State.Around

end Sys2Proof.Machine

/-! ## The guard, the claim time and the fallback time (R75, R76, R80, R82) -/

namespace Sys2Proof.Machine

variable {s t u : State} {dt m : Nat}

/-! ### An attempt on the claim while a report item is selected (R26, R177) -/

theorem LineUnit.setSlot_attempt (l : LineUnit) (i : SlotId) (x : Slot) : (l.setSlot i x).attempt = l.attempt := by
  cases i <;> rfl

theorem State.place_attempt (s : State) (i : SlotId) (f : Frame) : (s.place i f).line.attempt = s.line.attempt := by
  obtain ⟨x, hx⟩ := s.place_line i f
  rw [hx, LineUnit.setSlot_attempt]

theorem State.fillReport_attempt (s : State) : s.fillReport.line.attempt = s.line.attempt := by
  unfold State.fillReport
  split
  · split
    · rfl
    · exact s.place_attempt _ _
  · rfl

theorem State.emptyReport_attempt (h : s.line.onLine .report = false) :
    s.emptyReport.line.attempt = s.line.attempt := by
  unfold State.emptyReport State.withdraw
  split
  · exact LineUnit.setSlot_attempt _ _ _
  · rw [h]
    exact LineUnit.setSlot_attempt _ _ _

/-- A selection leaves an attempt on another slot than the report's (R177, R178). -/
theorem State.select_attempt (h : s.line.onLine .report = false) : s.select.line.attempt = s.line.attempt := by
  unfold State.select
  split
  · rfl
  · split
    · exact s.fillReport_attempt
    · split
      · rfl
      · split
        · unfold State.withdrawReport
          split
          · rw [State.fillReport_attempt, State.emptyReport_attempt h]
          · unfold State.withdraw
            split
            · exact LineUnit.setSlot_attempt _ _ _
            · rw [h]; exact LineUnit.setSlot_attempt _ _ _
        · rfl

/-- An attempt on another slot goes on through what closes a step (R26). -/
theorem State.finish_attempt {a : Attempt} (h : s.line.attempt = some a) (hslot : a.slot ≠ .report) :
    s.finish.line.attempt = some a := by
  have hselected : s.select.line.attempt = some a := by
    rw [State.select_attempt (by simp [LineUnit.onLine, h, hslot]), h]
  rw [State.finish, State.offer, if_neg (by simp [hselected]), hselected]

/-- A claim is committed while its attempt has passed the arbitration field (R27). -/
theorem LineUnit.attempt_of_committed {l : LineUnit} {i : SlotId} (h : l.committed i = true) :
    l.attempt = some ⟨i, true⟩ := by
  unfold LineUnit.committed at h
  split at h
  · next a ha =>
    obtain ⟨hslot, hcommitted⟩ := Bool.and_eq_true_iff.mp h
    rw [ha, ← of_decide_eq_true hslot, ← hcommitted]
  · exact absurd h (by decide)

/-! ### The claim (R76) -/

/-- The pump as it begins to claim (R76). -/
def Pump.claimBegun (now : Nat) (p : Pump) : Pump :=
  { p with state := .claiming, claimPhase := some .waiting, claimTime := some (now + 2000) }

theorem State.beginClaim_eq (s : State) : s.beginClaim = s.placeClaim.movePump (Pump.claimBegun s.now) := rfl

/-- A CLAIM placed off the line stands in its slot (R25, R76). -/
theorem State.placeClaim_frame (h : s.line.onLine .claim = false) :
    s.placeClaim.line.claim.frame = some (.claim s.staging.dAuto s.pump.credit) := by
  have hcommitted : s.line.committed .claim = false := by
    unfold LineUnit.onLine at h
    unfold LineUnit.committed
    split at h <;> simp_all
  unfold State.placeClaim State.place
  dsimp only
  rw [hcommitted, h]
  rfl

/-- A station that claims is CLAIMING in WAITING with the claim time running and the contactor open (R72, R76). -/
theorem State.beginClaim_claims (s : State) :
    s.beginClaim.pump.state = .claiming ∧ s.beginClaim.pump.claimPhase = some .waiting ∧
    s.beginClaim.pump.claimTime = some (s.now + 2000) ∧ s.beginClaim.pump.closed = false := by
  rw [State.beginClaim_eq, State.movePump_pump_tidied _ _ (by simp [Pump.claimBegun])]
  exact ⟨rfl, rfl, rfl, rfl⟩

theorem State.beginClaim_lasting (s : State) : s.beginClaim.pump.lasting = s.pump.lasting := by
  have hplaced : s.placeClaim.pump = s.pump := by simp
  rw [State.beginClaim_eq, State.movePump_lasting, hplaced]
  rfl

theorem State.beginClaim_frame (h : s.line.onLine .claim = false) (hplaced : s.pump.claimPlaced = false) :
    s.beginClaim.line.claim.frame = some (.claim s.staging.dAuto s.pump.credit) := by
  have hkept : s.placeClaim.pump = s.pump := by simp
  obtain ⟨x, hx⟩ := State.movePump_line (s := s.placeClaim) (f := Pump.claimBegun s.now)
    (.inr (by rw [hkept]; exact hplaced))
  rw [State.beginClaim_eq, hx]
  exact State.placeClaim_frame h

/-! ### The three ends -/

theorem exec_guardExpiry (h : s.pump.guard = some m) : exec (.guardExpiry dt) s =
    .next ((s.reach dt m).onPump fun p => { p with guard := none }).actOnStart.finish := by
  show execGuardExpiry dt s = _
  simp only [execGuardExpiry, h]

theorem exec_claimTimeEnd (h : s.pump.claimTime = some m) (hphase : s.pump.claimPhase = some .waiting) :
    exec (.claimTimeEnd dt) s = .next ((s.reach dt m).onPump fun p => { p with
      claimPhase := some .fallback, claimTime := none, fallbackTime := some (s.reach dt m).fallbackEnd }) := by
  show execClaimTimeEnd dt s = _
  simp only [execClaimTimeEnd, h]
  exact congrArg _ (if_pos hphase)

theorem exec_fallbackTimeEnd (h : s.pump.fallbackTime = some m) (hphase : s.pump.claimPhase = some .fallback) :
    exec (.fallbackTimeEnd dt) s = .next (s.reach dt m).endFallback.finish := by
  show execFallbackTimeEnd dt s = _
  simp only [execFallbackTimeEnd, h]
  exact congrArg _ (if_pos hphase)

/-- The pump with its fallback time ended (R80). -/
def Pump.fallbackEnded (p : Pump) : Pump := { p with fallbackTime := none }

theorem State.endFallback_withdrawn (h : s.line.committed .claim = false) :
    s.endFallback = (s.onPump Pump.fallbackEnded).withdrawClaim.makeStart := by
  have hanswer : (s.onPump Pump.fallbackEnded).withdrawalAnswer .claim = .withdrawn := by
    simp [State.withdrawalAnswer, h]
  show (match (s.onPump Pump.fallbackEnded).withdrawalAnswer .claim with
    | .withdrawn => (s.onPump Pump.fallbackEnded).withdrawClaim.makeStart
    | .tooLate => (s.onPump Pump.fallbackEnded).withdrawClaim) = _
  rw [hanswer]

theorem State.endFallback_tooLate (h : s.line.committed .claim = true) :
    s.endFallback = (s.onPump Pump.fallbackEnded).withdrawClaim := by
  have hanswer : (s.onPump Pump.fallbackEnded).withdrawalAnswer .claim = .tooLate := by
    simp [State.withdrawalAnswer, h]
  show (match (s.onPump Pump.fallbackEnded).withdrawalAnswer .claim with
    | .withdrawn => (s.onPump Pump.fallbackEnded).withdrawClaim.makeStart
    | .tooLate => (s.onPump Pump.fallbackEnded).withdrawClaim) = _
  rw [hanswer]

/-! ### What a start wish comes to when the guard has expired (R76, R82) -/

theorem State.actOnStart_claims (hstate : s.pump.state = .ready) (hguard : s.pump.guard = none)
    (hwish : s.staging.startWish = .claimed) (hisolated : s.isolated = false) : s.actOnStart = s.beginClaim := by
  simp [State.actOnStart, hstate, hguard, hwish, hisolated]

theorem State.actOnStart_starts (hstate : s.pump.state = .ready) (hguard : s.pump.guard = none)
    (hwish : s.staging.startWish = .unclaimed) (hisolated : s.isolated = true) : s.actOnStart = s.makeStart := by
  simp [State.actOnStart, hstate, hguard, hwish, hisolated]

/-- With no wish that the station may act on, nothing starts (R76, R82). -/
theorem State.actOnStart_rests (h : s.pump.state ≠ .ready ∨ s.staging.startWish = .notHeld ∨
    (s.staging.startWish = .claimed ∧ s.isolated = true) ∨ (s.staging.startWish = .unclaimed ∧ s.isolated = false)) :
    s.actOnStart = s := by
  unfold State.actOnStart
  split
  · next hready =>
    rcases h with h | h | ⟨h, hisolated⟩ | ⟨h, hisolated⟩
    · exact absurd hready.1 h
    · rw [h]
    · rw [h, hisolated]; rfl
    · rw [h, hisolated]; rfl
  · rfl

section

open Sys2Proof

/-- Settles O31: the guard's expiry acts on the start wish, the claim time's end goes to the fallback, and the fallback's end
withdraws the claim, in time for the start or too late. -/
theorem guardClaimAndFallbackTimesEnd : Obligations.GuardClaimAndFallbackTimesEnd := by
  refine ⟨fun s dt m hguard hsound => ?_, fun s dt m own hown hsound hstate => ⟨fun htime => ?claimTime,
    fun htime hcommitted hfeedback => ?starts, fun htime hcommitted => ?stands⟩⟩
  · obtain ⟨u, hu⟩ : ∃ u, u = (s.reach dt m).onPump fun p => { p with guard := none } := ⟨_, rfl⟩
    have hupump : u.pump = { s.pump with guard := none } := by rw [hu]; rfl
    have hustart (ks : List AlarmKind) : (s.reach dt m).Around ks [] u := by
      rw [hu]; exact (State.Around.refl _).onPump
    have huscreen : u.screen = (s.reach dt m).screen := by rw [hu]; rfl
    have hplaced (hready : s.pump.state = .ready) : u.pump.claimPlaced = false := by
      rw [hupump]; exact hsound.claimPlaced (by simp [hready])
    have hexec := exec_guardExpiry (dt := dt) hguard
    rw [← hu] at hexec
    refine ⟨fun hready hwish hisolated hline => ?_, fun hready hwish hisolated hfeedback => ?_, fun hrests => ?_⟩
    · have hact : u.actOnStart = u.beginClaim := State.actOnStart_claims (by rw [hupump]; exact hready)
        (by rw [hupump]) (by rw [hu]; exact hwish) (by rw [hu]; exact hisolated)
      have haround := ((hustart [.a5]).beginClaim (by simp)).finish
      have hscreen : u.beginClaim.screen = u.screen := by simp
      have hnow : u.beginClaim.finish.now = u.now := by simp
      obtain ⟨hclaiming, hphase, htime, hopen⟩ := u.beginClaim_claims
      have hlasting := u.beginClaim_lasting
      have hstarts := Pump.starts_of_lasting hlasting
      have hguarded := Pump.guard_of_lasting hlasting
      rw [hact] at hexec
      refine ⟨_, hexec, haround.sameBut (by rw [State.finish_screen, hscreen, huscreen]), haround.aroundThePump, ?_⟩
      rw [State.contactor, State.finish_pump, hnow, State.finish_claim]
      refine ⟨hlasting.trans (by rw [hupump]; rfl), hguarded.trans (by rw [hupump]), hclaiming, hphase, htime, hopen,
        hstarts.trans (by rw [hupump]), ?_⟩
      have hframe := State.beginClaim_frame (s := u) (by rw [hu]; exact hline) (hplaced hready)
      rw [hframe, hupump, hu]
      rfl
    · have hact : u.actOnStart = u.makeStart := State.actOnStart_starts (by rw [hupump]; exact hready)
        (by rw [hupump]) (by rw [hu]; exact hwish) (by rw [hu]; exact hisolated)
      have haround := ((hustart [.a5, .a6]).makeStart (by simp) (by simp)).finish
      have hscreen : u.makeStart.screen = u.screen := by simp
      have hstartUp : u.makeStart.finish.startUp = u.startUp := by simp
      obtain ⟨hproving, hclosed, _, _, hwishGone⟩ := State.makeStart_proves (s := u) (by rw [hupump]; exact hfeedback)
      have hguarded : u.makeStart.pump.guard = u.pump.guard := by simp
      obtain ⟨x, hx⟩ := State.makeStart_line (hplaced hready)
      rw [hact] at hexec
      refine ⟨_, hexec, haround.sameBut (by rw [State.finish_screen, hscreen, huscreen]), haround.aroundThePump, ?_⟩
      rw [State.contactor, State.finish_pump, hstartUp, State.finish_claim]
      refine ⟨by rw [u.makeStart_lasting, u.makeStart_startList, hupump]; rfl, hguarded.trans (by rw [hupump]),
        hproving, hclosed, by rw [u.makeStart_startList, State.startList_newest], by rw [hx, hu]; rfl,
        by simpa using hwishGone⟩
    · have hact : u.actOnStart = u := by
        refine State.actOnStart_rests ?_
        rw [hupump, hu]
        exact hrests
      rw [hact] at hexec
      refine ⟨_, hexec, ?_⟩
      have hselects := u.finish_selects
      rw [hu] at hselects ⊢
      exact hselects
  case claimTime =>
    refine ⟨_, exec_claimTimeEnd htime (hsound.waiting htime), by simp [State.SameBut], ?_⟩
    simp only [State.onPump_pump, State.onPump_now, State.fallbackEnd]
    rw [show (s.reach dt m).startUp.address = some own from hown]
    rfl
  case starts =>
    obtain ⟨v, hv⟩ : ∃ v, v = ((s.reach dt m).onPump Pump.fallbackEnded).withdrawClaim := ⟨_, rfl⟩
    have hvpump : v.pump = s.pump.fallbackEnded := by rw [hv]; simp
    have hvscreen : v.screen = (s.reach dt m).screen := by rw [hv]; simp
    have hvline : v.line.claim = .empty := by
      obtain ⟨_, _, hline⟩ :=
        State.withdrawClaim_line_withdrawn (s := (s.reach dt m).onPump Pump.fallbackEnded) hcommitted
      rw [hv, hline]
    have hexec := exec_fallbackTimeEnd (dt := dt) htime (hsound.fallback htime)
    rw [State.endFallback_withdrawn (s := s.reach dt m) hcommitted, ← hv] at hexec
    have haround : (s.reach dt m).Around [.a5, .a6] [] v := by
      rw [hv]; exact (State.Around.refl _).onPump.withdrawClaim
    have hround := (haround.makeStart (by simp) (by simp)).finish
    have hscreen : v.makeStart.screen = v.screen := by simp
    have hstartUp : v.makeStart.finish.startUp = v.startUp := by simp
    have hguarded : v.makeStart.pump.guard = v.pump.guard := by simp
    obtain ⟨hproving, hclosed, _, hphase, _⟩ := State.makeStart_proves (s := v) (by rw [hvpump]; exact hfeedback)
    obtain ⟨x, hx⟩ := State.makeStart_line (s := v) (by rw [hvpump]; exact hsound.claimPlaced (by simp [hstate]))
    refine ⟨_, hexec, hround.sameBut (by rw [State.finish_screen, hscreen, hvscreen]), hround.aroundThePump, ?_⟩
    rw [State.contactor, State.finish_pump, hstartUp, State.finish_claim]
    exact ⟨by rw [v.makeStart_lasting, v.makeStart_startList, hvpump]; rfl, by rw [hx]; exact hvline, hproving, hclosed,
      hphase, by rw [v.makeStart_startList, State.startList_newest], hguarded.trans (by rw [hvpump]; rfl)⟩
  case stands =>
    obtain ⟨v, hv⟩ : ∃ v, v = ((s.reach dt m).onPump Pump.fallbackEnded).withdrawClaim := ⟨_, rfl⟩
    have hvline : v.line = { s.line with claim := ⟨s.line.claim.frame, none⟩, claimWithdrawal := true } := by
      rw [hv]; exact State.withdrawClaim_line_tooLate (s := (s.reach dt m).onPump Pump.fallbackEnded) hcommitted
    have hattempt : v.line.attempt = some ⟨.claim, true⟩ := by
      rw [hvline]; exact LineUnit.attempt_of_committed hcommitted
    have hexec := exec_fallbackTimeEnd (dt := dt) htime (hsound.fallback htime)
    rw [State.endFallback_tooLate (s := s.reach dt m) hcommitted, ← hv] at hexec
    refine ⟨_, hexec, by simp [State.SameBut, hv], ?_⟩
    rw [State.finish_claimWithdrawal, State.finish_claim, State.finish_attempt hattempt (by decide), State.finish_pump,
      hvline, LineUnit.attempt_of_committed hcommitted]
    exact ⟨rfl, rfl, rfl, by rw [hv]; simp [Pump.fallbackEnded]⟩

end

end Sys2Proof.Machine

/-! ## The station's own CLAIM completes (R75, R78, R79, R92, R108, R110) -/

namespace Sys2Proof.Machine

variable {s t u : State} {dt m : Nat}

/-- The station with its claim off the line, the guard set and no withdrawal standing (R75). -/
def State.claimSpent (s : State) : State := s.setGuard.onLine fun u => { u with claimWithdrawal := false }

theorem State.claimSpent_pump (s : State) :
    s.claimSpent.pump = { s.pump with guard := s.after s.general.stagger } := rfl

/-- In WAITING and FALLBACK the claim makes the start (R78). -/
theorem State.claimCompleted_starts (hstate : s.pump.state = .claiming)
    (hphase : s.pump.claimPhase ≠ some .withdrawing) : s.claimCompleted = s.claimSpent.makeStart := by
  unfold State.claimCompleted
  exact if_pos ⟨hstate, hphase⟩

/-- A placed hand claim becomes none (R110). -/
theorem State.claimCompleted_gives (hstate : s.pump.state ≠ .claiming) (hplaced : s.pump.claimPlaced = true) :
    s.claimCompleted = s.claimSpent.onPump fun p => { p with handClaim := some .noClaim } := by
  unfold State.claimCompleted
  exact (if_neg fun h => hstate h.1).trans (if_pos hplaced)

/-- Any other claim is resolved without a start (R79, R92). -/
theorem State.claimCompleted_resolves (hstate : s.pump.state = .claiming → s.pump.claimPhase = some .withdrawing)
    (hplaced : s.pump.claimPlaced = false) : s.claimCompleted = s.claimSpent.claimResolved := by
  unfold State.claimCompleted
  exact (if_neg fun h => h.2 (hstate h.1)).trans (if_neg (Bool.eq_false_iff.mp hplaced))

/-! ### A claim resolved without a start (R79, R92) -/

theorem State.claimResolved_locks (h : s.pump.lockPending = true) : s.claimResolved = s.lock .withoutCommand := if_pos h

theorem State.claimResolved_ready (hpending : s.pump.lockPending = false) (hstate : s.pump.state = .claiming) :
    s.claimResolved = s.movePump fun p => { p with state := .ready } :=
  (if_neg (Bool.eq_false_iff.mp hpending)).trans (if_pos hstate)

theorem State.claimResolved_rests (hpending : s.pump.lockPending = false) (hstate : s.pump.state ≠ .claiming) :
    s.claimResolved = s :=
  (if_neg (Bool.eq_false_iff.mp hpending)).trans (if_neg hstate)

theorem State.claimResolved_line (h : s.pump.claimPlaced = false) :
    ∃ x, s.claimResolved.line = { s.line with status := x } := by
  unfold State.claimResolved
  split
  · exact State.lock_line h
  · split
    · exact State.movePump_line (.inr h)
    · exact ⟨_, rfl⟩

/-! ### What every completion leaves -/

/-- Of a sound pump, the claim that completes makes the start, is the placed hand claim, or is resolved. -/
theorem State.claimCompleted_cases (h : s.pump.Sound) :
    (s.pump.state = .claiming ∧ s.pump.claimPhase ≠ some .withdrawing ∧ s.pump.claimPlaced = false ∧
      s.claimCompleted = s.claimSpent.makeStart) ∨
    (s.pump.state ≠ .claiming ∧ s.pump.claimPlaced = true ∧
      s.claimCompleted = s.claimSpent.onPump fun p => { p with handClaim := some .noClaim }) ∨
    ((s.pump.state = .claiming → s.pump.claimPhase = some .withdrawing) ∧ s.pump.claimPlaced = false ∧
      s.claimCompleted = s.claimSpent.claimResolved) := by
  by_cases hstate : s.pump.state = .claiming
  · have hplaced := h.claimPlaced (by simp [hstate])
    by_cases hphase : s.pump.claimPhase = some .withdrawing
    · exact .inr (.inr ⟨fun _ => hphase, hplaced, State.claimCompleted_resolves (fun _ => hphase) hplaced⟩)
    · exact .inl ⟨hstate, hphase, hplaced, State.claimCompleted_starts hstate hphase⟩
  · cases hplaced : s.pump.claimPlaced
    · exact .inr (.inr ⟨fun e => absurd e hstate, rfl,
        State.claimCompleted_resolves (fun e => absurd e hstate) hplaced⟩)
    · exact .inr (.inl ⟨hstate, rfl, State.claimCompleted_gives hstate hplaced⟩)

theorem State.Around.claimCompleted {ks : List AlarmKind} (ha5 : AlarmKind.a5 ∈ ks) (ha6 : AlarmKind.a6 ∈ ks)
    (hsound : s.pump.Sound) (h : u.Around ks [] s) : ∃ gs, u.Around ks gs s.claimCompleted := by
  have hspent : u.Around ks [] s.claimSpent := h.setGuard.onLine rfl
  rcases State.claimCompleted_cases hsound with ⟨_, _, _, e⟩ | ⟨_, _, e⟩ | ⟨_, _, e⟩ <;> rw [e]
  · exact ⟨_, hspent.makeStart ha5 ha6⟩
  · exact ⟨_, hspent.onPump⟩
  · exact ⟨_, hspent.claimResolved ha5⟩

/-- A completion leaves the claim slot as the attempt's end left it (R29). -/
theorem State.claimCompleted_line (hsound : s.pump.Sound) :
    ∃ x, s.claimCompleted.line = { s.line with status := x, claimWithdrawal := false } := by
  rcases State.claimCompleted_cases hsound with ⟨_, _, hplaced, e⟩ | ⟨_, _, e⟩ | ⟨_, hplaced, e⟩ <;> rw [e]
  · obtain ⟨x, hx⟩ := State.makeStart_line (s := s.claimSpent) hplaced
    exact ⟨x, by rw [hx]; rfl⟩
  · exact ⟨_, rfl⟩
  · obtain ⟨x, hx⟩ := State.claimResolved_line (s := s.claimSpent) hplaced
    exact ⟨x, by rw [hx]; rfl⟩

theorem State.claimCompleted_screen (hsound : s.pump.Sound) : s.claimCompleted.screen = s.screen := by
  rcases State.claimCompleted_cases hsound with ⟨_, _, _, e⟩ | ⟨_, _, e⟩ | ⟨_, _, e⟩ <;> rw [e] <;>
    simp [State.claimSpent]

theorem State.claimCompleted_guard (hsound : s.pump.Sound) :
    s.claimCompleted.pump.guard = s.after s.general.stagger := by
  rcases State.claimCompleted_cases hsound with ⟨_, _, _, e⟩ | ⟨_, _, e⟩ | ⟨_, _, e⟩ <;> rw [e]
  · exact s.claimSpent.makeStart_fields.2.1
  · rfl
  · exact s.claimSpent.claimResolved_fields.2.1

theorem State.claimCompleted_lasting (hsound : s.pump.Sound) : s.claimCompleted.pump.lasting =
    { s.pump.lasting with guard := s.claimCompleted.pump.guard, starts := s.claimCompleted.pump.starts } := by
  have hguard := State.claimCompleted_guard hsound
  rcases State.claimCompleted_cases hsound with ⟨_, _, _, e⟩ | ⟨_, _, e⟩ | ⟨_, _, e⟩ <;> rw [hguard, e]
  · rw [State.makeStart_lasting, State.makeStart_startList]; rfl
  · rfl
  · rw [Pump.starts_of_lasting s.claimSpent.claimResolved_lasting, State.claimResolved_lasting]; rfl

/-! ### The frame's completion -/

theorem exec_frameComplete_claim {f : Frame} (hattempt : s.line.attempt = some ⟨.claim, true⟩)
    (hframe : s.line.claim.frame = some f) :
    exec (.frameComplete dt) s = .next ((s.elapse dt).completeAttempt .claim).claimCompleted.finish := by
  show execFrameComplete dt s = _
  have hslot : (s.line.slot .claim).frame = some f := hframe
  simp only [execFrameComplete, State.elapse_line, hattempt, hslot]
  rfl

/-- A withdrawn claim that completes is spent: READY with no start, or the lockout that waited (R79, R92). -/
theorem State.claimResolved_withdrawn (hstate : s.pump.state = .claiming) :
    s.claimResolved.pump.closed = false ∧ (s.pump.lockPending = false → s.claimResolved.pump.state = .ready) ∧
    (s.pump.lockPending = true → s.claimResolved.pump.state = .locked ∧
      s.claimResolved.pump.lockCause = some .withoutCommand ∧ s.claimResolved.pump.lockPending = false) := by
  cases hpending : s.pump.lockPending
  · rw [State.claimResolved_ready hpending hstate]
    exact ⟨Pump.closed_of_stopped (.inr (by simp)), fun _ => by simp, nofun⟩
  · have hlocks := State.lock_locks (s := s) (c := .withoutCommand) (by simp [hstate])
    rw [State.claimResolved_locks hpending]
    exact ⟨Pump.closed_of_locked hlocks.1, nofun, fun _ => hlocks⟩

/-- A claim that is left behind changes nothing, but for a lockout that waited for it (R92, R108, R111). -/
theorem State.claimResolved_left (hstate : s.pump.state ≠ .claiming) :
    (s.pump.lockPending = false ∨ s.pump.state = .locked → s.claimResolved = s) ∧
    (s.pump.lockPending = true → s.pump.state ≠ .locked → s.claimResolved.pump.state = .locked ∧
      s.claimResolved.pump.lockCause = some .withoutCommand) := by
  refine ⟨fun h => ?_, fun hpending hlocked => ?_⟩
  · cases hpending : s.pump.lockPending
    · exact State.claimResolved_rests hpending hstate
    · rw [State.claimResolved_locks hpending, State.lock_of_locked (h.resolve_left (by simp [hpending]))]
  · obtain ⟨hstate', hcause, _⟩ := State.lock_locks (c := .withoutCommand) hlocked
    rw [State.claimResolved_locks hpending]
    exact ⟨hstate', hcause⟩

section

open Sys2Proof

/-- Settles O19: the claim makes the start in WAITING and FALLBACK, and is spent in every other state. -/
theorem ownClaimCompletes : Obligations.OwnClaimCompletes := by
  intro s dt f hattempt hframe hsound
  obtain ⟨r, hr⟩ : ∃ r, r = { s.elapse dt with line := { s.line with conflictAborts := 0 } } := ⟨_, rfl⟩
  obtain ⟨u, hu⟩ : ∃ u, u = (s.elapse dt).completeAttempt .claim := ⟨_, rfl⟩
  have hupump : u.pump = s.pump := by rw [hu]; rfl
  have husound : u.pump.Sound := by rw [hupump]; exact hsound
  have hru : r.Around [.a5, .a6] [] u := by
    rw [hr, hu]; exact (State.Around.refl _).of_kept rfl rfl rfl rfl rfl rfl
  have hspent : r.Around [.a5, .a6] [] u.claimSpent := hru.setGuard.onLine rfl
  have hrreport : r.report = (s.elapse dt).report := by rw [hr]
  obtain ⟨gs, haround⟩ := State.Around.claimCompleted (by simp) (by simp) husound hru
  obtain ⟨x, hx⟩ := State.claimCompleted_line husound
  have hscreen : u.claimCompleted.finish.screen = r.screen := by
    rw [State.finish_screen, State.claimCompleted_screen husound, hu, hr]; rfl
  have hguard : u.claimCompleted.pump.guard =
      if s.general.stagger = 0 then none else some (s.now + dt + s.general.stagger * 1000) := by
    rw [State.claimCompleted_guard husound, hu]; rfl
  have hlasting := State.claimCompleted_lasting husound
  have hfailures := congrArg Pump.failures hlasting
  have hpump : u.claimSpent.pump = { s.pump with guard := u.claimCompleted.pump.guard } := by
    rw [State.claimSpent_pump, ← State.claimCompleted_guard husound, hupump]
  have hsame := haround.finish.sameBut hscreen
  have hpumpAround := haround.finish.aroundThePump
  have hconflict : u.claimCompleted.finish.line.conflictAborts = 0 := by
    have hline := congrArg LineUnit.conflictAborts haround.finish.line
    rw [hr] at hline
    exact hline
  rw [hr] at hsame hpumpAround
  refine ⟨_, hu ▸ exec_frameComplete_claim hattempt hframe, ?_, hpumpAround, ?_⟩
  · simpa [State.SameBut] using hsame
  rw [State.contactor, State.finish_pump, State.finish_claim, State.finish_claimWithdrawal, hx]
  refine ⟨hlasting.trans (by rw [hupump]), by rw [hu]; rfl, hconflict, rfl, hguard, hfailures.trans (by rw [hupump]; rfl),
    fun hphase => ?starts, fun hwaiting hfallback => ?spent, fun hphase => ?withdrawn, fun hplaced => ?hand,
    fun hstate hplaced => ?left⟩
  case starts =>
    have hstate : u.pump.state = .claiming := by
      rw [hupump]
      exact hphase.elim hsound.claiming hsound.claiming
    have hstarts := State.claimCompleted_starts hstate (by rw [hupump]; rcases hphase with h | h <;> simp [h])
    have hround := hspent.makeStart (by simp) (by simp)
    have hfeedback : u.claimSpent.pump.feedback = s.pump.feedback := by rw [hpump]
    rw [hstarts]
    refine ⟨⟨_, rfl, ?_⟩, fun hno => ?_, fun hyes => ?_⟩
    · rw [State.makeStart_startList, hu]; rfl
    · obtain ⟨hproving, hclosed, hwindow, _⟩ := State.makeStart_proves (hfeedback.trans hno)
      refine ⟨hproving, hclosed, by rw [hwindow, hu]; rfl, fun hinterval => ?_⟩
      rw [hfeedback, hno] at hround
      rw [← hrreport]
      exact hround.finish.accumulated_one (by simpa [hrreport] using hinterval)
    · obtain ⟨hlocked, hcause⟩ := State.makeStart_locks (hfeedback.trans hyes)
      exact ⟨hlocked, hcause, Pump.closed_of_locked hlocked⟩
  case spent =>
    have hnot : u.pump.state = .claiming → u.pump.claimPhase = some .withdrawing := by
      rw [hupump]
      intro hstate
      by_contra hphase
      have hlose := hsound.mayLoseClaim hstate hphase
      simp [Pump.mayLoseClaim, hwaiting, hfallback] at hlose
    have hdone : u.claimCompleted.pump.starts = u.claimSpent.pump.starts ∧
        r.Around [.a5, .a6] [] u.claimCompleted := by
      rcases State.claimCompleted_cases husound with ⟨hstate, hphase, _⟩ | ⟨_, _, e⟩ | ⟨_, _, e⟩
      · exact absurd (hnot hstate) hphase
      · rw [e]; exact ⟨rfl, hspent.onPump⟩
      · rw [e]; exact ⟨Pump.starts_of_lasting (State.claimResolved_lasting _), hspent.claimResolved (by simp)⟩
    exact ⟨hdone.1.trans (by rw [hpump]), by rw [← hrreport]; exact hdone.2.finish.accumulated_nil⟩
  case withdrawn =>
    have hstate : u.pump.state = .claiming := by
      rw [hupump]
      exact hsound.claiming hphase
    have hresolves := State.claimCompleted_resolves (fun _ => by rw [hupump]; exact hphase)
      (husound.claimPlaced (by simp [hstate]))
    have hend := State.claimResolved_withdrawn (s := u.claimSpent) hstate
    rw [hpump] at hend
    rw [hresolves]
    exact hend
  case hand =>
    have hstate : u.pump.state ≠ .claiming := by
      rw [hupump]
      have hin : s.pump.state = .hand := by simpa [hplaced] using hsound.handClaim_isSome
      simp [hin]
    have hgives := State.claimCompleted_gives hstate (by simp [hupump, Pump.claimPlaced, hplaced])
    have hgiven : u.claimCompleted.pump = { u.claimSpent.pump with handClaim := some .noClaim } := by rw [hgives]; rfl
    exact hgiven.trans (by rw [hpump])
  case left =>
    have hresolves := State.claimCompleted_resolves (fun h => absurd (by rwa [hupump] at h) hstate)
      (by simp [hupump, Pump.claimPlaced, hplaced])
    obtain ⟨hrests, hlocks⟩ := State.claimResolved_left (s := u.claimSpent) (by rw [hpump]; exact hstate)
    rw [hpump] at hrests hlocks
    refine ⟨fun h => ?_, fun hpending hlocked => ?_⟩
    · have hsame : u.claimCompleted.pump = u.claimSpent.pump := by rw [hresolves, hrests h]
      exact hsame.trans hpump
    · rw [hresolves]
      exact hlocks hpending hlocked

end

end Sys2Proof.Machine

/-! ## Moves of the pump selector (R107 to R111, R114) -/

namespace Sys2Proof.Machine

variable {s t u : State} {dt m : Nat}

/-! ### The frame of a move -/

namespace State.Around

variable {ks : List AlarmKind} {gs : List (CountId × Nat)}

theorem leaveClaim (h : u.Around ks gs s) : u.Around ks gs s.leaveClaim := by
  unfold State.leaveClaim
  exact ite (fun _ => h.withdrawClaim) fun _ => h

theorem moveToOff (ha5 : AlarmKind.a5 ∈ ks) (h : u.Around ks gs s) : u.Around ks gs s.moveToOff := by
  unfold State.moveToOff
  split
  · exact h
  · exact h
  · exact h
  · exact h.leaveClaim.movePump ha5

theorem moveToAuto (ha5 : AlarmKind.a5 ∈ ks) (h : u.Around ks gs s) : u.Around ks gs s.moveToAuto := by
  unfold State.moveToAuto
  split
  · exact h.movePump ha5
  · exact ite (fun _ => h.enterRunning ha5) fun _ => ite (fun _ => h.movePump ha5) fun _ => h.goStopping ha5
  · exact h

end State.Around

/-- A claim in time leaves its slot; a committed one goes on with its withdrawal standing (R79, R108, R111). -/
theorem State.leaveClaim_line (hlose : s.pump.mayLoseClaim = true) :
    (s.line.committed .claim = false → s.leaveClaim.line.claim = .empty) ∧
    (s.line.committed .claim = true → s.leaveClaim.line.claimWithdrawal = true ∧
      s.leaveClaim.line.claim.frame = s.line.claim.frame) := by
  have hleft : s.leaveClaim = s.withdrawClaim := if_pos hlose
  rw [hleft]
  refine ⟨fun hcommitted => ?_, fun hcommitted => ?_⟩
  · obtain ⟨_, _, hline⟩ := State.withdrawClaim_line_withdrawn hcommitted
    rw [hline]
  · rw [State.withdrawClaim_line_tooLate hcommitted]
    exact ⟨rfl, rfl⟩

/-! ### A move to Off (R108) -/

theorem State.moveToOff_rests (h : s.pump.state = .startup ∨ s.pump.state = .locked ∨ s.pump.state = .out) :
    s.moveToOff = s := by
  rcases h with h | h | h <;> simp [State.moveToOff, h]

theorem State.moveToOff_moves (hstartup : s.pump.state ≠ .startup) (hlocked : s.pump.state ≠ .locked)
    (hout : s.pump.state ≠ .out) : s.moveToOff = s.leaveClaim.movePump (Pump.movedOff s.now) := by
  cases hstate : s.pump.state <;> simp_all [State.moveToOff]

/-- A change that times the feedback from now says what a watch that begins now would (R92, R108). -/
theorem Pump.tidied_strayTimer {new : Pump} {now : Nat} (hwatch : new.watch ≠ .off)
    (htimer : new.strayTimer = if new.feedback then some (now + 2000) else none) (m : Option Nat) (old : Pump) :
    (Pump.tidied now m old new).strayTimer = if new.feedback then some (now + 2000) else none := by
  unfold Pump.tidied
  dsimp only
  rw [if_neg hwatch, htimer]
  split <;> rfl

/-- Feedback present at the move is timed from it, whether the watch goes on or begins (R108; log entry 42). -/
theorem State.movedOff_pump (s : State) : (s.movePump (Pump.movedOff s.now)).pump.state = .out ∧
    (s.movePump (Pump.movedOff s.now)).pump.openedAt = some s.now ∧
    (s.movePump (Pump.movedOff s.now)).pump.strayTimer = if s.pump.feedback then some (s.now + 2000) else none := by
  rw [State.movePump_pump_tidied _ _ (by simp [Pump.movedOff])]
  exact ⟨rfl, rfl, Pump.tidied_strayTimer (by simp [Pump.watch, Pump.movedOff]) rfl _ _⟩

/-- The pump after a move to Off that is acted on (R72, R108). -/
theorem State.moveToOff_pump (hstartup : s.pump.state ≠ .startup) (hlocked : s.pump.state ≠ .locked)
    (hout : s.pump.state ≠ .out) : s.moveToOff.pump.state = .out ∧ s.moveToOff.pump.openedAt = some s.now ∧
    s.moveToOff.pump.strayTimer = if s.pump.feedback then some (s.now + 2000) else none := by
  have hpump : s.leaveClaim.pump = s.pump := by simp
  have hnow : s.leaveClaim.now = s.now := by simp
  have hmoved := s.leaveClaim.movedOff_pump
  rw [hpump, hnow] at hmoved
  rw [State.moveToOff_moves hstartup hlocked hout]
  exact hmoved

theorem State.moveToOff_state (s : State) : (s.pump.state = .startup ∨ s.pump.state = .locked →
      s.moveToOff.pump.state = s.pump.state) ∧
    (s.pump.state ≠ .startup → s.pump.state ≠ .locked → s.moveToOff.pump.state = .out) := by
  refine ⟨fun h => ?_, fun hstartup hlocked => ?_⟩
  · rw [State.moveToOff_rests (h.imp_right .inl)]
  · by_cases hout : s.pump.state = .out
    · rw [State.moveToOff_rests (.inr (.inr hout)), hout]
    · exact (State.moveToOff_pump hstartup hlocked hout).1

theorem State.moveToOff_lasting (s : State) : s.moveToOff.pump.lasting = s.pump.lasting := by
  have hpump : s.leaveClaim.pump = s.pump := by simp
  unfold State.moveToOff
  split
  · rfl
  · rfl
  · rfl
  · rw [State.movePump_lasting, hpump]
    rfl

theorem State.moveToOff_screen (s : State) : s.moveToOff.screen = s.screen := by
  have hmoved := State.movePump_screen (s := s.leaveClaim) (Pump.movedOff s.now) (by simp [Pump.movedOff])
  have hscreen : s.leaveClaim.screen = s.screen := by simp
  unfold State.moveToOff
  split
  · rfl
  · rfl
  · rfl
  · exact hmoved.trans hscreen

/-! ### A move to Auto (R109, R114) -/

theorem State.moveToAuto_out (h : s.pump.state = .out) :
    s.moveToAuto = s.movePump fun p => { p with state := if p.cooling.isSome then .cooling else .ready } := by
  simp [State.moveToAuto, h]

theorem State.moveToAuto_proved (h : s.pump.state = .hand) (hphase : s.pump.handPhase = some .proved) :
    s.moveToAuto = s.enterRunning := by
  simp [State.moveToAuto, h, hphase]

theorem State.moveToAuto_cooling (h : s.pump.state = .hand) (hphase : s.pump.handPhase ≠ some .proved)
    (hcooling : s.pump.cooling.isSome = true) :
    s.moveToAuto = s.movePump fun p => { p with state := .cooling } := by
  simp [State.moveToAuto, h, hphase, hcooling]

theorem State.moveToAuto_stops (h : s.pump.state = .hand) (hphase : s.pump.handPhase ≠ some .proved)
    (hcooling : s.pump.cooling.isSome = false) : s.moveToAuto = s.goStopping := by
  simp [State.moveToAuto, h, hphase, hcooling]

theorem State.moveToAuto_rests (hout : s.pump.state ≠ .out) (hhand : s.pump.state ≠ .hand) : s.moveToAuto = s := by
  cases hstate : s.pump.state <;> simp_all [State.moveToAuto]

/-- Of a pump in Hand that has not proved, the cooling time, or else the feedback, gives the state (R114). -/
theorem State.moveToAuto_unproved (h : s.pump.state = .hand) (hphase : s.pump.handPhase ≠ some .proved) :
    s.moveToAuto.pump.closed = false ∧ s.moveToAuto.pump.state =
      if s.pump.cooling.isSome then .cooling else if s.pump.feedback then .stopping else .ready := by
  cases hcooling : s.pump.cooling.isSome
  · rw [State.moveToAuto_stops h hphase hcooling]
    cases hfeedback : s.pump.feedback
    · exact ⟨s.goStopping_open, State.goStopping_ready hfeedback⟩
    · exact ⟨s.goStopping_open, (State.goStopping_waits hfeedback).1⟩
  · rw [State.moveToAuto_cooling h hphase hcooling]
    exact ⟨by simp [Pump.closed], by simp⟩

theorem State.moveToAuto_lasting (s : State) : s.moveToAuto.pump.lasting = s.pump.lasting := by
  unfold State.moveToAuto
  split
  · exact s.movePump_lasting _
  · split
    · exact s.enterRunning_lasting
    · split
      · exact s.movePump_lasting _
      · exact s.goStopping_lasting
  · rfl

/-- A move to Auto triggers the rake only by an entry into RUNNING (R118). -/
theorem State.moveToAuto_screen (h : s.pump.state ≠ .hand ∨ s.pump.handPhase ≠ some .proved) :
    s.moveToAuto.screen = s.screen := by
  by_cases hhand : s.pump.state = .hand
  · have hphase := h.resolve_left (not_not_intro hhand)
    cases hcooling : s.pump.cooling.isSome
    · rw [State.moveToAuto_stops hhand hphase hcooling]
      simp
    · rw [State.moveToAuto_cooling hhand hphase hcooling]
      exact State.movePump_screen (s := s) (fun p => { p with state := .cooling }) (by simp)
  · by_cases hout : s.pump.state = .out
    · rw [State.moveToAuto_out hout]
      refine State.movePump_screen (s := s)
        (fun p => { p with state := if p.cooling.isSome then .cooling else .ready }) ?_
      dsimp only
      split <;> simp
    · rw [State.moveToAuto_rests hout hhand]

theorem State.moveToAuto_raked (h : s.pump.state = .hand) (hphase : s.pump.handPhase = some .proved) :
    s.RakedWithPump s.moveToAuto := by
  have hraked : s.RakedWithPump (s.movePump s.runningPump) := State.movePump_raked rfl (by simp [h])
  rw [State.moveToAuto_proved h hphase]
  exact hraked.congr s.enterRunning_screen

end Sys2Proof.Machine

/-! ## Moves into Hand (R84 to R86, R110, R111) -/

namespace Sys2Proof.Machine

variable {s t u : State} {dt m : Nat}

/-! ### Availability formed again with no claim in progress (R61, R62) -/

/-- With no claim in progress, forming availability again can only clear the start wish (R61, R62). -/
theorem State.reformAvailability_of_noClaim (h : s.pump.claimPhase = none) :
    s.reformAvailability = s.formAvailable ∨
    s.reformAvailability = s.formAvailable.onStaging fun g => { g with startWish := .notHeld } := by
  unfold State.reformAvailability
  dsimp only
  split
  · exact .inr (State.dropWish_of_noClaim (by simpa [State.formAvailable] using h))
  · exact .inl rfl

theorem State.formAvailable_line (s : State) : ∃ x, s.formAvailable.line = { s.line with status := x } :=
  State.publish_line _

theorem State.reformAvailability_line (h : s.pump.claimPhase = none) :
    ∃ x, s.reformAvailability.line = { s.line with status := x } := by
  obtain ⟨x, hx⟩ := s.formAvailable_line
  rcases State.reformAvailability_of_noClaim h with e | e <;> rw [e]
  · exact ⟨x, hx⟩
  · exact ⟨x, hx⟩

theorem State.reformAvailability_limitHeld (h : s.pump.claimPhase = none) :
    s.reformAvailability.staging.limitHeld = s.staging.limitHeld := by
  have hformed : s.formAvailable.staging.limitHeld = s.staging.limitHeld := by simp [State.formAvailable]
  rcases State.reformAvailability_of_noClaim h with e | e <;> rw [e]
  · exact hformed
  · exact hformed

theorem State.movePump_limitHeld (s : State) (f : Pump → Pump) :
    (s.movePump f).staging.limitHeld = s.staging.limitHeld := by
  simp only [State.movePump, State.pumpSource_keeps, State.handOver_keeps, State.formAvailable,
    State.publish_keeps, State.onStaging_staging, State.limitWish, State.changePump_keeps]
  split <;> rfl

/-! ### A Hand start (R84 to R86, R110) -/

/-- The pump as a Hand start closes its contactor, `s` the station at the moment (R86, R110). -/
def State.handPump (s : State) (p : Pump) : Pump :=
  { p with
    state := .hand, handPhase := some .window, handClaim := some .due, handStart := some s.now
    window := some s.newWindow }

/-- The station with its contactor closed by a Hand start (R110). -/
def State.closedByHand (s : State) : State := s.startListed.movePump s.handPump

/-- The same, with the A6 event of a full list (R85). -/
def State.handStarted (s : State) : State :=
  s.closedByHand.fullListEvent s.ageStarts.startLimited [s.ageStarts.snapshot]

theorem State.handStart_healthy (h : s.supply.healthy = true) : s.handStart = s.handStarted.checkEarlyProof := by
  unfold State.handStart State.handStarted State.closedByHand State.startListed State.handPump
  rw [if_pos h]

/-- With the supply lost the pump halts in HAND (R110). -/
theorem State.handStart_lost (h : s.supply.healthy = false) : s.handStart = s.movePump fun p => { p with
    state := .hand, handPhase := some .halted, handClaim := some .noClaim } := by
  unfold State.handStart
  exact if_neg (Bool.eq_false_iff.mp h)

theorem State.closedByHand_pump (s : State) : s.closedByHand.pump = Pump.tidied s.now (s.after s.general.minOff)
    { s.pump with starts := s.startList } (s.handPump { s.pump with starts := s.startList }) := by
  obtain ⟨hnow, hstartUp, _⟩ := s.startListed_keeps
  rw [State.closedByHand, State.movePump_pump_eq (.inl rfl), State.startListed_pump, hnow,
    State.after_minOff_congr hnow hstartUp]

theorem State.fullListEvent_kept (s : State) (b : Bool) (l : List Snapshot) :
    (s.fullListEvent b l).pump = s.pump ∧ (s.fullListEvent b l).line = s.line ∧
    (s.fullListEvent b l).staging = s.staging := by
  unfold State.fullListEvent
  split <;> simp

theorem State.handStarted_pump (s : State) : s.handStarted.pump = s.closedByHand.pump :=
  (s.closedByHand.fullListEvent_kept _ _).1

/-- A Hand start is in HAND with its window open, its contactor closed and its hand claim due (R86, R110). -/
theorem State.handStarted_hand (s : State) :
    s.handStarted.pump.state = .hand ∧ s.handStarted.pump.handPhase = some .window ∧
    s.handStarted.pump.closed = true ∧ s.handStarted.pump.handClaim = some .due ∧
    s.handStarted.pump.handStart = some s.now ∧ s.handStarted.pump.window = some s.newWindow := by
  rw [State.handStarted_pump, State.closedByHand_pump]
  exact ⟨rfl, rfl, rfl, rfl, rfl, rfl⟩

theorem State.handStarted_lasting (s : State) :
    s.handStarted.pump.lasting = { s.pump.lasting with starts := s.startList } := by
  rw [State.handStarted_pump, State.closedByHand_pump]
  rfl

theorem State.handStarted_feedback (s : State) : s.handStarted.pump.feedback = s.pump.feedback := by
  rw [State.handStarted_pump, State.closedByHand_pump]
  rfl

theorem State.handStart_of_noFeedback (h : s.supply.healthy = true) (hfeedback : s.pump.feedback = false) :
    s.handStart = s.handStarted := by
  simp [State.handStart_healthy h, State.checkEarlyProof, State.handStarted_feedback, hfeedback]

/-- Feedback that is there already is early proof (R86). -/
theorem State.handStart_of_feedback (h : s.supply.healthy = true) (hfeedback : s.pump.feedback = true) :
    s.handStart = s.handStarted.earlyProof := by
  obtain ⟨hstate, hphase, _⟩ := s.handStarted_hand
  simp [State.handStart_healthy h, State.checkEarlyProof, State.handStarted_feedback, hfeedback, Pump.proving, hstate,
    hphase]

theorem State.handStart_lasting (h : s.supply.healthy = true) :
    s.handStart.pump.lasting = { s.pump.lasting with starts := s.startList } := by
  cases hfeedback : s.pump.feedback
  · rw [State.handStart_of_noFeedback h hfeedback, State.handStarted_lasting]
  · rw [State.handStart_of_feedback h hfeedback, State.earlyProof_lasting, State.handStarted_lasting]

theorem State.handStart_locks (h : s.supply.healthy = true) (hfeedback : s.pump.feedback = true) :
    s.handStart.pump.state = .locked ∧ s.handStart.pump.lockCause = some .earlyProof := by
  obtain ⟨hstate, _⟩ := s.handStarted_hand
  rw [State.handStart_of_feedback h hfeedback]
  obtain ⟨hlocked, hcause, _⟩ := State.earlyProof_locks (s := s.handStarted) (by simp [hstate])
  exact ⟨hlocked, hcause⟩

/-- A move to HAND with the supply lost (R110). -/
theorem State.handStart_halts (h : s.supply.healthy = false) :
    s.handStart.pump.state = .hand ∧ s.handStart.pump.handPhase = some .halted ∧ s.handStart.pump.closed = false ∧
    s.handStart.pump.handClaim = some .noClaim ∧ s.handStart.pump.lasting = s.pump.lasting := by
  rw [State.handStart_lost h, State.movePump_pump_eq (.inr (.inr rfl))]
  exact ⟨rfl, rfl, rfl, rfl, rfl⟩

/-- A Hand start ends in HAND or in LOCKED (R86, R110). -/
theorem State.handStart_not_claiming (s : State) : s.handStart.pump.state ≠ .claiming := by
  cases hhealthy : s.supply.healthy
  · simp [(State.handStart_halts hhealthy).1]
  · cases hfeedback : s.pump.feedback
    · simp [State.handStart_of_noFeedback hhealthy hfeedback, s.handStarted_hand.1]
    · simp [(State.handStart_locks hhealthy hfeedback).1]

/-- A Hand start leaves the claim slot: its own hand claim is only due (R110). -/
theorem State.handStart_line (s : State) : ∃ x, s.handStart.line = { s.line with status := x } := by
  cases hhealthy : s.supply.healthy
  · rw [State.handStart_lost hhealthy]
    exact State.movePump_line (.inr rfl)
  · obtain ⟨x, hx⟩ := s.startListed_line
    obtain ⟨y, hy⟩ := State.movePump_line (s := s.startListed) (f := s.handPump) (.inl rfl)
    have hstarted : s.handStarted.line = { s.line with status := y } := by
      rw [State.handStarted, (s.closedByHand.fullListEvent_kept _ _).2.1, State.closedByHand, hy, hx]
    cases hfeedback : s.pump.feedback
    · exact ⟨y, by rw [State.handStart_of_noFeedback hhealthy hfeedback, hstarted]⟩
    · obtain ⟨_, _, _, hclaim, _⟩ := s.handStarted_hand
      obtain ⟨z, hz⟩ := State.earlyProof_line (s := s.handStarted) (by simp [Pump.claimPlaced, hclaim])
      exact ⟨z, by rw [State.handStart_of_feedback hhealthy hfeedback, hz, hstarted]⟩

namespace State.Around

variable {ks : List AlarmKind} {gs : List (CountId × Nat)}

theorem handStarted (ha5 : AlarmKind.a5 ∈ ks) (ha6 : AlarmKind.a6 ∈ ks) (h : u.Around ks gs s) :
    u.Around ks (gs ++ [(.starts, 1)]) s.handStarted := by
  unfold State.handStarted State.closedByHand State.startListed
  exact ((h.ageStarts ha6).addStart.count.movePump ha5).fullListEvent ha6

/-- What a Hand start counts: the start, and the failed start of early proof (R86, R169). -/
theorem handStart (ha5 : AlarmKind.a5 ∈ ks) (ha6 : AlarmKind.a6 ∈ ks) (hhealthy : s.supply.healthy = true)
    (h : u.Around ks gs s) :
    u.Around ks (gs ++ if s.pump.feedback then [(.starts, 1), (.failedStarts, 1)] else [(.starts, 1)]) s.handStart := by
  cases hfeedback : s.pump.feedback
  · rw [State.handStart_of_noFeedback hhealthy hfeedback]
    exact h.handStarted ha5 ha6
  · have hearly := (h.handStarted ha5 ha6).earlyProof ha5
    rw [State.handStart_of_feedback hhealthy hfeedback]
    simpa using hearly

theorem handStart_counts (ha5 : AlarmKind.a5 ∈ ks) (ha6 : AlarmKind.a6 ∈ ks) (h : u.Around ks gs s) :
    ∃ hs, u.Around ks hs s.handStart := by
  cases hhealthy : s.supply.healthy
  · rw [State.handStart_lost hhealthy]
    exact ⟨gs, h.movePump ha5⟩
  · exact ⟨_, h.handStart ha5 ha6 hhealthy⟩

end State.Around

/-! ### The A6 event of a full start list (R64, R84, R85) -/

/-- A list that loses an entry by age clears the limit-held indication and with it A6 (R64, R84). -/
theorem State.ageStarts_clears (hended : s.ended) (h : (s.pump.aged s.startUp.runClock).starts ≠ s.pump.starts) :
    s.ageStarts.staging.limitHeld = false ∧ (s.ageStarts.alarm .a6).abnormal = false ∧
    ((s.alarm .a6).abnormal = false → s.ageStarts.alarm .a6 = s.alarm .a6) := by
  obtain ⟨v, hv⟩ : ∃ v, v = ((s.onPump (Pump.aged s.startUp.runClock)).onStaging fun g =>
    { g with limitHeld := false }).formAvailable := ⟨_, rfl⟩
  have haged : s.ageStarts = v.handOver [] .a6 := by
    rw [hv]
    unfold State.ageStarts
    exact if_neg h
  have hheld : v.staging.limitHeld = false := by simp [hv, State.formAvailable]
  have hvended : v.ended := State.ended_of_kept hended (by simp [hv, State.formAvailable])
  have hvalarm : v.alarm .a6 = s.alarm .a6 := State.alarm_congr (by simp [hv, State.formAvailable]) _
  have hturns : v.handOver [] .a6 = v.turnNormal .a6 := if_neg (by simp [State.condition, hheld])
  rw [haged]
  refine ⟨by simpa using hheld, (State.handOver_abnormal hvended [] .a6).trans hheld, fun hnormal => ?_⟩
  rw [hturns, ← hvalarm, State.turnNormal, if_pos (.inr (by simp [hvalarm, hnormal]))]

/-- A list that loses none is left, with the indication and A6 (R64; log entry 21). -/
theorem State.ageStarts_rests (h : (s.pump.aged s.startUp.runClock).starts = s.pump.starts) : s.ageStarts = s :=
  if_pos h

theorem State.closedByHand_a6 (s : State) : s.closedByHand.alarm .a6 = s.ageStarts.alarm .a6 ∧
    s.closedByHand.staging.limitHeld = s.ageStarts.staging.limitHeld := by
  have haround : s.startListed.Around [.a5] [] s.closedByHand := (State.Around.refl _).movePump (by simp)
  refine ⟨(haround.alarms .a6 (by decide)).trans (State.alarm_congr (by simp [State.startListed]) _), ?_⟩
  rw [State.closedByHand, State.movePump_limitHeld]
  simp [State.startListed]

theorem State.ageStarts_startLimited (s : State) : s.ageStarts.startLimited =
    decide (s.general.startsPerHour ≤ (s.pump.aged s.startUp.runClock).starts.length) := by
  rw [State.startLimited, State.general_congr (s := s) (by simp), State.ageStarts_pump_aged]

/-- The event is handed on a full list unless the indication stands (R85). -/
theorem State.handStarted_eq (s : State) : s.handStarted =
    if s.general.startsPerHour ≤ (s.pump.aged s.startUp.runClock).starts.length ∧ s.ageStarts.staging.limitHeld = false
    then s.closedByHand.alarmEvent [s.ageStarts.snapshot] .a6 else s.closedByHand := by
  obtain ⟨_, hheld⟩ := s.closedByHand_a6
  rw [State.handStarted, State.fullListEvent, hheld, State.ageStarts_startLimited]
  simp

/-- A6 after a Hand start (R64, R84, R85, R156, R157, R159; log entry 21). -/
theorem State.handStarted_a6 (hended : s.ended) :
    (s.general.startsPerHour ≤ (s.pump.aged s.startUp.runClock).starts.length →
      s.staging.limitHeld = false ∨ (s.pump.aged s.startUp.runClock).starts ≠ s.pump.starts →
      (s.handStarted.alarm .a6).abnormal = false ∧
      ((s.alarm .a6).abnormal = false → (s.handStarted.alarm .a6).normalSince = some s.now ∧
        (s.handStarted.alarm .a6).accepted = false ∧
        ((s.alarmSetting .a6).report = true → (s.alarm .a6).armed = true →
          (s.handStarted.alarm .a6).raise.isSome = true))) ∧
    ((s.pump.aged s.startUp.runClock).starts ≠ s.pump.starts → (s.handStarted.alarm .a6).abnormal = false ∧
      s.handStarted.staging.limitHeld = false) ∧
    ((s.pump.aged s.startUp.runClock).starts = s.pump.starts →
      (s.pump.aged s.startUp.runClock).starts.length < s.general.startsPerHour ∨ s.staging.limitHeld = true →
      s.handStarted.alarm .a6 = s.alarm .a6) := by
  obtain ⟨halarm, hheld⟩ := s.closedByHand_a6
  have hstartUp : s.closedByHand.startUp = s.startUp := by simp [State.closedByHand, State.startListed]
  have hnow : s.closedByHand.now = s.now := by simp [State.closedByHand, State.startListed]
  have hcended : s.closedByHand.ended := State.ended_of_kept hended hstartUp
  refine ⟨fun hfull hfree => ?event, fun hlost => ?lost, fun hsame hrests => ?rests⟩
  case event =>
    have hclear : s.ageStarts.staging.limitHeld = false ∧
        ((s.alarm .a6).abnormal = false → s.ageStarts.alarm .a6 = s.alarm .a6) := by
      by_cases hsame : (s.pump.aged s.startUp.runClock).starts = s.pump.starts
      · rw [State.ageStarts_rests hsame]
        exact ⟨hfree.resolve_right (not_not_intro hsame), fun _ => rfl⟩
      · obtain ⟨hcleared, _, hkept⟩ := State.ageStarts_clears hended hsame
        exact ⟨hcleared, hkept⟩
    rw [State.handStarted_eq, if_pos ⟨hfull, hclear.1⟩]
    refine ⟨State.alarmEvent_abnormal hcended _, fun hnormal => ?_⟩
    have hbefore : s.closedByHand.alarm .a6 = s.alarm .a6 := halarm.trans (hclear.2 hnormal)
    obtain ⟨haccepted, hsince, hraise⟩ :=
      State.alarmEvent_record hcended (by rwa [hbefore]) [s.ageStarts.snapshot] (k := .a6)
    rw [State.alarmSetting_congr hstartUp, hbefore] at hraise
    exact ⟨hsince.trans (by rw [hnow]), haccepted, hraise⟩
  case lost =>
    obtain ⟨hcleared, hnormal, _⟩ := State.ageStarts_clears hended hlost
    refine ⟨?_, by rw [State.handStarted, (s.closedByHand.fullListEvent_kept _ _).2.2, hheld, hcleared]⟩
    rw [State.handStarted_eq]
    split
    · exact State.alarmEvent_abnormal hcended _
    · rw [halarm, hnormal]
  case rests =>
    have haged := State.ageStarts_rests hsame
    rw [State.handStarted_eq, if_neg, halarm, haged]
    rintro ⟨hfull, hfree⟩
    rw [haged] at hfree
    rcases hrests with h | h
    · omega
    · simp [hfree] at h

/-- Early proof leaves A6 and the limit-held indication (R64, R86). -/
theorem State.handStart_a6 (h : s.supply.healthy = true) : s.handStart.alarm .a6 = s.handStarted.alarm .a6 ∧
    s.handStart.staging.limitHeld = s.handStarted.staging.limitHeld := by
  obtain ⟨hstate, _⟩ := s.handStarted_hand
  cases hfeedback : s.pump.feedback
  · rw [State.handStart_of_noFeedback h hfeedback]
    exact ⟨rfl, rfl⟩
  · obtain ⟨w, hw⟩ : ∃ w, w = s.handStarted := ⟨_, rfl⟩
    have haround : w.Around [.a5] _ w.earlyProof := (State.Around.refl w).earlyProof (by simp)
    have hlocked : (w.count .failedStarts 1).pump.state ≠ .locked := by simp [hw, hstate]
    rw [State.handStart_of_feedback h hfeedback, ← hw]
    refine ⟨haround.alarms .a6 (by decide), ?_⟩
    rw [State.earlyProof, State.lock_eq hlocked, State.movePump_limitHeld]
    rfl

/-- A list of at most K entries stays so with the start of now (R84). -/
theorem State.startList_length (hone : 1 ≤ s.general.startsPerHour)
    (h : s.pump.starts.length ≤ s.general.startsPerHour) : s.startList.length ≤ s.general.startsPerHour := by
  have haged : (s.pump.aged s.startUp.runClock).starts.length ≤ s.pump.starts.length := List.length_filter_le _ _
  unfold State.startList
  split
  · simp only [List.length_append, List.length_tail, List.length_singleton]
    omega
  · simp only [List.length_append, List.length_singleton]
    omega

/-- What a Hand start counts of starts, early proof or not (R110, R169). -/
theorem State.handStart_accumulated {ks : List AlarmKind} (h : u.Around ks
    ([] ++ if s.pump.feedback then [(.starts, 1), (.failedStarts, 1)] else [(.starts, 1)]) t)
    (hinterval : u.report.interval.isSome = true) :
    t.report.accumulated.starts = u.report.accumulated.starts.add 255 1 := by
  rw [h.accumulated_all hinterval]
  split <;> rfl

end Sys2Proof.Machine

/-! ## The selector's moves, as a whole (R72, R107 to R111, R114) -/

namespace Sys2Proof.Machine

variable {s t u : State} {dt m : Nat}

/-! ### A move into Hand (R111) -/

theorem State.leaveClaim_of_noClaim (h : s.pump.claimPhase = none) : s.leaveClaim = s := by
  simp [State.leaveClaim, Pump.mayLoseClaim_of_none h]

/-- From OUT, READY, COOLING and CLAIMING a move into Hand is a Hand start, or halts with the supply lost (R110, R111). -/
theorem State.moveToHand_starts (hsound : s.pump.Sound) (h : s.pump.state = .out ∨ s.pump.state = .ready ∨
    s.pump.state = .cooling ∨ s.pump.state = .claiming) : s.moveToHand = s.leaveClaim.handStart := by
  have hnone (hstate : s.pump.state ≠ .claiming) : s.leaveClaim = s :=
    State.leaveClaim_of_noClaim (hsound.claimPhase_none hstate)
  rcases h with h | h | h | h
  · rw [hnone (by simp [h])]; simp [State.moveToHand, h]
  · rw [hnone (by simp [h])]; simp [State.moveToHand, h]
  · rw [hnone (by simp [h])]; simp [State.moveToHand, h]
  · simp [State.moveToHand, h]

theorem State.moveToHand_rests (h : s.pump.state = .startup ∨ s.pump.state = .locked ∨ s.pump.state = .hand) :
    s.moveToHand = s := by
  rcases h with h | h | h <;> simp [State.moveToHand, h]

/-- From PROVING the window goes on (R111). -/
theorem State.moveToHand_proving (h : s.pump.state = .proving) :
    s.moveToHand.pump.state = .hand ∧ s.moveToHand.pump.handPhase = some .window ∧ s.moveToHand.pump.closed = true ∧
    s.moveToHand.pump.window = s.pump.window ∧ s.moveToHand.pump.handClaim = some .noClaim := by
  have hmoved : s.moveToHand = s.movePump fun p => { p with
      state := .hand, handPhase := some .window, handClaim := some .noClaim } := by simp [State.moveToHand, h]
  rw [hmoved, State.movePump_pump_eq (.inl rfl)]
  exact ⟨rfl, rfl, rfl, rfl, rfl⟩

/-- From RUNNING and STOPPING the pump is proved, and RUNNING's times end (R111). -/
theorem State.moveToHand_proved (h : s.pump.state = .running ∨ s.pump.state = .stopping) :
    s.moveToHand.pump.state = .hand ∧ s.moveToHand.pump.handPhase = some .proved ∧ s.moveToHand.pump.closed = true ∧
    s.moveToHand.pump.handClaim = some .noClaim ∧ s.moveToHand.pump.minRun = none ∧
    s.moveToHand.pump.stopDelay = none := by
  rcases h with h | h
  · have hmoved : s.moveToHand = s.movePump fun p => { p with
        state := .hand, handPhase := some .proved, handClaim := some .noClaim, provingRun := none } := by
      simp [State.moveToHand, h]
    rw [hmoved, State.movePump_pump_eq (.inl rfl)]
    exact ⟨rfl, rfl, rfl, rfl, rfl, rfl⟩
  · have hmoved : s.moveToHand = s.movePump fun p => { p with
        state := .hand, handPhase := some .proved, handClaim := some .noClaim } := by simp [State.moveToHand, h]
    rw [hmoved, State.movePump_pump_eq (.inl rfl)]
    exact ⟨rfl, rfl, rfl, rfl, rfl, rfl⟩

theorem State.handStart_lasting_starts (s : State) : s.handStart.pump.lasting =
    { s.pump.lasting with starts := s.handStart.pump.starts } := by
  cases hhealthy : s.supply.healthy
  · obtain ⟨_, _, _, _, hlasting⟩ := State.handStart_halts hhealthy
    rw [hlasting, Pump.starts_of_lasting hlasting]
    rfl
  · have hlasting := State.handStart_lasting hhealthy
    rw [hlasting, Pump.starts_of_lasting_with hlasting]

/-- Only a Hand start changes the lasting items, and of them the start list alone (R111). -/
theorem State.moveToHand_lasting (s : State) : s.moveToHand.pump.lasting =
    { s.pump.lasting with starts := s.moveToHand.pump.starts } := by
  have hkept (f : Pump → Pump) (hf : (f s.pump).lasting = s.pump.lasting) : (s.movePump f).pump.lasting =
      { s.pump.lasting with starts := (s.movePump f).pump.starts } := by
    have hlasting := (s.movePump_lasting f).trans hf
    rw [hlasting, Pump.starts_of_lasting hlasting]
    rfl
  have hpump : s.leaveClaim.pump = s.pump := by simp
  have hclaim := s.leaveClaim.handStart_lasting_starts
  rw [hpump] at hclaim
  unfold State.moveToHand
  split
  · exact s.handStart_lasting_starts
  · exact s.handStart_lasting_starts
  · exact s.handStart_lasting_starts
  · exact hclaim
  · exact hkept _ rfl
  · exact hkept _ rfl
  · exact hkept _ rfl
  · rfl

/-- From the states without a Hand start the start list is left (R111). -/
theorem State.moveToHand_starts_kept (h : s.pump.state = .proving ∨ s.pump.state = .running ∨ s.pump.state = .stopping) :
    s.moveToHand.pump.starts = s.pump.starts := by
  rcases h with h | h | h <;> simp [State.moveToHand, h]

/-- A move into Hand gives no rake trigger (R118). -/
theorem State.moveToHand_screen (s : State) : s.moveToHand.screen = s.screen := by
  have hkept (f : Pump → Pump) (hf : (f s.pump).state = .hand) : (s.movePump f).screen = s.screen :=
    State.movePump_screen (s := s) f (by simp [hf])
  unfold State.moveToHand
  split
  · simp
  · simp
  · simp
  · simp
  · exact hkept _ rfl
  · exact hkept _ rfl
  · exact hkept _ rfl
  · rfl

theorem State.Around.moveToHand {ks : List AlarmKind} {gs : List (CountId × Nat)} (ha5 : AlarmKind.a5 ∈ ks)
    (ha6 : AlarmKind.a6 ∈ ks) (h : u.Around ks gs s) : ∃ hs, u.Around ks hs s.moveToHand := by
  unfold State.moveToHand
  split
  · exact h.handStart_counts ha5 ha6
  · exact h.handStart_counts ha5 ha6
  · exact h.handStart_counts ha5 ha6
  · exact h.leaveClaim.handStart_counts ha5 ha6
  · exact ⟨gs, h.movePump ha5⟩
  · exact ⟨gs, h.movePump ha5⟩
  · exact ⟨gs, h.movePump ha5⟩
  · exact ⟨gs, h⟩

/-! ### What a move to Off leaves -/

/-- A move to Off leaves the contactor open in every state (R72, R108). -/
theorem State.moveToOff_open (s : State) : s.moveToOff.pump.closed = false := by
  obtain ⟨hrests, hout⟩ := s.moveToOff_state
  by_cases h : s.pump.state = .startup ∨ s.pump.state = .locked
  · have hstate := hrests h
    rcases h with h | h <;> simp [Pump.closed, hstate, h]
  · push Not at h
    simp [Pump.closed, hout h.1 h.2]

theorem State.moveToOff_not_claiming (s : State) : s.moveToOff.pump.state ≠ .claiming := by
  obtain ⟨hrests, hout⟩ := s.moveToOff_state
  by_cases h : s.pump.state = .startup ∨ s.pump.state = .locked
  · rw [hrests h]
    rcases h with h | h <;> simp [h]
  · push Not at h
    simp [hout h.1 h.2]

/-- A move to Off takes a claim as it can be withdrawn (R79, R108). -/
theorem State.moveToOff_claim (hsound : s.pump.Sound) (hstate : s.pump.state = .claiming)
    (hlose : s.pump.mayLoseClaim = true) :
    (s.line.committed .claim = false → s.moveToOff.line.claim = .empty) ∧
    (s.line.committed .claim = true → s.moveToOff.line.claimWithdrawal = true ∧
      s.moveToOff.line.claim.frame = s.line.claim.frame) := by
  have hpump : s.leaveClaim.pump = s.pump := by simp
  have hplaced : (Pump.movedOff s.now s.leaveClaim.pump).claimPlaced = false := by
    rw [hpump]; exact hsound.claimPlaced (by simp [hstate])
  obtain ⟨x, hx⟩ := State.movePump_line (s := s.leaveClaim) (.inr hplaced)
  have hleft := State.leaveClaim_line hlose
  rw [State.moveToOff_moves (by simp [hstate]) (by simp [hstate]) (by simp [hstate]), hx]
  exact hleft

/-! ### Every move -/

theorem State.Around.moveSelector {ks : List AlarmKind} {gs : List (CountId × Nat)} (ha5 : AlarmKind.a5 ∈ ks)
    (ha6 : AlarmKind.a6 ∈ ks) (x : PumpPosition) (h : u.Around ks gs s) : ∃ hs, u.Around ks hs (s.moveSelector x) := by
  cases x with
  | off => exact ⟨gs, h.moveToOff ha5⟩
  | hand => exact h.moveToHand ha5 ha6
  | auto => exact ⟨gs, h.moveToAuto ha5⟩

theorem State.moveSelector_lasting (s : State) (x : PumpPosition) : (s.moveSelector x).pump.lasting =
    { s.pump.lasting with starts := (s.moveSelector x).pump.starts } := by
  have hkept {t : State} (hlasting : t.pump.lasting = s.pump.lasting) :
      t.pump.lasting = { s.pump.lasting with starts := t.pump.starts } := by
    rw [hlasting, Pump.starts_of_lasting hlasting]
    rfl
  cases x with
  | off => exact hkept s.moveToOff_lasting
  | hand => exact s.moveToHand_lasting
  | auto => exact hkept s.moveToAuto_lasting

/-- Before the end of start-up no position acts on the pump (R107). -/
theorem State.moveSelector_startup (h : s.pump.state = .startup) (x : PumpPosition) : s.moveSelector x = s := by
  cases x with
  | off => exact State.moveToOff_rests (.inl h)
  | hand => exact State.moveToHand_rests (.inl h)
  | auto => exact State.moveToAuto_rests (by simp [h]) (by simp [h])

/-- A move that does not end in CLAIMING leaves no claim phase (R76). -/
theorem State.moveSelector_claimPhase (hsound : s.pump.Sound) (hended : s.ended) {x : PumpPosition}
    (h : (s.moveSelector x).pump.state ≠ .claiming) : (s.moveSelector x).pump.claimPhase = none := by
  have hmoved : (s.moveSelector x).pump.Sound := by
    by_cases hstate : s.pump.state = .startup
    · rw [State.moveSelector_startup hstate]
      exact hsound
    · have hpump : s.PumpSound := ⟨hsound, iff_of_false hstate (not_not_intro hended)⟩
      exact hpump.moveSelector.1
  exact hmoved.claimPhase_none h

/-! ### PUMP_SELECTOR_MOVE -/

/-- The pump with the selector in a position. -/
def Pump.withSelector (x : PumpPosition) (p : Pump) : Pump := { p with selector := x }

theorem selectorPosition_eq (hand auto : Bool) :
    selectorPosition ⟨hand, auto⟩ = if hand = auto then .off else if hand then .hand else .auto := by
  cases hand <;> cases auto <;> rfl

theorem exec_pumpSelectorMove_same {inputs : SelectorInputs} (h : selectorPosition inputs = s.pump.selector) :
    exec (.pumpSelectorMove dt inputs) s = .next (s.elapse dt) := by
  show execPumpSelectorMove dt inputs s = _
  exact congrArg _ (if_pos h.symm)

theorem exec_pumpSelectorMove_acts {inputs : SelectorInputs} {x : PumpPosition} (hx : selectorPosition inputs = x)
    (h : x ≠ s.pump.selector) (hended : s.ended) (hfitted : s.general.pumpFitted = true) :
    exec (.pumpSelectorMove dt inputs) s =
      .next (((s.elapse dt).onPump (Pump.withSelector x)).moveSelector x).reformAvailability.finish := by
  subst hx
  show execPumpSelectorMove dt inputs s = _
  exact congrArg _ ((if_neg h.symm).trans (if_pos ⟨hended, hfitted⟩))

theorem exec_pumpSelectorMove_notes {inputs : SelectorInputs} {x : PumpPosition} (hx : selectorPosition inputs = x)
    (h : x ≠ s.pump.selector) (hidle : ¬ s.ended ∨ s.general.pumpFitted = false) :
    exec (.pumpSelectorMove dt inputs) s =
      .next ((s.elapse dt).onPump (Pump.withSelector x)).publish.finish := by
  subst hx
  have hnot : ¬ (s.ended ∧ s.general.pumpFitted = true) := by
    rcases hidle with e | e
    · exact fun g => e g.1
    · simp [e]
  show execPumpSelectorMove dt inputs s = _
  exact congrArg _ ((if_neg h.symm).trans (if_neg hnot))

/-- What follows a move with no claim in progress leaves the pump, the claim slot, the screen and A6 (R46, R61). -/
theorem State.settled_kept (h : s.pump.claimPhase = none) : s.reformAvailability.finish.pump = s.pump ∧
    s.reformAvailability.finish.line.claim = s.line.claim ∧
    s.reformAvailability.finish.line.claimWithdrawal = s.line.claimWithdrawal ∧
    s.reformAvailability.finish.alarm .a6 = s.alarm .a6 ∧
    s.reformAvailability.finish.staging.limitHeld = s.staging.limitHeld := by
  obtain ⟨x, hx⟩ := State.reformAvailability_line h
  have haround : s.Around [.a5] [] s.reformAvailability := (State.Around.refl s).reformAvailability (by simp)
  rw [State.finish_pump, State.finish_claim, State.finish_claimWithdrawal, State.finish_alarm, hx]
  refine ⟨State.reformAvailability_pump h, rfl, rfl, haround.alarms .a6 (by decide), ?_⟩
  rw [← State.reformAvailability_limitHeld h]
  simp

end Sys2Proof.Machine

/-! ## The moves to Off and to Auto (R72, R107 to R109, R114, R118) -/

namespace Sys2Proof.Machine

section

open Sys2Proof

/-- Settles O41: a position that is not acted on is noted alone, and one that is acted on changes the pump as the state it
stands in gives. -/
theorem selectorMovesToOffAndAuto : Obligations.SelectorMovesToOffAndAuto := by
  intro s dt hand auto position hsound hposition
  have hselected : selectorPosition ⟨hand, auto⟩ = position := (selectorPosition_eq hand auto).trans hposition.symm
  refine ⟨fun hsame => exec_pumpSelectorMove_same (hselected.trans hsame), fun hmoved => ?_⟩
  obtain ⟨u, hu⟩ : ∃ u, u = (s.elapse dt).onPump (Pump.withSelector position) := ⟨_, rfl⟩
  have hupump : u.pump = s.pump.withSelector position := by rw [hu]; rfl
  have hunow : u.now = s.now + dt := by rw [hu]; rfl
  have husound : u.pump.Sound := by rw [hupump]; exact hsound
  have huscreen : u.screen = (s.elapse dt).screen := by rw [hu]; rfl
  have huline : u.line = s.line := by rw [hu]; rfl
  have hustart (ks : List AlarmKind) : (s.elapse dt).Around ks [] u := by rw [hu]; exact (State.Around.refl _).onPump
  by_cases hacts : s.ended ∧ s.general.pumpFitted = true
  case neg =>
    have hidle : ¬ s.ended ∨ s.general.pumpFitted = false :=
      (not_and_or.mp hacts).imp_right Bool.eq_false_of_not_eq_true
    have haround := (hustart [.a5, .a6]).publish.finish
    have hexec := exec_pumpSelectorMove_notes (dt := dt) hselected hmoved hidle
    rw [← hu] at hexec
    have hpump : u.publish.finish.pump = s.pump.withSelector position := by simp [hupump]
    have hscreen : u.publish.finish.screen = (s.elapse dt).screen := by simp [huscreen]
    have halarms : u.publish.finish.alarms = s.alarms := by simp [hu]
    refine ⟨_, hexec, haround.sameBut_screen, haround.aroundThePump, ?_⟩
    rw [hpump]
    exact ⟨rfl, fun _ => ⟨rfl, State.alarm_congr halarms _⟩, fun _ => ⟨rfl, by simp [hu], hscreen, halarms⟩,
      fun hended hfitted => absurd ⟨hended, hfitted⟩ hacts, fun hended hfitted => absurd ⟨hended, hfitted⟩ hacts⟩
  case pos =>
    obtain ⟨hended, hfitted⟩ := hacts
    have huended : u.ended := by rw [hu]; exact hended
    have hexec := exec_pumpSelectorMove_acts (dt := dt) hselected hmoved hended hfitted
    rw [← hu] at hexec
    obtain ⟨v, hv⟩ : ∃ v, v = u.moveSelector position := ⟨_, rfl⟩
    rw [← hv] at hexec
    obtain ⟨gs, haround⟩ := (hustart [.a5, .a6]).moveSelector (by simp) (by simp) position
    rw [← hv] at haround
    have hround := (haround.reformAvailability (by simp)).finish
    have hscreen : v.reformAvailability.finish.screen = v.screen := by simp
    have hsettled (h : v.pump.state ≠ .claiming) := State.settled_kept (s := v)
      (by rw [hv] at h ⊢; exact State.moveSelector_claimPhase husound huended h)
    have hlasting : v.reformAvailability.finish.pump.lasting = v.pump.lasting := by
      rw [State.finish_pump, State.reformAvailability_lasting]
    have hstarts := Pump.starts_of_lasting hlasting
    refine ⟨_, hexec, hround.sameBut_screen, hround.aroundThePump, ?_, fun hnot => ?_,
      fun hidle => absurd hidle (by simp [hended, hfitted]), fun _ _ hoff => ?off, fun _ _ hauto => ?auto⟩
    · rw [hlasting, hstarts, hv, State.moveSelector_lasting, hupump]
      rfl
    · have hkept : v.pump.lasting = u.pump.lasting ∧ (s.elapse dt).Around [.a5] [] v := by
        rw [hv]
        cases position with
        | off => exact ⟨u.moveToOff_lasting, (hustart _).moveToOff (by simp)⟩
        | hand => exact absurd rfl hnot
        | auto => exact ⟨u.moveToAuto_lasting, (hustart _).moveToAuto (by simp)⟩
      refine ⟨hstarts.trans ((Pump.starts_of_lasting hkept.1).trans (by rw [hupump]; rfl)), ?_⟩
      exact (hkept.2.reformAvailability (by simp)).finish.alarms .a6 (by decide)
    case off =>
      have hoffed : v = u.moveToOff := by rw [hv, hoff]; rfl
      have hustate : u.pump.state = s.pump.state := by rw [hupump]; rfl
      obtain ⟨hrests, hout⟩ := u.moveToOff_state
      rw [hustate] at hrests hout
      obtain ⟨hpump, hclaim, hwithdrawal, _⟩ := hsettled (by rw [hoffed]; exact u.moveToOff_not_claiming)
      rw [State.contactor, hpump, hclaim, hwithdrawal, hscreen, hoffed]
      refine ⟨u.moveToOff_open, u.moveToOff_screen.trans huscreen, hrests, hout, fun hstartup hlocked hnotOut => ?_,
        fun hstate hlose => ?_, fun hstate hlose => ?_⟩
      · obtain ⟨_, hopened, hstray⟩ := State.moveToOff_pump (s := u) (by rwa [hustate]) (by rwa [hustate])
          (by rwa [hustate])
        rw [hopened, hstray, hunow, hupump]
        exact ⟨rfl, rfl⟩
      · rw [← huline]
        exact (State.moveToOff_claim husound (hustate.trans hstate) (by rw [hupump]; exact hlose)).1
      · rw [← huline]
        exact (State.moveToOff_claim husound (hustate.trans hstate) (by rw [hupump]; exact hlose)).2
    case auto =>
      have hautoed : v = u.moveToAuto := by rw [hv, hauto]; rfl
      have hustate : u.pump.state = s.pump.state := by rw [hupump]; rfl
      have huphase : u.pump.handPhase = s.pump.handPhase := by rw [hupump]; rfl
      have hpumpOf (h : v.pump.state ≠ .claiming) := (hsettled h).1
      refine ⟨fun hstate hphase => ?raked, fun h => ?screen, fun hstate => ?out, fun hstate => ?locked,
        fun hstate hphase hfloat hwish => ?takenOver, fun hstate hphase => ?unproved⟩
      case raked =>
        have hraked := State.moveToAuto_raked (hustate.trans hstate) (huphase.trans hphase)
        have hmoved : (s.elapse dt).RakedWithPump u.moveToAuto := by
          rw [hu] at hraked ⊢
          exact hraked
        exact hmoved.congr (by rw [hscreen, hautoed])
      case screen =>
        rw [hscreen, hautoed, State.moveToAuto_screen (by rwa [hustate, huphase]), huscreen]
      case out =>
        have hstate' : v.pump.state = if s.pump.cooling.isSome then .cooling else .ready := by
          rw [hautoed, State.moveToAuto_out (hustate.trans hstate)]
          simp [hupump, Pump.withSelector]
        have hnot : v.pump.state ≠ .claiming := by rw [hstate']; split <;> simp
        rw [hpumpOf hnot, hstate']
      case locked =>
        have hvu : v = u := by
          rw [hautoed, State.moveToAuto_rests] <;> simp [hustate, hstate]
        rw [hpumpOf (by simp [hvu, hustate, hstate]), hvu, hupump, hauto]
        rfl
      case takenOver =>
        have hstays := State.enterRunning_stays (s := u) (by rw [hu]; exact hwish) (by rw [hu]; exact hfloat)
        rw [← State.moveToAuto_proved (hustate.trans hstate) (huphase.trans hphase), ← hautoed, hunow] at hstays
        obtain ⟨hrunning, hclosed, _, hrun, hminRun, _⟩ := hstays
        rw [State.contactor, hpumpOf (by simp [hrunning])]
        exact ⟨hrunning, hclosed, hrun, hminRun.trans (by rw [hu]; rfl)⟩
      case unproved =>
        have hends := State.moveToAuto_unproved (hustate.trans hstate) (by rwa [huphase])
        rw [← hautoed] at hends
        obtain ⟨hopen, hstate'⟩ := hends
        have hnot : v.pump.state ≠ .claiming := by rw [hstate']; (repeat' split) <;> simp
        rw [State.contactor, hpumpOf hnot]
        exact ⟨hopen, hstate'.trans (by rw [hupump]; rfl)⟩

end

end Sys2Proof.Machine

/-! ## The move into Hand (R64, R84 to R86, R110, R111) -/

namespace Sys2Proof.Machine

section

open Sys2Proof

/-- Settles O42: a move into Hand is a Hand start from the states without a driven motor, and takes over the motor in the
others. -/
theorem selectorMovesToHand : Obligations.SelectorMovesToHand := by
  intro s dt hsound hended hfitted hselector
  obtain ⟨u, hu⟩ : ∃ u, u = (s.elapse dt).onPump (Pump.withSelector .hand) := ⟨_, rfl⟩
  have hupump : u.pump = s.pump.withSelector .hand := by rw [hu]; rfl
  have husound : u.pump.Sound := by rw [hupump]; exact hsound
  have hustate : u.pump.state = s.pump.state := by rw [hupump]; rfl
  have huended : u.ended := by rw [hu]; exact hended
  have hustart : (s.elapse dt).Around [.a5, .a6] [] u := by rw [hu]; exact (State.Around.refl _).onPump
  have hexec := exec_pumpSelectorMove_acts (dt := dt) (inputs := ⟨true, false⟩) (x := .hand) rfl
    (Ne.symm hselector) hended hfitted
  rw [← hu] at hexec
  obtain ⟨v, hv⟩ : ∃ v, v = u.moveToHand := ⟨_, rfl⟩
  rw [show u.moveSelector .hand = v from hv.symm] at hexec
  obtain ⟨gs, haround⟩ := hustart.moveToHand (by simp) (by simp)
  rw [← hv] at haround
  have hround := (haround.reformAvailability (by simp)).finish
  have hscreen : v.reformAvailability.finish.screen = (s.elapse dt).screen := by
    rw [show v.reformAvailability.finish.screen = v.screen by simp, hv, State.moveToHand_screen, hu]
    rfl
  have hsettled (h : v.pump.state ≠ .claiming) := State.settled_kept (s := v)
    (by rw [hv] at h ⊢; exact State.moveSelector_claimPhase (x := .hand) husound huended h)
  have hlasting : v.reformAvailability.finish.pump.lasting = v.pump.lasting := by
    rw [State.finish_pump, State.reformAvailability_lasting]
  have hstarts := Pump.starts_of_lasting hlasting
  have hnow : v.reformAvailability.finish.now = s.now + dt := by simp [hv, hu]
  refine ⟨_, hexec, hround.sameBut hscreen, hround.aroundThePump, ?_, fun hstate => ⟨fun hclaiming hlose hcommitted =>
    ?claim, fun hhealthy => ?healthy, fun hlost => ?lost⟩, fun hstate => ?proving, fun hstate => ?proved,
    fun hstate => ?locked⟩
  · rw [hlasting, hstarts, hv, State.moveToHand_lasting, hupump]
    rfl
  case proving =>
    have hmoved := State.moveToHand_proving (hustate.trans hstate)
    have hkept := State.moveToHand_starts_kept (.inl (hustate.trans hstate))
    rw [← hv] at hmoved hkept
    obtain ⟨hhand, hphase, hclosed, hwindow, hclaim⟩ := hmoved
    rw [State.contactor, (hsettled (by simp [hhand])).1]
    exact ⟨hhand, hphase, hclosed, hwindow.trans (by rw [hupump]; rfl), hclaim, hkept.trans (by rw [hupump]; rfl)⟩
  case proved =>
    rw [← hustate] at hstate
    have hmoved := State.moveToHand_proved hstate
    have hkept := State.moveToHand_starts_kept (.inr hstate)
    rw [← hv] at hmoved hkept
    obtain ⟨hhand, hphase, hclosed, hclaim, hminRun, hdelay⟩ := hmoved
    rw [State.contactor, (hsettled (by simp [hhand])).1]
    exact ⟨hhand, hphase, hclosed, hclaim, hminRun, hdelay, hkept.trans (by rw [hupump]; rfl)⟩
  case locked =>
    have hvu : v = u := by rw [hv, State.moveToHand_rests (.inr (.inl (hustate.trans hstate)))]
    rw [(hsettled (by simp [hvu, hustate, hstate])).1, hvu, hupump]
    rfl
  all_goals
    obtain ⟨w, hw⟩ : ∃ w, w = u.leaveClaim := ⟨_, rfl⟩
    have hwpump : w.pump = s.pump.withSelector .hand := by rw [hw, ← hupump]; simp
    have hvw : v = w.handStart := by
      rw [hv, hw]
      exact State.moveToHand_starts husound (by rwa [hustate])
    have hwsupply : w.supply = s.supply := by rw [hw]; simp [hu]
  case claim =>
    obtain ⟨x, hx⟩ := w.handStart_line
    rw [(hsettled (by rw [hvw]; exact w.handStart_not_claiming)).2.1, hvw, hx]
    have hleft := (State.leaveClaim_line (s := u) (by rw [hupump]; exact hlose)).1 (by rw [hu]; exact hcommitted)
    rw [← hw] at hleft
    exact hleft
  case healthy =>
    have hwhealthy : w.supply.healthy = true := by rw [hwsupply, hhealthy]
    have hwnow : w.now = s.now + dt := by rw [hw]; simp [hu]
    have hwstartUp : w.startUp = (s.elapse dt).startUp := by rw [hw]; simp [hu]
    have hwgeneral : w.general = s.general := State.general_congr (s := s.elapse dt) hwstartUp
    have hwalarm : w.alarm .a6 = s.alarm .a6 := State.alarm_congr (by rw [hw]; simp [hu]) _
    have hwsetting : w.alarmSetting .a6 = s.alarmSetting .a6 := State.alarmSetting_congr (s := s.elapse dt) hwstartUp _
    have hwheld : w.staging.limitHeld = s.staging.limitHeld := by rw [hw]; simp [hu]
    have hwaged : (w.pump.aged w.startUp.runClock).starts =
        s.pump.starts.filter fun x => decide ((s.elapse dt).startUp.runClock - x < 3600) := by
      rw [hwpump, hwstartUp]; rfl
    have hwstarts : w.pump.starts = s.pump.starts := by rw [hwpump]; rfl
    have hvstarts : v.pump.starts = w.startList := by
      rw [hvw]
      exact Pump.starts_of_lasting_with (State.handStart_lasting hwhealthy)
    have hwaround : (s.elapse dt).Around [.a5, .a6] [] w := by rw [hw]; exact hustart.leaveClaim
    obtain ⟨hpump, _, _, halarm, hheld⟩ := hsettled (by rw [hvw]; exact w.handStart_not_claiming)
    obtain ⟨ha6, hlimit⟩ := State.handStart_a6 hwhealthy
    obtain ⟨hevent, hlost, hrests⟩ :=
      State.handStarted_a6 (s := w) (State.ended_of_kept (s := s.elapse dt) hended hwstartUp)
    have hlength := State.startList_length (s := w)
    rw [hwgeneral, hwaged, hwstarts, hwheld, hwalarm, hwsetting, hwnow] at hevent
    rw [hwaged, hwstarts] at hlost
    rw [hwgeneral, hwaged, hwstarts, hwheld, hwalarm] at hrests
    rw [hwgeneral, hwstarts] at hlength
    rw [State.contactor, hpump, halarm, hheld, hnow, hvstarts, hvw, ha6, hlimit]
    refine ⟨⟨_, rfl, ?_, hlength, hevent, hlost, hrests⟩, fun hinterval => ?_, fun hno => ?_, fun hyes => ?_⟩
    · rw [State.startList, hwgeneral, hwaged, hwstartUp]
    · have hcounted := ((hwaround.handStart (by simp) (by simp) hwhealthy).reformAvailability (by simp)).finish
      exact State.handStart_accumulated hcounted (by simpa using hinterval)
    · have hstarted := State.handStart_of_noFeedback hwhealthy (by rw [hwpump]; exact hno)
      obtain ⟨hhand, hphase, hclosed, hclaim, hstart, hwindow⟩ := w.handStarted_hand
      rw [hstarted]
      exact ⟨hhand, hphase, hclosed, hclaim, hstart.trans (by rw [hwnow]),
        hwindow.trans (by rw [State.newWindow, hwnow, hwgeneral])⟩
    · obtain ⟨hlocked, hcause⟩ := State.handStart_locks hwhealthy (by rw [hwpump]; exact hyes)
      exact ⟨hlocked, hcause, Pump.closed_of_locked hlocked⟩
  case lost =>
    obtain ⟨hhand, hphase, hopen, hclaim, hkept⟩ := State.handStart_halts (s := w) (by rw [hwsupply, hlost])
    rw [← hvw] at hhand hphase hopen hclaim hkept
    rw [State.contactor, (hsettled (by simp [hhand])).1]
    exact ⟨hhand, hphase, hopen, hclaim, (Pump.starts_of_lasting hkept).trans (by rw [hwpump]; rfl)⟩

end

end Sys2Proof.Machine
